-- ==== Sys2Proof/Word.lean ====
section
/-! DEFINITION. The words of the NK-3280: bytes, register words and wider fields (00 Notation: registers are 32 bits wide). -/

namespace Sys2Proof

/-- One byte. -/
abbrev Byte := BitVec 8

/-- A 16-bit field (event codes, item numbers, index fields; 00 R9, R12). -/
abbrev Half := BitVec 16

/-- A register word (00 Register tables). -/
abbrev Word := BitVec 32

/-- A 64-bit field, split into _LO and _HI registers (00 Register tables). -/
abbrev Long := BitVec 64

end Sys2Proof
end

