-- ==== Sys2Proof/Syntax.lean ====
section
/-! DEFINITION. The commands the block takes: one constructor of `Instr` per row of spec/opcode_table.json, with the
operands each event, packet, message or register access carries. Times are spindle times in nanoseconds (01 R16). -/

namespace Sys2Proof

/-- The agent classes of 08 R269 in row order, with the firmware cluster split as 16 R524 and R527 do. -/
inductive Agent where
  | dmaItem | dmaLoader | finyx | engine
  | headstock
  | component (id : Fin 8)
  /-- A component's DMA, which its set of regions governs through an IOPMP (16 R524). -/
  | componentDma (id : Fin 8)
  | kernel
  | application
  /-- The maintenance port in physical mode (16 R555: the firmware cluster's rights). -/
  | maintenance
  deriving DecidableEq, Repr

/-- The monitored rails of 17 R575. -/
inductive MonitoredRail where
  | aon | soc | io18 | memPhy
  deriving DecidableEq, Repr

/-- Sources of measurements, by the codes 1 to 5 of 01 'Reference sources and lock'. -/
inductive TimeSource where
  | gptpT1 | gptp0 | gptp1 | pps | finyx
  deriving DecidableEq, Repr

/-- A HEARTBEAT payload (12 R398). -/
structure Heartbeat where
  sender : Nat
  activeList : Nat
  retiring : Bool
  degraded : Bool
  turn : Nat
  index : Nat
  buddy : Nat
  count : Nat
  deriving DecidableEq, Repr

/-- An ALIGN payload (12 R398). -/
structure AlignRec where
  master : Nat
  turn : Nat
  index : Nat
  sendTime : Nat
  correction : Nat
  deriving DecidableEq, Repr

/-- The part of a sequenced transaction's header (12 R392) that its receiver uses, with its payload. -/
structure Transaction where
  source : Nat
  destination : Nat
  original : Nat
  redirected : Bool
  turn : Nat
  sequence : Nat
  address : Nat
  item : Nat
  last : Bool
  payload : List Byte
  deriving DecidableEq, Repr

/-- What a transaction carries on a link (12 R392 types). -/
inductive TransitKind where
  | write | signal | mirror | ack | heartbeat | align | takeover
  deriving DecidableEq, Repr

/-- Where a request reached the mailbox service (16 R538, R540, R555, R557, 15 R491). -/
inductive Path where
  | eth (port : Fin 3) (address : Nat)
  | maint
  | app (m : Fin 4)
  | recovery (port : Bool)
  /-- A stop request of the safety port, which takes its turn among the requests (16 R540). -/
  | safety
  deriving DecidableEq, Repr

/-- The header fields of a request that decide how it is executed (16 R534, R539, R540). -/
structure ReqHdr where
  path : Path
  major : Nat
  minor : Nat
  sequence : Nat
  session : Nat
  deriving DecidableEq, Repr

/-- The outcome the receiver's header check gives for a packet (09 R291, R302). -/
inductive HeaderCheck where
  | ok | corrected | uncorrectable
  deriving DecidableEq, Repr

/-- What a CSI receiver's lanes report (09 R293, R306, R323). -/
inductive LaneEvent where
  | synced (lanes : BitVec 4) | lost | deskewDone | controlError
  deriving DecidableEq, Repr

/-- The events that make an up port retrain, with the trigger codes of FX_RETRAIN (12 R389, R407). -/
inductive RetrainTrigger where
  | lock | retries | fec
  deriving DecidableEq, Repr

/-- One rail's reading over PMBus at a tick (14 R462, R464): none when the regulator did not respond. -/
structure RailReading where
  response : Bool
  milliamp : Nat
  millivolt : Nat
  fullScale : Bool
  deriving DecidableEq, Repr

/-- A regulator of 17 R572: its power, or none when it did not respond. -/
abbrev OtherReading := Option Nat

/-- A fragment of a message in an Ethernet frame (16 R534, R535). -/
structure Fragment where
  msgType : Nat
  major : Nat
  minor : Nat
  flags : Nat
  status : Nat := 0
  length : Nat
  sequence : Nat
  session : Nat
  offset : Nat
  data : List Byte
  deriving DecidableEq, Repr

/-- Erroneous bits or symbols that a bus access meets: in the first codeword of the memory it reaches, and in the words of SRAM and
caches of the cluster that makes it (13 R410). -/
structure AccessErrors where
  memory : Nat := 0
  cache : Nat := 0
  deriving DecidableEq, Repr

/-- Erroneous bits or symbols that a read of a DMA channel meets: in the first codeword of its source, in the window table, and in
the skew buffer (13 R410). -/
structure ReadErrors where
  source : Nat := 0
  table : Nat := 0
  skew : Nat := 0
  deriving DecidableEq, Repr

/-- The vector unit that has finished, and erroneous bits in the window table word that it read (02 R96; 13 R410). -/
structure VectorEnd where
  core : Fin 32
  table : Nat := 0
  deriving DecidableEq, Repr

/-- The addresses of a UDP datagram, an IPv4 address in the IPv4-mapped form (16 R533), with the first byte of an address in bits
7:0; its destination port; and whether IP has fragmented it (16 R530). -/
structure Datagram where
  source : Nat
  destination : Nat
  destPort : Nat
  fragmented : Bool := false
  deriving DecidableEq, Repr

/-- What an Ethernet frame holds (16 R530, R532, R536). -/
inductive EthPayload where
  | gptp
  | mka (livePeer : Bool)
  /-- A UDP datagram with a fragment of a message. -/
  | fragment (u : Datagram) (f : Fragment)
  /-- An ARP request or an NDP neighbour solicitation: who asks, and the address asked for. -/
  | resolve (source target : Nat)
  /-- An ICMP or ICMPv6 echo request with its data. -/
  | echo (source destination : Nat) (data : List Byte)
  /-- Any other datagram or frame, and whether it is a fragmented IP datagram. -/
  | other (fragmented : Bool)
  deriving DecidableEq, Repr

/-- What the headers of a bitstream declare (11 R360, R361): codec, HEVC general_profile_idc or AV1 seq_profile, HEVC
general_level_idc, sample bits, 4:2:0 or monochrome, anything else that R360 excludes, and the declared size. -/
structure Bitstream where
  av1 : Bool
  profile : Nat
  level : Nat
  bits : Nat
  mono : Bool
  chroma420 : Bool
  excluded : Bool
  width : Nat
  height : Nat
  deriving DecidableEq, Repr

/-- What a decoder makes of the bitstream of one frame of a replay sample (11 R361, R362): the pictures decoded up to the frame
and with it, how many of those before it are incomplete, and the frame's own samples; in an incomplete one, those that were
reconstructed, wherever they stand. Its samples are decoded from its references as they stand, grey filled in. -/
inductive DecodeResult where
  | decoded (b : Bitstream) (pictures spoiled width height : Nat) (luma cb cr : List Half)
  | incomplete (b : Bitstream) (pictures spoiled width height : Nat) (luma cb cr : List (Option Half))
  | readError
  deriving DecidableEq, Repr

/-- A line that the replay loader delivers: when, and whether a tap line of the pipe misses its bound (11 R371; 10 R340). -/
structure ReplayLine where
  at_ : Nat
  late : Bool
  deriving DecidableEq, Repr

/-- The gPTP Sync messages of one domain on an Ethernet port (01 R13; 16 R530). -/
structure SyncMessage where
  port : Fin 3
  domain : Byte
  deriving DecidableEq, Repr

/-- The commands. Each constructor is one row of the operation and event table. -/
inductive Instr where
  -- reset, starts and training (15, 17)
  | porstRise (strapRecovery strapTest : Bool)
  | porstFall (lowNs : Nat)
  | brownOut (rail : MonitoredRail) (permilleBelow lowNs : Nat)
  | brownOutEnd
  | coldStart (sfdpOk : Bool)
  | warmStart (recordCrcOk : Bool) (channelsFailing : BitVec 16)
  | memTrainingComplete (failed : BitVec 16) (gibPerChannel : List Nat)
  | fxTrainingComplete (port : Fin 8) (ok : Bool) (neighbour : Nat) (neighbourPort : Fin 8) (signature : Long)
      (delayNs : Nat)
  | enterReady (startMs : Nat)
  -- spindle (01)
  | gptpSync (sync : SyncMessage) (reference : Nat) (at_ : Nat)
  | ppsEdge (at_ : Nat)
  | sourceTimeout (source : TimeSource)
  | holdoverExpired (at_ : Nat)
  | indexBoundary
  | fsyncAssert (f : Fin 8)
  | fsyncDeassert (f : Fin 8)
  | ppsOutAssert
  | ppsOutDeassert
  | stepRequest
  | spPeriodWrite (value : Word)
  | spPhaseWrite (value : Word)
  | spSlewWrite (value : Word)
  | fsyncOffsetWrite (f : Fin 8) (value : Word)
  | holdReleaseNow (mask : BitVec 11)
  | holdReleaseAtTurn (mask : BitVec 11)
  | ppsSecondsArm (low : Word)
  -- latching and selecting register accesses
  | spTimeLoRead
  | nePlanActiveLoRead
  | dmaBadAddrLoRead (channel : Fin 80)
  | memUeAddrLoRead
  | memProtAddrLoRead
  | csiTsLoRead (stream : Fin 32)
  | hsSlotSeqLoRead (slotB : Bool)
  | hsNonceLoRead
  | pertNonceLoRead
  | neQstatSelWrite (value : Word)
  | neQthrWrite (value : Word)
  | neCtrSelWrite (value : Word)
  | fxWindowWrite (receive : Bool) (window : Fin 16) (reg : Fin 3) (value : Word)
  | hsMeasSelWrite (value : Word)
  | hsExtExtend (agent : Agent)
  | pertClose
  | pertSlotEnable (slot : Fin 16) (value : Word)
  | pertSlotEnd (slot : Fin 16)
  | registerWrite (address : Nat) (value : Word)
  -- memory (08, 02)
  | physAccess (agent : Agent) (address : Nat) (bytes : Nat) (store : Option (List Byte)) (errors : AccessErrors)
  | dramScrubStep (channel : Fin 16) (errors : Nat)
  | shmScrubStep (slice : Fin 16) (errors : Nat)
  | dramRefreshPoll (channel : Fin 16) (refreshMult : Nat)
  | dramChannelFault (channel : Fin 16)
  | dramRetrainDone (channel : Fin 16) (ok : Bool)
  -- arrays and vector units (02 to 05)
  | passFeedComplete (core : Fin 32) (array : Fin 4)
  | passDecisionPoint (core : Fin 32) (array : Fin 4) (faults : List (Fin 32 × Fin 32))
  | descriptorComplete (core : Fin 32) (array : Fin 4)
  | vectorOpComplete (unit : VectorEnd)
  -- plans and DMA (06, 07)
  | constantsWritten
  | dmaLoadComplete (channel : Fin 80) (readOk : Bool) (waited : Nat)
  | dmaReadData (channel : Fin 80) (errors : ReadErrors)
  | dmaWriteAck (channel : Fin 80)
  | dmaAccessTimeout (channel : Fin 80)
  | mirrorAckTimeout (channel : Fin 80)
  | emitQueueTimeout (channel : Fin 80)
  | dmaDescBad (channel : Fin 80)
  -- cameras (09)
  | frameStart (rx : Fin 8) (vc : Fin 32) (number : Half) (header : HeaderCheck) (at_ : Nat)
  | frameEnd (rx : Fin 8) (vc : Fin 32) (number : Half) (header : HeaderCheck) (at_ : Nat)
  | ignoredShortPacket (rx : Fin 8) (vc : Fin 32) (dataType : BitVec 6) (header : HeaderCheck)
  | longPacket (rx : Fin 8) (vc : Fin 32) (dataType : BitVec 6) (header : HeaderCheck) (crcOk fits : Bool)
      (data : List Byte) (at_ : Nat)
  | laneSotError (rx : Fin 8)
  | lineAccepted (stream : Fin 32) (lateTap : Bool) (at_ : Nat)
  | frameTimeout (stream : Fin 32) (at_ : Nat)
  | frameCompletion (stream : Fin 32) (at_ : Nat)
  | camStreamLost (stream : Fin 32)
  | scmEntryComplete (master : Fin 8) (status : Fin 3) (readData : List Byte) (at_ : Nat)
  | scmTimeout (master : Fin 8) (at_ : Nat)
  | camIbi (master : Fin 8) (address : BitVec 7) (mdb : Byte)
  -- image pipes and warp (10)
  | warpBandStart (pipe : Fin 4) (context : Fin 8) (output : Fin 4)
  | warpBandComplete (pipe : Fin 4) (context : Fin 8) (output : Fin 4)
  -- video (11)
  | encodeComplete (encoder : Fin 16) (bitstream : List Byte)
  | logData (encoder : Fin 16)
  | decodeComplete (decoder : Fin 48) (result : DecodeResult)
  | replayFrameStart (stream : Fin 32) (at_ : Nat)
  | replayLineDelivery (stream : Fin 32) (line : ReplayLine)
  -- join (12)
  | flitReceived (port : Fin 8) (crcOk fecCorrected fecUncorrectable : Bool)
  | laneLockLoss (port : Fin 8) (trigger : RetrainTrigger)
  | portRetrainDone (port : Fin 8) (ok : Bool)
  | transitReceived (port : Fin 8) (kind : TransitKind) (t : Transaction) (correction residenceNs : Nat)
  | writeReceived (t : Transaction)
  | signalReceived (t : Transaction)
  | mirrorReceived (t : Transaction)
  | ackReceived (source : Nat) (sequence refused : Nat)
  | heartbeatReceived (h : Heartbeat)
  | alignReceived (port : Fin 8) (a : AlignRec) (at_ : Nat)
  | takeoverReceived (sender retired turn index sequence : Nat)
  | e2eTimeout (destination : Nat)
  -- health monitor (13)
  | logRecordMove
  | turnHealthRecord
  | watchdogExpiry (component : Fin 8)
  | hmWatchdogExpiry
  -- power and thermal (14)
  | steadyTick (rails : List RailReading) (other : List OtherReading)
  | groupReportWrite
  | voltageReached (quadrant : Fin 4)
  | limiterWindow (quadrant : Fin 4) (staticMa dynamicMa : Nat)
  | ballastWindow (quadrant : Fin 4) (realMa perSixteenthMa : Nat)
  | ballastHoldExpiry (quadrant : Fin 4)
  | thermalSample (quadrant : Fin 4) (temps : List Int)
  | railLoss (quadrant : Fin 4) (millivolt : Nat)
  -- Ethernet and sessions (16)
  -- destMac: the destination MAC address, its first byte in bits 7:0
  | ethFrameReceived (port : Fin 3) (secured icvOk : Bool) (destMac vlan : Nat) (body : EthPayload) (at_ : Nat)
  | reassemblyTimeout (session sequence : Nat)
  | macsecPeerTimeout (port : Fin 3)
  | sessionIdleTimeout (session : Nat)
  -- messages (16 R541)
  | openSession (hdr : ReqHdr) (minMajor maxMajor maxMinor role : Nat)
  | closeSession (hdr : ReqHdr)
  | keepalive (hdr : ReqHdr)
  | status (hdr : ReqHdr)
  | start (hdr : ReqHdr) (startTurn : Word) (useStartTurn : Bool)
  | stop (hdr : ReqHdr)
  | restartWarm (hdr : ReqHdr)
  | restartCold (hdr : ReqHdr)
  | eventRead (hdr : ReqHdr) (first count : Nat)
  | eventSubscribe (hdr : ReqHdr) (severity : Nat)
  | unknownType (hdr : ReqHdr) (msgType : Nat)
  | modelReadResponse (entry modelId offset length : Nat) (data : List Byte)
  | modelReadTimeout (entry offset : Nat)
  | fetchRetry (entry : Nat)
  | updateBegin (hdr : ReqHdr) (kind modelId length neOffset : Nat) (digest : List Byte)
  | updateData (hdr : ReqHdr) (handle offset : Nat) (data : List Byte)
  | updateEnd (hdr : ReqHdr) (handle : Nat)
  | updateAccept (hdr : ReqHdr)
  | updateDiscard (hdr : ReqHdr)
  | updateStatus (hdr : ReqHdr)
  | replayStart (hdr : ReqHdr) (validation : List Byte)
  | replayStop (hdr : ReqHdr)
  | nonce (hdr : ReqHdr)
  | quote (hdr : ReqHdr) (hostNonce : List Byte)
  | securityRequest (hdr : ReqHdr) (record : List Byte)
  | pertAuthorise (hdr : ReqHdr) (record : List Byte)
  | provisionKey (hdr : ReqHdr) (slot : Nat) (key : List Byte)
  | provisionLifecycle (hdr : ReqHdr)
  | recoveryStatus (hdr : ReqHdr)
  | recoveryWrite (hdr : ReqHdr) (target offset : Nat) (data : List Byte)
  | recoveryCommit (hdr : ReqHdr) (target total : Nat)
  -- safety port (16 R552 to R554)
  | safetyReadFrame (offset count : Nat)
  | safetyChallenge (frame : List Byte)
  | safetyStopRequest (frame : List Byte)
  | safetyAliveTick
  -- maintenance port and application mailboxes (16 R555 to R558)
  | maintDataRead
  | maintDataWrite (frame : List Byte)
  | maintDoorbell (frame : List Byte)
  | appMailboxRequest (m : Fin 4) (reqWr : Word)
  | appMailboxCfgWrite (m : Fin 4) (value : Word)
  | appMailboxRspFreed (m : Fin 4) (rspRd : Word)
  | registerClearingRead (address : Nat)
  -- further events
  | asCapableChange (port : Fin 3) (linkUp asCapable : Bool)
  | csiLaneSync (rx : Fin 8) (event : LaneEvent)
  | componentRestartDone (component : Fin 8)
  -- control: a gPTP or MKA frame, which holds nothing of the output queue
  | ethFrameTransmitted (port : Fin 3) (control : Bool)
  | qbvGateChange (port : Fin 3)
  | dramIntervalMaintenance (channel : Fin 16) (blockedNs refreshMult : Nat)
  deriving DecidableEq, Repr

end Sys2Proof
end

