-- ==== Sys2Proof/Config.lean ====
section
/-! DEFINITION. What an implementation fixes or the spec leaves open: every constant here has no body, so no proof can see a
value of it. The free values are applied to the counter `freeCtr` of the state, or to the operands they depend on. -/

namespace Sys2Proof.Config

/-- Data returned for a codeword found uncorrectable, or corrected to wrong data (02 R589, 08 R277): a free byte. -/
opaque freeByte : Nat → Byte

/-- Whether a codeword with three or more errors is decoded to wrong data instead of reported (02 R589, 08 R277): free. -/
opaque miscorrects : Nat → Bool

/-- Whether a destination word of a failed STRIP or WINDOW descriptor holds its new value (07 R257): free, per word. -/
opaque stripWordWritten : Nat → Nat → Bool

/-- A random draw of Headstock: nonces (13 R436, 15 R499) and session identifiers (16 R537). -/
opaque draw : Nat → Long

/-- Which code within 2 units in the last place of the exact value an FP32 exponent, reciprocal or reciprocal square root has
(02 R97): the operation code and the operand's code give a number from which the model finds it. -/
opaque ulpError : Nat → Word → Nat

/-- One element of a softmax row (06 R208 names the operation and states no formula): in_type, out_type, row codes and element
number. -/
opaque softmax : Nat → Nat → List Word → Nat → Word

/-- One element of a normalised row (06 R208 names the operation and states no formula): in_type, out_type, row, scales, shifts,
element. -/
opaque normalise : Nat → Nat → List Word → List Word → List Word → Nat → Word

/-- A result that a rule leaves without a stated value: rule number and the free counter. -/
opaque unstated : Nat → Nat → Nat

/-- The fuse map of array a of core n, as CORE_REPAIRa holds it (02 R103). -/
opaque repair : Nat → Nat → Word

/-- Verification of a pure SLH-DSA-SHAKE-256s signature with an empty context (15 R483): key, message, signature. -/
opaque slhVerify : List Byte → List Byte → List Byte → Bool

/-- Public key of the SLH-DSA-SHAKE-256f pair generated from SK.seed, SK.prf and PK.seed (15 R503, FIPS 205). -/
opaque slhPublic : List Byte → List Byte

/-- Pure SLH-DSA-SHAKE-256f signature with an empty context (15 R504): seeds, message. -/
opaque slhSign : List Byte → List Byte → List Byte

/-- Pseudo-random delay of an index event under an injected spindle jitter (13 R438): ns, taken modulo the bound plus one. -/
opaque jitter : Nat → Nat

/-- Seed value of an array's ballast shift register at a start (14 R451 gives no value): array number and start count. -/
opaque ballastSeed : Nat → Nat → Word

/-- Bytes of the Headstock-visible ROM and other control-complex memories that no rule gives (16 R527). -/
opaque localByte : Nat → Byte

/-- The seven firmware components' regions in SRAM and in the firmware area (16 R524 names them and gives no bounds): whether
component c may read the address. The queue that another component writes and c receives from is one that c only reads. -/
opaque componentReads : Nat → Nat → Bool

/-- Whether component c may write the address (16 R524): its own regions, and the queues that it sends by. -/
opaque componentWrites : Nat → Nat → Bool

/-- Bytes 0 to 251 of the retained-state record for its contents, which no rule lays out (15 R514). -/
opaque recordLayout : List Byte → List Byte

end Sys2Proof.Config
end

