-- ==== Sys2Proof/Machine/State.lean ====
section
/-! DEFINITION. The state of the NK-3280 as plain data: the queue of waiting commands, the device state of 00 R5, the OTP,
and everything else the spec gives the part. Each field's docstring names its rule and its value at reset (the part in OFF,
power applied, PORST_N low). -/

namespace Sys2Proof.Machine

/-- The device states of 00 R5. -/
inductive Mode where
  | off | coldStart | warmStart | recovery | ready | turning | parked | replay | retired
  deriving DecidableEq, Repr

/-- The lifecycle states of 15 R494, in the code order of HS_STATUS.lifecycle. -/
inductive Lifecycle where
  | blank | development | production | returned
  deriving DecidableEq, Repr

/-- The lock states of 01 R16, in the code order of SP_STATUS.lock_state. -/
inductive LockState where
  | free | acquiring | locked | holdover | holdoverExpired
  deriving DecidableEq, Repr

/-- One event record (13 R411) before it is packed into 16 bytes. -/
structure EventRec where
  code : Nat
  index : Nat
  turn : Nat
  severity : Nat
  source : Nat
  payload : Long
  deriving DecidableEq, Repr

/-- Reasons a command could stop with a fault. The block has no fault of its own: every error the spec describes is an event
and a next state. -/
inductive Fault where
  /-- Raised by nobody in this model; it stands so that the outcome type has a name for it. Safe. -/
  | impossible
  deriving DecidableEq, Repr

/-- Reasons a command has no meaning in the model. -/
inductive Refusal where
  /-- A row of the table without a meaning yet, by its mnemonic. Safe: no claim covers it. -/
  | notModelled (mnemonic : String)
  deriving DecidableEq, Repr

/-- OTP and fuses (15 'Keys, lifecycle and security requests'). -/
structure Otp where
  /-- Four vendor key slots of 64 bytes, all zero when absent (15 R493; written at manufacture, DESIGN CHOICE all absent at reset,
  log entry 3). -/
  vendor : List (List Byte) := List.replicate 4 (List.replicate 64 0)
  /-- Four owner key slots of 64 bytes (15 R493; DESIGN CHOICE absent at reset, log entry 3). -/
  owner : List (List Byte) := List.replicate 4 (List.replicate 64 0)
  /-- Revocation bits of the vendor slots (15 R493; reset 0). -/
  vendorRevoked : BitVec 4 := 0
  /-- Revocation bits of the owner slots (15 R493; reset 0). -/
  ownerRevoked : BitVec 4 := 0
  /-- The 32-byte identity seed (15 R503; DESIGN CHOICE zero at reset, log entry 3). -/
  seed : List Byte := List.replicate 32 0
  /-- MAC addresses of the three ports (15 R491; DESIGN CHOICE zero at reset, log entry 3). -/
  macs : List Nat := [0, 0, 0]
  /-- The lifecycle fuses (15 R494; DESIGN CHOICE BLANK at reset, the state at manufacture, log entry 3). -/
  lifecycle : Lifecycle := .blank
  deriving DecidableEq, Repr

/-- Register contents, by address: only registers that differ from their reset value are listed. -/
structure Regs where
  /-- Active copies of register fields, by word address × 32 + low bit, only fields that differ from their reset value (00 R10,
  R11 and the register tables; reset: none listed, every field at its Reset column). -/
  act : List (Nat × Nat) := []
  /-- Shadow copies of registers with RWS fields written since the block's last commit (01 R52; reset none). -/
  shd : List (Nat × Nat) := []
  deriving DecidableEq, Repr

/-- The deferral period of a block (01 R56). -/
structure Defer where
  /-- A commit point has passed under the hold and no commit has ended the period (01 R56; reset false). -/
  active : Bool := false
  /-- SHADOW_HOLD_LONG has been raised in this period (01 R56; reset false). -/
  longRaised : Bool := false
  deriving DecidableEq, Repr

/-- Memory: shared, core and DRAM bytes in one physical space (08 R264). -/
structure Memory where
  /-- Bytes by address, addresses strictly rising, no zero byte listed (08 R264; reset none listed). -/
  cells : List Host.Cell := []
  /-- Erroneous bits (SECDED codewords) or symbols (DRAM bursts) by codeword address, rising, no zero listed (02 R93, 08 R276;
  reset none). -/
  errs : List (Nat × Nat) := []
  deriving DecidableEq, Repr

/-- Event queue and log (13 R414, R415, 15 R522). -/
structure Events where
  /-- The hardware queue, oldest first, at most 4096 records (13 R414; reset empty). -/
  queue : List EventRec := []
  /-- Records discarded while the queue was full and not yet reported (13 R414; reset 0). -/
  lost : Nat := 0
  /-- Records lost since cold start, log header bytes 28 to 31 (13 R415; reset 0). -/
  lostTotal : Nat := 0
  /-- Records of the log, newest first, at most 4,194,300 (13 R415; reset empty). -/
  log : List EventRec := []
  /-- Records written since cold start, log header bytes 16 to 23 (13 R415; reset 0). -/
  written : Nat := 0
  /-- newest_turn of the log header (13 R415; reset 0). -/
  newestTurn : Nat := 0
  /-- Events held by Headstock until the health monitor runs (15 R522; reset empty). -/
  held : List EventRec := []
  /-- The health monitor runs (16 R523, 13 R433; reset false). -/
  hmRunning : Bool := false
  /-- Severity 3 and 4 events since cold start, newest first, at most 96 kept (16 R554; reset empty). -/
  severe : List EventRec := []
  /-- Their count (16 R554 offset 0x040; reset 0). -/
  severeCount : Nat := 0
  deriving DecidableEq, Repr

/-- A time source's health (01 R14, R15). -/
structure SourceSt where
  /-- Healthy under 01 R15 (reset false). -/
  healthy : Bool := false
  /-- Consecutive measurements while healthy (01 R14; reset 0). -/
  streak : Nat := 0
  /-- Spindle time of the latest measurement (01 R595; reset none). -/
  lastAt : Option Nat := none
  /-- Reference time of the latest measurement (01 R595; reset 0). -/
  lastRef : Nat := 0
  /-- asCapable and link of the gPTP port (01 R15, 16 R559; reset false). -/
  capable : Bool := false
  /-- Consecutive PPS edges more than 10 us off (01 R15; reset 0). -/
  anomalies : Nat := 0
  deriving DecidableEq, Repr

/-- The spindle (01). -/
structure Spindle where
  /-- The spindle counts (01 R24; reset false). -/
  counting : Bool := false
  /-- Spindle time in ns, a 64-bit count (01 R24; reset 0). -/
  time : Nat := 0
  /-- Lock state (01 R16; reset FREE). -/
  lock : LockState := .free
  /-- Active source (code 1 to 5) and its SP_SRC_CTRL slot (01 R14; reset none). -/
  active : Option (Nat × Nat) := none
  /-- Source last active since the latest start (01 R14; reset none). -/
  lastActive : Option Nat := none
  /-- Health of the sources with codes 1 to 5 (01 R15; reset all unhealthy). -/
  sources : List SourceSt := List.replicate 5 {}
  /-- Phase error of the last measurement in ns (01 R595, R65 SP_PHASE_ERR; reset 0). -/
  phaseErr : Int := 0
  /-- Frequency correction in ppb (01 R595, R65 SP_FREQ_ADJ; reset 0). -/
  adjPpb : Int := 0
  /-- Rate of the source in ppb, as its measurements show it (01 R595; reset 0). -/
  srcRate : Int := 0

  /-- Corrections set at the last 8 measurements, newest first (01 R595; reset empty). -/
  corrections : List Int := []
  /-- Consecutive measurements within 100 ns (01 R16; reset 0). -/
  goodRun : Nat := 0
  /-- Consecutive measurements beyond 1 us while LOCKED (01 R16; reset 0). -/
  badRun : Nat := 0
  /-- Spindle time at which the spindle was last LOCKED (01 R16; reset none). -/
  lockedAt : Option Nat := none
  /-- Spindle time at which holdover began (01 R17; reset 0). -/
  holdoverFrom : Nat := 0
  /-- The whole turns k by which spindle time leads the reference's, of which turn_offset shows −127 to 127 (01 R21; reset 0). -/
  turnOffset : Int := 0
  /-- Seconds value armed for the next PPS edge (01 R22; reset none). -/
  ppsArmed : Option Nat := none
  /-- Seconds value of the latest PPS edge (01 R22; reset 0). -/
  ppsSeconds : Nat := 0
  /-- PPS has become active and its first edge is still to come (01 R22; reset false). -/
  ppsFirst : Bool := false
  /-- Turn period in use, us (01 R65; reset 0x08235 = 33,333). -/
  periodUs : Nat := 33333
  /-- Phase offset in use, ns (01 R65; reset 0). -/
  phaseNs : Nat := 0
  /-- A source became active and its step (01 R19) waits for its next measurement, which for PPS is its first edge (01 R22; reset
  false). -/
  stepPending : Bool := false
  /-- Timed hold releases that are armed: mask and turn (01 R59; reset none). -/
  releases : List (Nat × Nat) := []
  /-- Levels of the FSYNC outputs as asserted or not, 0 to 7 (01 R33; reset all false). -/
  fsync : List Bool := List.replicate 8 false
  /-- End time and polarity with which a running FSYNC pulse completes (01 R35; reset 0). -/
  fsyncPulse : List (Nat × Nat) := List.replicate 8 (0, 0)
  /-- PPS output asserted (01 R23; reset false). -/
  ppsOut : Bool := false
  /-- End time and polarity of the pulse on the PPS output (01 R23; reset 0). -/
  ppsPulse : Nat × Nat := (0, 0)
  /-- Finyx overrides the priority order under 01 R62 (reset false). -/
  finyxOverride : Bool := false
  /-- Consecutive alignment records beyond 2 us (01 R62; reset 0). -/
  alignRun : Nat := 0
  /-- The master's turn number minus the follower's, carried in join traffic (01 R63; reset 0). -/
  masterTurnDelta : Int := 0
  /-- Clock of frequency-correction events: delay of the last delivered index event in ns (01 R27, 13 R438 SPINDLE_JITTER; reset 0). -/
  indexDelay : Nat := 0
  deriving DecidableEq, Repr

/-- Pins whose level the rules give (17 R568, R580 to R582). -/
structure Pins where
  /-- PORST_N high (17 R579; reset false). -/
  porst : Bool := false
  /-- Brown-out reset asserted (17 R575; reset false). -/
  brownOut : Bool := false
  /-- RESET_OUT_N asserted (17 R580; reset true). -/
  resetOut : Bool := true
  /-- SAFE_ALERT_N asserted (17 R581; reset true). -/
  safeAlert : Bool := true
  /-- THERM_ALERT_N asserted (17 R564; reset false). -/
  thermAlert : Bool := false
  /-- XGn_PHY_RST_N driven low (17 R568; reset true). -/
  phyReset : Bool := true
  /-- MEMc_RST_N driven low (17 R568; reset true). -/
  memReset : Bool := true
  /-- AVSq_ and PM_ pins driven by Steady (17 R568; reset false). -/
  avsDriven : Bool := false
  /-- FLASH_ pins driven by the ROM (17 R568; reset false). -/
  flashDriven : Bool := false
  /-- FSYNCf and PPS_OUT driven as the spindle's registers set them, and no longer low (17 R568, R582; reset false). -/
  spindleDriven : Bool := false
  /-- TDO and JTAG enabled by open debug (15 R501, 17 R568; reset false). -/
  jtag : Bool := false
  /-- STRAP_RECOVERY as sampled (17 R579; reset false). -/
  strapRecovery : Bool := false
  /-- STRAP_TEST as sampled, which keeps Headstock in reset (17 R567; reset false). -/
  strapTest : Bool := false
  deriving DecidableEq, Repr

/-- A plan item record (06 R206), with its 32 body bytes. -/
structure Item where
  opcode : Nat
  flags : Nat
  num : Nat
  core : Nat
  unit : Nat
  notBefore : Nat
  deadline : Nat
  stream : Nat
  frame : Nat
  line : Nat
  w0c : Nat
  w0v : Nat
  w1c : Nat
  w1v : Nat
  sigCounter : Nat
  sigDevice : Nat
  stagger : Nat
  activity : Nat
  diag : Nat
  origin : Nat
  body : List Byte
  deriving DecidableEq, Repr

/-- One entry of the core constants (06 R223). -/
structure CoreConst where
  core : Nat
  kind : Nat
  offset : Nat
  data : List Byte
  deriving DecidableEq, Repr

/-- A loaded plan (06 R199 to R204, R221, R223), its sections taken apart. -/
structure Plan where
  header : List Byte
  primary : List Item
  fallback : List Item
  tensors : List Byte
  windows : List (List Byte)
  windowTensor : List Nat
  counters : List Byte
  dma : List (List Byte)
  profile : List Byte
  bindings : List (List Byte)
  constants : List CoreConst
  digest : List Byte
  deriving DecidableEq, Repr

/-- Where an item of the running turn stands (01 R45 to R49, 06 R209 to R212). -/
inductive Phase where
  | waiting | released | running | done | dropped | skipped | abandoned
  deriving DecidableEq, Repr

/-- Run-time state of an item (06 R206 to R219). -/
structure ItemRt where
  /-- Its record in the plan (06 R206). -/
  item : Item
  /-- Turn to which the item belongs (01 R45, R49). -/
  turn : Nat
  /-- It belongs to the fallback list (06 R201, R218). -/
  fallback : Bool
  /-- Where it stands (01 R45 to R49, 06 R209 to R212). -/
  phase : Phase := .waiting
  /-- Mark byte (06 R219). -/
  marks : Nat := 0
  /-- Its line wait is met (01 R41). -/
  lineMet : Bool := false
  /-- NO_FRAME received from its own line wait (09 R313). -/
  ownNoFrame : Bool := false
  /-- LATE already raised (01 R46). -/
  late : Bool := false
  deriving DecidableEq, Repr

/-- Counter value or flags, with its marks (06 R213, R219). -/
structure CounterSt where
  value : Nat := 0
  marks : Nat := 0
  /-- The values that it took in this turn, each with its index, oldest first (06 R214; reset none). -/
  steps : List (Nat × Nat) := []
  deriving DecidableEq, Repr

/-- A remote signal held for the next turn (06 R217). -/
structure HeldSignal where
  counter : Nat
  bit : Nat
  marks : Nat
  turn : Nat
  deriving DecidableEq, Repr

/-- The turn sequencer and the plan (01 'Jobs on the spindle', 06). -/
structure Seq where
  /-- The active plan (06 R230; reset none). -/
  plan : Option Plan := none
  /-- The plan active before a replay (11 R375; reset none). -/
  savedPlan : Option Plan := none
  /-- A start command is waiting for its constants to be written: kind of start, response path (06 R224; reset none). -/
  starting : Option ReqHdr := none
  /-- An accepted start and the job's first turn (01 R30; reset none). -/
  jobFirst : Option Nat := none
  /-- The first turn of the job has begun (01 R30; reset false). -/
  jobBegun : Bool := false
  /-- A stop command has been received in this job (00 R6; reset false). -/
  stopping : Bool := false
  /-- The fallback list is active (06 R225; reset false). -/
  fallbackActive : Bool := false
  /-- Items of the current turn and of items still being abandoned (01 R49, 06 R212; reset empty). -/
  items : List ItemRt := []
  /-- Counters that differ from zero (06 R213, R216; reset none listed). -/
  counters : List (Nat × CounterSt) := []
  /-- Remote signals held for the following turn (06 R217; reset empty). -/
  heldSignals : List HeldSignal := []
  /-- Coverage set of the current turn (12 R403; reset empty). -/
  coverage : List Nat := []
  /-- The coverage set is frozen and mirrors of the retired buddy are discarded (13 R427; reset false). -/
  frozen : Bool := false
  /-- Items released and completed in the current turn (06 R233 NE_ITEM_COUNT; reset 0). -/
  releasedCount : Nat := 0
  completedCount : Nat := 0
  /-- Index of the last completion in the current turn (01 R65 SP_SLACK; reset none). -/
  lastDone : Option Nat := none
  /-- LATE events, greatest lateness and overrun of the current turn (13 R431; reset 0). -/
  lateEvents : Nat := 0
  maxLate : Nat := 0
  overrun : Bool := false
  /-- Greatest lateness in a replay and whether a replay turn overran (11 R376; reset 0, false). -/
  replayMaxLate : Nat := 0
  replayOverrun : Bool := false
  /-- Outputs completed and parts sent in the current turn, by output_id (16 R543, R544; reset empty). -/
  outputs : List (Nat × Nat) := []
  outputsDone : Nat := 0
  partsSent : Nat := 0
  /-- An output of the turn carried REDONE (13 R431; reset false). -/
  redone : Bool := false
  /-- Jobs and replays begun, and how many of them a register of cycles counted had seen when it was last cleared (02 R105, R106;
  reset 0, none). -/
  runs : Nat := 0
  cycleMarks : List (Nat × Nat) := []
  /-- Last critical item: completion index, and whether a critical item was LATE (14 R469; reset none, false). -/
  critEnd : Option Nat := none
  critLate : Bool := false
  deriving DecidableEq, Repr

/-- An accumulator of a dot unit (04 R141, R142). -/
inductive Accum where
  | int (sum : Int)
  | fp (bits : Word) (mark : Option Bool)
  deriving DecidableEq, Repr

/-- The residue channel of one dot unit after a feeding (04 R153, R154): by how much, modulo 31, the residue expected of the
sum differs from the channel's, for an INT32 pass or for the first checked group of a floating-point pass, and the
differences of the pass's later checked groups. Zero means that the check passes. -/
structure DotCheck where
  first : Option Nat
  later : List Nat
  deriving DecidableEq, Repr

/-- A pass of a descriptor (02 R83, 04 R146 to R158). -/
structure PassRt where
  num : Nat
  /-- Shift s of this feeding (04 R147). -/
  shift : Nat := 0
  /-- This feeding is the pass's recompute (04 R157). -/
  recompute : Bool := false
  /-- Its feeding met an uncorrectable codeword (02 R591). -/
  badRead : Bool := false
  /-- Accumulators of the valid dot units, row-major (04 R139 to R144). -/
  accs : List Accum := []
  /-- What the residue channel found for each of them as fed (04 R153, R154). -/
  checks : List DotCheck := []
  /-- Row and column of the mismatch that a recompute answers (04 R157, R173). -/
  place : Nat × Nat := (0, 0)
  deriving DecidableEq, Repr

/-- One matrix array (02 R75, R83; 04). -/
structure ArrayRt where
  /-- Item whose descriptor is being fed or decided, and its turn (02 R83; reset none). -/
  item : Option Nat := none
  turn : Nat := 0
  /-- Next pass of the descriptor to feed (02 R83). -/
  nextPass : Nat := 0
  /-- Pass being fed (02 R83; reset none). -/
  feeding : Option PassRt := none
  /-- Passes fed and not yet decided, oldest first (02 R84; reset none). -/
  undecided : List PassRt := []
  /-- Granted replays and recomputes not yet fed, oldest first (04 R160). -/
  redo : List PassRt := []
  /-- Passes decided for good (02 R84; reset 0). -/
  settled : Nat := 0
  /-- Items whose descriptor has its last decision behind it and whose last row is still being written (02 R84). -/
  draining : List (Nat × Nat) := []
  /-- The item is abandoned (02 R85). -/
  abandoned : Bool := false
  /-- Mismatches in this turn (04 R158; reset 0). -/
  mismatchCount : Nat := 0
  /-- Passes fed by the array, whose parity names the accumulator in use (02 R83; reset 0). -/
  passParity : Nat := 0
  /-- Accumulators 0 and 1 of the dot units, row-major 32 by 32 (02 R107; reset zero, shown as empty). -/
  bank0 : List Accum := []
  bank1 : List Accum := []
  /-- QUANT_RECORD_FIXED raised for this descriptor (03 R119). -/
  fixedRaised : Bool := false
  deriving DecidableEq, Repr

/-- Quantisation statistics of one tensor (03 R130 to R134). -/
structure TensorSt where
  produced : Nat := 0
  lo : Nat := 0
  hi : Nat := 0
  nan : Bool := false
  sat : Bool := false
  /-- Snapshot bank: produced, low, high, nan, counted, share (03 R132). -/
  snapProduced : Nat := 0
  snapLo : Nat := 0
  snapHi : Nat := 0
  snapNan : Bool := false
  snapCounted : Bool := false
  snapPpm : Nat := 0
  /-- Active and shadow threshold (03 R134). -/
  threshold : Nat := 0
  thresholdShadow : Option Nat := none
  /-- Counted turns above the threshold in a row, or at or below it while in drift (03 R133). -/
  run : Nat := 0
  drift : Bool := false
  deriving DecidableEq, Repr

/-- The statistics bank (03). -/
structure Quant where
  /-- Tensors whose state differs from reset (03 R130; reset none listed). -/
  tensors : List (Nat × TensorSt) := []
  /-- Turn of the snapshot bank (03 R132; reset 0). -/
  snapTurn : Nat := 0
  /-- Some tensor was in drift during the replay (11 R376; reset false). -/
  driftInReplay : Bool := false
  deriving DecidableEq, Repr

/-- Per-core run-time state (02, 04). -/
structure CoreRt where
  /-- Replays charged in this turn (04 R148). -/
  replays : Nat := 0
  /-- The budget refused a replay in this turn (04 R150). -/
  spent : Bool := false
  /-- Item running on the vector unit, and its turn (02 R96; reset none). -/
  vec : Option (Nat × Nat) := none
  deriving DecidableEq, Repr

/-- A descriptor in a register set of a channel (07 R243 to R245). -/
structure DescRt where
  item : Nat
  turn : Nat
  record : Nat
  bytes : List Byte
  /-- The record could not be read without error (07 R256 cause 0x4). -/
  bad : Bool := false
  deriving DecidableEq, Repr

/-- One DMA channel (07). Channels 0 to 63 are channel c mod 2 of core c / 2; 64 to 79 are the shared channels. -/
structure DmaCh where
  /-- Active register set (07 R243; reset none). -/
  active : Option DescRt := none
  /-- Shadow register set, when valid (07 R244; reset none). -/
  shadow : Option DescRt := none
  /-- Load in flight: its descriptor's item, turn and record (07 R243; reset none). -/
  loading : Option (Nat × Nat × Nat) := none
  /-- DMA_LOAD_STALL raised in this turn (07 R246; reset false). -/
  stallRaised : Bool := false
  /-- Next line to read, counted over planes and lines, and bytes of that line already read (07 R239, R248; reset 0). -/
  line : Nat := 0
  pos : Nat := 0
  /-- Every read of the active descriptor has returned (07 R253; reset false). -/
  readsDone : Bool := false
  /-- Addresses of the active descriptor's write accesses that are not yet acknowledged, oldest first (07 R253, R256; reset none). -/
  unacked : List Nat := []
  /-- Bytes that the active EMIT has handed to the transmit queue (07 R256; reset 0). -/
  handed : Nat := 0
  /-- Data assembled in the skew buffer or funnel (07 R234, R240; reset empty). -/
  buffer : List Byte := []
  /-- Cause and failing address of a descriptor being ended (07 R257; reset none). -/
  cause : Option (Nat × Nat) := none
  /-- Blocks with a compressed-format error in the active descriptor (07 R260; reset 0). -/
  badBlocks : Nat := 0
  /-- The transmit queue has refused the EMIT's bytes (07 R256; reset false). -/
  refused : Bool := false
  /-- The item is abandoned and the channel stops at the next descriptor boundary (06 R212; reset false). -/
  abandoned : Bool := false
  /-- Spindle time at which an EMIT's first byte entered the queue (16 R543; reset none). -/
  queuedAt : Option Nat := none
  /-- Bytes written that do not yet fill a unit of DMA_CHc_BYTES (07 R261; reset 0). -/
  residue : Nat := 0
  deriving DecidableEq, Repr

/-- One memory channel's run-time state (08). -/
structure MemCh where
  /-- Scrub position as offset within the channel (08 R281; reset 0). -/
  scrub : Nat := 0
  /-- Sweeps completed (08 R281; reset 0). -/
  sweeps : Nat := 0
  /-- Corrected bursts in the present second, and that second (08 R280; reset 0). -/
  ceCount : Nat := 0
  ceSecond : Nat := 0
  /-- MEM_CE_RATE raised in that second (08 R280; reset false). -/
  ceRaised : Bool := false
  /-- Retraining under 08 R288 (reset false). -/
  retraining : Bool := false
  /-- Time blocked in this turn, ns (08 R289 MEM_CHc_MAINT; reset 0). -/
  blockedNs : Nat := 0
  /-- MEM_DRAM_HOT stands (08 R287; reset false). -/
  hot : Bool := false
  deriving DecidableEq, Repr

/-- Who waits for an access to DRAM: a PHYS_ACCESS for its answer, a DMA channel for its acknowledgement, or nobody. -/
inductive Waiter where
  | answer
  | channel (ch : Nat)
  | nobody
  deriving DecidableEq, Repr

/-- An access to DRAM that waits for its channel's retraining (08 R275, R288). -/
structure WaitingAccess where
  agent : Agent
  address : Nat
  bytes : Nat
  store : Option (List Byte)
  errors : Nat
  waiter : Waiter := .answer
  deriving DecidableEq, Repr

/-- The always-on domain and memory controller (08 R283, R284). -/
structure MemCtl where
  chans : List (Nat × MemCh) := []
  /-- Accesses that wait for the retraining of their channel, oldest first (08 R288; reset none). -/
  waiting : List WaitingAccess := []
  /-- The descriptors that were written into the descriptor store last (07 R238; reset none). -/
  inStore : List (List Byte) := []
  /-- Stored training results exist (08 R283; reset false). -/
  stored : Bool := false
  /-- Shared-memory scrub positions, one per slice (02 R102; reset 0). -/
  shmScrub : List Nat := List.replicate 16 0
  deriving DecidableEq, Repr

/-- A frame of a stream (09 R302 to R312). -/
structure Frame where
  /-- Turn of its frame window, ordinal in it (01 R39). -/
  turn : Nat
  ordinal : Nat
  /-- Number from Frame Start (09 R307). -/
  number : Nat
  /-- Capture time (09 R311). -/
  capture : Nat
  /-- Spindle time of its Frame Start (09 R302). -/
  startAt : Nat
  /-- A fifth or later frame of its window (01 R40). -/
  excess : Bool := false
  /-- The stream's gear was enabled at the Frame Start (06 R220). -/
  gear : Bool := true
  /-- Mark bits of the frame record (09 R307). -/
  marks : Nat := 0
  /-- Image lines that the stream path has taken, the line counter, lines discarded and filled (01 R37; 09 R298, R303, R304; 10
  R341; reset 0). -/
  linesReceived : Nat := 0
  linesAccepted : Nat := 0
  linesDiscarded : Nat := 0
  linesFilled : Nat := 0
  /-- CRC errors of its packets (09 R302; reset 0). -/
  crcErrors : Nat := 0
  /-- Packet headers corrected in it (09 R302; reset 0). -/
  hdrCorrected : Nat := 0
  /-- Spindle times of its first and its last image line (09 R307; reset 0). -/
  firstLineAt : Nat := 0
  lastLineAt : Nat := 0
  /-- Spindle time at which it ended; none while open (09 R302). -/
  endAt : Option Nat := none
  /-- The receiver has supplied its missing lines (09 R303; reset false). -/
  filled : Bool := false
  /-- Its completion has passed (09 R303). -/
  complete : Bool := false
  /-- It has been dropped once as stale (09 R312). -/
  staleDropped : Bool := false
  /-- CAM_FRAMING contents met, as the event's codes (09 R302, R306). -/
  framing : Nat := 0
  /-- Embedded lines received, the epoch read from them, the expected epoch (09 R321, R322). -/
  embLines : Nat := 0
  epoch : Option Nat := none
  expectedEpoch : Nat := 0
  /-- Logged epoch and marks of a replayed frame (11 R371). -/
  logged : Option (Nat × Nat) := none
  /-- Injection point of a replayed frame, bypass (0), T0 (1), T3 (2) or T4 (3), with the warp output (11 R365, R371); none for a frame
  that passes the stream's path. -/
  inject : Option (Nat × Nat) := none
  /-- Which frame of its stream it is, counted from the start of the block (the model's own name for it; 09 R302). -/
  id : Nat := 0
  /-- Configuration words of its stream at its Frame Start, with which it completes (09 R294). -/
  cfg : List Word := []
  deriving DecidableEq, Repr

/-- A checked long packet waiting for its stream path (09 R297, R298). -/
structure LinePkt where
  /-- Receiver whose buffer holds it (09 R297). -/
  rx : Nat
  /-- Frame to which it belongs, by `Frame.id` (09 R302). -/
  frame : Nat
  /-- Its payload. -/
  data : List Byte
  /-- Its CRC was right (09 R302). -/
  crcOk : Bool
  deriving DecidableEq, Repr

/-- One stream context (09). -/
structure StreamSt where
  /-- Configuration words in use, taken at the Frame Start (09 R294): CFG, SIZE, BLACK, TIME, EMB, BUF_LO, BUF_HI, BUF_CFG,
  REC_LO, REC_HI. -/
  cfg : List Word := []
  /-- Reason of 09 R295 for the committed configuration; 0 valid (reset 0). -/
  reject : Nat := 0
  /-- Frames of the present and previous windows, newest first (01 R39 to R41; reset empty). -/
  frames : List Frame := []
  /-- Frames started so far, which names the next one (09 R302; reset 0). -/
  frameCount : Nat := 0
  /-- Long packets buffered for the stream (09 R297; reset empty). -/
  lines : List LinePkt := []
  /-- Written epochs with their completion times, newest first (09 R321; reset empty). -/
  epochs : List (Nat × Nat) := []
  /-- CAM_OVERFLOW raised in this turn (09 R297; reset false). -/
  overflowRaised : Bool := false
  /-- CAM_FRAMING contents 1 and 2 raised since the last frame, as bits (09 R302, R306; reset 0). -/
  orphans : Nat := 0
  /-- Fields with which the black slot of its bypass buffer was last written (09 R301; reset empty). -/
  blackFor : List Nat := []
  /-- Spindle time at which a commit enabled it, from which its silence counts (09 R305; reset 0). -/
  since : Nat := 0
  /-- Stream lost (09 R305; reset false). -/
  lost : Bool := false
  /-- Driven by the replay loader (11 R373; reset false). -/
  replayed : Bool := false
  deriving DecidableEq, Repr

/-- One sensor-control master (09 R314 to R320). -/
structure ScmSt where
  /-- Copied table, 16-byte entries (09 R315; reset empty). -/
  table : List (List Byte) := []
  /-- Base from which it was copied (09 R315). -/
  base : Nat := 0
  /-- Next entry to start in this turn (09 R318; reset 0). -/
  next : Nat := 0
  /-- Transaction running: entry number, its 16 bytes, base of its table (09 R317 to R319; reset none). -/
  running : Option (Nat × List Byte × Nat) := none
  /-- First turn since the commit has not yet passed (09 R316 once; reset true). -/
  fresh : Bool := true
  deriving DecidableEq, Repr

/-- One receiver (09 R293, R306). -/
structure RxSt where
  /-- CAM_HEADER_LOST and CAM_PHY_ERROR raised in this turn (09 R306; reset false). -/
  hdrRaised : Bool := false
  phyRaised : Bool := false
  deriving DecidableEq, Repr

/-- A warp output of a lead frame whose next band is eligible (10 R348). -/
structure WarpJob where
  pipe : Nat
  context : Nat
  output : Nat
  /-- Lead stream and its frame, by `Frame.id` (10 R340). -/
  stream : Nat
  frame : Nat
  deriving DecidableEq, Repr

/-- Cameras (09). -/
structure Camera where
  /-- Receivers, by number (09 R291; reset none listed, each as its fields say). -/
  rx : List (Nat × RxSt) := []
  /-- Streams, by number (09 R294; reset none listed, each as its fields say). -/
  streams : List (Nat × StreamSt) := []
  /-- Sensor-control masters, by number (09 R314; reset none listed, each as its fields say). -/
  scm : List (Nat × ScmSt) := []
  /-- Warp outputs whose next band is eligible, oldest first (10 R348; reset empty). -/
  warpq : List WarpJob := []
  deriving DecidableEq, Repr

/-- One warp output of a frame in a pipe (10 R348). -/
structure WarpSt where
  /-- Next band of the frame, band running (10 R348). -/
  band : Nat := 0
  running : Bool := false
  deriving DecidableEq, Repr

/-- A lead frame in an image pipe, from its Frame Start to its completion (10 R326 to R350). -/
structure PipeRun where
  /-- Lead stream and its frame, by `Frame.id` (10 R340). -/
  stream : Nat
  frame : Nat
  /-- The context's register fields as the commit at its Frame Start left them, by key; unlisted ones at reset (10 R328). -/
  cfg : List (Nat × Nat) := []
  /-- The context table that it uses, empty when none is held (10 R328). -/
  table : List Byte := []
  /-- Black levels of the exposures and bits per pixel in use at its Frame Start (09 R294; 10 R339). -/
  black : List Nat := []
  bits : Nat := 8
  /-- Linear T1 lines held, (line, values with saturation flags), newest first (10 R332, R334). -/
  t1 : List (Nat × List (Nat × Bool)) := []
  /-- T2 and T3 lines that are in memory (10 R340, R348). -/
  produced : Nat := 0
  /-- isp_marks (10 R342). -/
  ispMarks : Nat := 0
  /-- Statistics: saturated, counted, histogram, grid (10 R343). -/
  saturated : Nat := 0
  counted : Nat := 0
  hist : List (Nat × Nat) := []
  grid : List (Nat × Nat) := []
  /-- Its warp outputs (10 R348). -/
  warps : List (Nat × WarpSt) := []
  deriving DecidableEq, Repr

/-- A line of a non-lead exposure in the merge store (10 R331): its stream and frame, by `Frame.id`. -/
structure MergeLine where
  stream : Nat
  frame : Nat
  line : Nat
  codes : List Nat
  deriving DecidableEq, Repr

/-- One image-pipe context (10). -/
structure CtxSt where
  /-- Copied context table, 2048 bytes, and the base it was copied from (10 R328; reset empty: none held, base 0). -/
  table : List Byte := []
  tableBase : Nat := 0
  /-- Stored lines of the exposures, newest first (10 R331; reset empty). -/
  store : List MergeLine := []
  /-- Lead frames in the pipe, oldest first (10 R326; reset empty). -/
  runs : List PipeRun := []
  /-- Reason of 10 R327 for the committed configuration; 0 valid or disabled (reset 0). -/
  reject : Nat := 0
  /-- Fields with which the black slots of its buffers were last written (09 R301; reset empty). -/
  blackFor : List Nat := []
  /-- Mesh base, size and T3 buffer with which each output's mesh was last checked; none for an output without a size (10 R349;
  reset none). -/
  checked : List (Nat × List Nat) := []
  deriving DecidableEq, Repr

/-- What an encoder stream reads: a bypass buffer, a tap or a warp output (11 R353). -/
inductive EncSource where
  | bypass (stream : Nat)
  | tap (pipe context unit : Nat)
  | warp (pipe context unit : Nat)
  deriving DecidableEq, Repr

/-- One encoder stream (11). -/
structure EncSt where
  /-- The next frame to come is coded as IDR (11 R356, R358; reset true). -/
  nextIdr : Bool := true
  /-- Profile of the frame that came last, true for Main 10 (11 R354, R358; reset none). -/
  profile : Option Bool := none
  /-- Frames since the last IDR (11 R356). -/
  sinceIdr : Nat := 0
  /-- LOG_DATA entry count (16 R545; reset 0). -/
  sentEntries : Nat := 0
  deriving DecidableEq, Repr

/-- A frame queued for encoding (11 R356). -/
structure EncJob where
  encoder : Nat
  stream : Nat
  frame : Frame
  /-- The source and the slot of it that holds the frame (11 R353, R356). -/
  source : EncSource
  slot : Nat
  /-- It is coded as IDR because of a skip, a dropped unit or a commit (11 R356 to R358). -/
  idr : Bool
  deriving DecidableEq, Repr

/-- A picture in 4:2:0 (11 R354, R360, R370): ten-bit or eight-bit samples. -/
structure Picture where
  ten : Bool
  width : Nat
  height : Nat
  luma : List Half
  cb : List Half
  cr : List Half
  deriving DecidableEq, Repr

/-- The frame under encoding (11 R354 to R358). -/
structure Coding where
  /-- The picture in its coded size (11 R354, R355). -/
  picture : Picture
  /-- Size of the conformance window (11 R355). -/
  width : Nat
  height : Nat
  /-- Coded as IDR, with this quantisation parameter and up to this many reference pictures (11 R355, R358). -/
  idr : Bool
  qp : Nat
  refs : Nat
  /-- The 64 bytes of the frame record that its SEI message carries (11 R355). -/
  record : List Byte
  deriving DecidableEq, Repr

/-- A frame table entry of a replay sample (11 R365). -/
structure RplFrame where
  stream : Nat
  decoder : Nat
  inject : Nat
  offset : Nat
  length : Nat
  startNs : Nat
  linePs : Nat
  epoch : Nat
  marks : Nat
  crc : Nat
  /-- Picture once decoded (11 R360; reset none). -/
  picture : Option Picture := none
  /-- Frame of the stream that it became at its Frame Start, by `Frame.id` (11 R371). -/
  started : Option Nat := none
  /-- Its last line has been delivered (11 R371). -/
  delivered : Bool := false
  deriving DecidableEq, Repr

/-- A sample of a batch (11 R366 to R370). -/
structure RplSample where
  index : Nat
  frames : List RplFrame
  /-- VID_RPL_UNDERRUN raised for it (11 R372). -/
  underrun : Bool := false
  /-- It has been counted as delivered (11 R371). -/
  counted : Bool := false
  deriving DecidableEq, Repr

/-- A batch (11 R368): its samples, whether it takes no more, and the epoch that ends with it. -/
structure RplBatch where
  samples : List RplSample := []
  closed : Bool := false
  epochEnd : Option Nat := none
  deriving DecidableEq, Repr

/-- The replay loader (11). -/
structure Replay where
  /-- Epoch whose positions are being loaded, and epochs not yet ended (11 R368; reset 0). -/
  epoch : Nat := 0
  epochsLeft : Nat := 0
  /-- Next position in the epoch (11 R368, R377 VID_RPL_POS; reset 0). -/
  pos : Nat := 0
  /-- Samples of the set, its base and length (11 R364; reset 0). -/
  samples : Nat := 0
  setBase : Nat := 0
  setLength : Nat := 0
  /-- Batch being filled for the next replay turn, and batch of this turn (11 R372; reset empty). -/
  next : RplBatch := {}
  current : RplBatch := {}
  /-- Turn in which the current batch began (11 R370; reset 0). -/
  turn : Nat := 0
  /-- Sample under decoding (11 R367; reset none). -/
  decoding : Option RplSample := none
  /-- Samples skipped, and entries in the skip log (11 R369, R376; reset 0). -/
  skipped : Nat := 0
  logged : Nat := 0
  /-- Replay ends at the next index 0 (11 R375; reset false). -/
  ending : Bool := false
  /-- A criterion of 13 R416 was met during the replay (11 R376; reset false). -/
  retireMet : Bool := false
  /-- Limits of the validation record (16 R550; reset 0). -/
  latenessLimit : Nat := 0
  skipLimit : Nat := 0
  deriving DecidableEq, Repr

/-- Video (11). -/
structure Video where
  /-- Encoder streams, by number (11 R353; reset none listed, each as its fields say). -/
  enc : List (Nat × EncSt) := []
  /-- Frames queued for encoding, oldest first (11 R356; reset empty). -/
  queue : List EncJob := []
  /-- The encode of the queue's head, which has started (11 R356; reset none). -/
  coding : Option Coding := none
  /-- The latest picture of each decoder stream, with its INCOMPLETE mark (11 R362; reset none). -/
  decoded : List (Nat × Picture × Bool) := []
  /-- The replay loader (11 R363 to R376; reset idle). -/
  replay : Replay := {}
  /-- Encoder stream whose entry was sent last (16 R545; reset 15). -/
  logLast : Nat := 15
  /-- Pixels encoded and decoded in this turn (11 R377 VID_LOAD; reset 0). -/
  encPixels : Nat := 0
  decPixels : Nat := 0
  deriving DecidableEq, Repr

/-- One Finyx port (12). -/
structure PortSt where
  /-- Consecutive retries of one flit (12 R380; reset 0). -/
  retries : Nat := 0
  /-- What made it retrain, as FX_RETRAIN tells it (12 R389, R407; reset 0). -/
  trigger : Nat := 0
  /-- A warm start restores its stored settings (12 R386; reset false). -/
  restoring : Bool := false
  deriving DecidableEq, Repr

/-- A transaction in the hold buffer, or a record sent (12 R392, R395). -/
structure HeldTx where
  kind : TransitKind
  destination : Nat
  t : Transaction
  /-- Channel whose access waits for the transaction's acceptance, or whose MIRROR waits for its acknowledgement (06 R211, 12 R396). -/
  channel : Option Nat := none
  /-- Item and turn of that channel's descriptor (06 R211, R212). -/
  owner : Option (Nat × Nat) := none
  /-- Port on which it left last (12 R381, R390); none while no route to its destination remains (12 R391). -/
  port : Option Nat := none
  deriving DecidableEq, Repr

/-- The join engine (12). -/
structure Join where
  /-- Finyx ports, by number (12 R379; reset none listed, each as its fields say). -/
  ports : List (Nat × PortSt) := []
  /-- Next sequence by destination, and next expected by source (12 R394; reset 1). -/
  txSeq : List (Nat × Nat) := []
  rxSeq : List (Nat × Nat) := []
  /-- Hold buffer, oldest first (12 R395; reset empty). -/
  held : List HeldTx := []
  /-- Transactions that a full hold buffer has not accepted yet, oldest first (12 R395; reset empty). -/
  waiting : List HeldTx := []
  /-- Transactions and records sent on links, newest first (12 R398; reset empty). -/
  sent : List HeldTx := []
  /-- Transactions that had to wait for room (12 R395; reset 0). -/
  stalls : Nat := 0
  /-- FX_HOLD_FULL raised in this turn (12 R395). -/
  fullRaised : Bool := false
  /-- Redirections: retired device and the device that took over (12 R399; reset none). -/
  redirects : List (Nat × Nat) := []
  /-- Present spindle master (12 R401; reset 0). -/
  master : Nat := 0
  /-- Refusals to report in the next ACK, by source (12 R394). -/
  refusals : List (Nat × Nat) := []
  /-- Buddy asymmetry reported (12 R384). -/
  asymmetric : Bool := false
  deriving DecidableEq, Repr

/-- Failover (13). -/
structure Failover where
  /-- Miss count (13 R419; reset 0). -/
  misses : Nat := 0
  /-- The buddy has been declared lost in this job (13 R419; reset false). -/
  lost : Bool := false
  /-- The device declared lost, which the health records name (13 R431; reset none). -/
  lostDevice : Option Nat := none
  /-- Buddy heartbeats received since the last evaluation (13 R419; reset empty). -/
  seen : List Heartbeat := []
  /-- Heartbeat count of this device in the job (12 R398; reset 0). -/
  sentCount : Nat := 0
  /-- Degraded state (13 R430; reset false). -/
  degraded : Bool := false
  /-- Retirement cause of the job (13 R416; reset 0). -/
  cause : Nat := 0
  /-- A criterion met and not yet in effect (13 R418, R420 step 4b; reset none). -/
  pendingCause : Option Nat := none
  /-- The part has retired and no multiple of 64 indices has passed since (13 R420 step 4b, R430; reset false). -/
  retiredSince : Bool := false
  /-- Silent loss: no traffic of its own (13 R438 kind 7; reset false). -/
  silent : Bool := false
  /-- TAKEOVERs sent in this job, by retired device (13 R425; reset empty). -/
  sentTakeover : List Nat := []
  deriving DecidableEq, Repr

/-- One rail and quadrant (14). -/
structure RailSt where
  /-- Ticks of mismatch in a row (14 R463; reset 0). -/
  mismatchRun : Nat := 0
  /-- Plausible measurements in a row, up to two (14 R464; reset 0). -/
  plausibleRun : Nat := 0
  /-- The rail is under 14 R464 (reset false). -/
  senseFault : Bool := false
  /-- Window means since the last tick: sum, count (14 R462; reset 0). -/
  estSum : Nat := 0
  estCount : Nat := 0
  /-- Window means in mA over the trailing 1 us, newest first, ten steps (14 R448; reset empty). -/
  means : List Nat := []
  /-- Gated 100 ns steps in this turn, and event raised (14 R450). -/
  gated : Nat := 0
  gatedRaised : Bool := false
  /-- Tick at which the quadrant may rise again (14 R459, R460). -/
  holdUntil : Nat := 0
  /-- Sensors' latest readings (14 R458; reset empty). -/
  temps : List Int := []
  /-- A temperature has been sampled since PWR_RAILq_TEMP.peak_c was last read (14 R474; reset false). -/
  peaked : Bool := false
  /-- The ballast level is held (14 R453; reset false). -/
  ballastHeld : Bool := false
  /-- Idle arrays at the last ballast window, as (core, array) (14 R453; reset empty). -/
  idle : List (Nat × Nat) := []
  /-- Throttling under R459 or R460 has begun and its lower threshold has not been met yet (14 R459, R460; reset false). -/
  gapHeld : Bool := false
  thermHeld : Bool := false
  /-- The quadrant rises again by at most one step every 10 ms (14 R459, R460; reset false). -/
  recovering : Bool := false
  /-- Previous ballast window's mean, mA (14 R452). -/
  prevMean : Nat := 0
  /-- Rise under way: the step whose voltage is awaited (14 R442; reset none). -/
  target : Option Nat := none
  deriving DecidableEq, Repr

/-- Power (14). -/
structure Power where
  /-- Rails and quadrants, by number (14 R441; reset none listed, each as its fields say). -/
  rails : List (Nat × RailSt) := []
  /-- Ticks of Steady so far (14 R459, R460: the waits of 10 ms; reset 0). -/
  ticks : Nat := 0
  /-- PWR_CAP_LIMITED raised in this turn (14 R465; reset false). -/
  capRaised : Bool := false
  /-- Regulators of 17 R572 that did not respond at the last tick, as bits (reset 0). -/
  otherSilent : Nat := 0
  /-- Rises of the latest tick that wait their turn, as (quadrant, step) (14 R457; reset empty). -/
  rises : List (Nat × Nat) := []
  /-- Allocation that takes effect at the next tick (14 R471; reset none). -/
  nextAlloc : Option Nat := none
  /-- The turn that ended, for its report: turn, critical item late, its last index, last completion, mean power in W (14 R469;
  reset empty). -/
  ended : List Nat := []
  /-- Shift registers of the 128 arrays from which ballast takes its operands (14 R451; seeds free at every start, reset empty). -/
  lfsr : List Word := []
  /-- Mean package power of the turn: sum in mW and ticks (14 R469). -/
  powerSum : Nat := 0
  powerTicks : Nat := 0
  /-- Starts are refused until the next cold start because a rail was lost (14 R475; reset false). -/
  startBlocked : Bool := false
  /-- Starts seen, for the ballast seeds (14 R451; reset 0). -/
  starts : Nat := 0
  deriving DecidableEq, Repr

/-- Retained-state record of the always-on domain (15 R514). -/
structure Retained where
  /-- The booted slot (15 R514). -/
  slot : Nat
  /-- Its sequence (15 R514). -/
  sequence : Nat
  /-- Payload digests of the images in Headstock and firmware-cluster SRAM, the Headstock firmware first (15 R514). -/
  images : List (List Byte)
  /-- The payload digest of the faceplate copy (15 R514). -/
  faceplate : List Byte
  /-- DRAM location of the active plan image, its place in the firmware area (15 R514; log entry 21). -/
  planAt : Nat
  /-- Its payload digest (15 R514). -/
  planDigest : List Byte
  /-- Flags of pending updates: a firmware image, a faceplate has been written since the last cold start (15 R514, R518). -/
  pendingImage : Bool
  pendingFace : Bool
  /-- The record's CRC-32 (15 R514). -/
  crc : Nat
  deriving DecidableEq, Repr

/-- Firmware or a faceplate has been written since the last cold start (15 R518). -/
def Retained.pending (r : Retained) : Bool := r.pendingImage || r.pendingFace

/-- Boot, keys and configuration (15). -/
structure Boot where
  /-- Flash bytes by offset; an unlisted byte reads 0xFF, erased flash (15 R482, R489 example; reset none listed). -/
  flash : List Host.Cell := []
  /-- The firmware cluster and the Ethernet MACs have been released (15 R513 C4, R515 W4; reset false). -/
  firmwareUp : Bool := false
  /-- The NE, the sensor front end and the application cluster have been released (15 R513 C9, R515 W8; reset false). -/
  applicationUp : Bool := false
  /-- Slot marked bad in this start, A and B (15 R489; reset false). -/
  badA : Bool := false
  badB : Bool := false
  /-- Sequence of each slot when readable (15 R521; reset 0). -/
  seqA : Nat := 0
  seqB : Nat := 0
  /-- Octal DDR could not be configured from SFDP (15 R481; reset false). -/
  slowFlash : Bool := false
  /-- Payload of the faceplate in use (15 R507; reset empty). -/
  faceplate : List Byte := []
  /-- Measurement registers M0 to M7, 64 bytes each (15 R502; reset zero). -/
  meas : List (List Byte) := List.replicate 8 (List.replicate 64 0)
  /-- Nonce (15 R499; reset 0). -/
  nonce : Long := 0
  /-- Debug open (15 R501; reset false). -/
  debugOpen : Bool := false
  /-- BOOT_SEQ_TIE raised in this start (15 R502; reset false). -/
  seqTie : Bool := false
  /-- Retained-state record of the always-on domain (15 R514; reset none). -/
  retained : Option Retained := none
  /-- Equaliser settings of the Finyx ports in the always-on domain, by port (12 R385; reset none). -/
  equaliser : List (Nat × Nat) := []

  /-- Recovery buffers: slot image and faceplate under RECOVERY_WRITE (15 R492; reset empty). -/
  recoverySlot : List Host.Cell := []
  recoveryFace : List Host.Cell := []
  /-- Channels failed training in RECOVERY or BLANK (16 R555; reset false). -/
  maintBlocked : Bool := false
  /-- Maintenance buffer is served (16 R555; reset false). -/
  maintServed : Bool := false
  /-- Words of HS_EXTw, which are write only (15 R521; reset zero). -/
  ext : List Word := List.replicate 16 0
  /-- Words of HS_EXTw written so far are kept above; snapshot latched by HS_MEAS_SEL is in the registers. Software-visible
  security state extended last (15 R502; reset empty). -/
  secState : List Byte := []
  deriving DecidableEq, Repr

/-- A host session (16 R537 to R540). -/
structure Session where
  /-- Session ID (16 R537). -/
  id : Nat
  /-- 0 Ethernet, 1 maintenance, 2 application mailbox (16 R538). -/
  kind : Nat
  /-- Mailbox over which it was opened (16 R538). -/
  mailbox : Nat
  /-- Ethernet port of its host (16 R530). -/
  port : Nat
  /-- Address of its host (16 R538). -/
  address : Nat
  /-- 1 manager, 2 observer, 3 application (16 R537, R538). -/
  role : Nat
  /-- Agreed minor version (16 R537). -/
  minor : Nat
  /-- Sequence of the last request executed (16 R540). -/
  lastSeq : Option Nat
  /-- Payload, status and type of the response to it (16 R540). -/
  cached : List Byte
  cachedStatus : Nat
  cachedType : Nat
  /-- Least severity of the event subscription (16 R541). -/
  subscribe : Option Nat
  deriving DecidableEq, Repr

/-- A message under reassembly (16 R536). -/
structure Reassembly where
  port : Nat
  address : Nat
  hdr : Fragment
  got : List (Nat × List Byte)
  deriving DecidableEq, Repr

/-- A complete request waiting for execution (16 R540). -/
structure Request where
  path : Path
  msgType : Nat
  major : Nat
  minor : Nat
  sequence : Nat
  session : Nat
  payload : List Byte
  deriving DecidableEq, Repr

/-- A message the part has sent or queued (16 R534). -/
structure Message where
  msgType : Nat
  status : Nat
  session : Nat
  sequence : Nat
  push : Bool
  payload : List Byte
  /-- A request of the part's own (16 R534, R546). -/
  request : Bool := false
  /-- Ethernet port, address and UDP port that the faceplate gives the part's own messages (16 R533, R543 to R546); none for a
  response or a push, which goes back over its session's path. -/
  sentTo : Option (Nat × Nat × Nat) := none
  deriving DecidableEq, Repr

/-- A message in the output queue of a port (16 R531, R535, R559). -/
structure TxEntry where
  /-- Its class, which is its queue and its PCP (16 R531). -/
  cls : Nat
  /-- Payload bytes in the queue. -/
  left : Nat
  /-- Payload bytes that have left in fragments. -/
  sent : Nat := 0
  /-- Payload bytes that have still to enter the queue: those of an EMIT (07 R256). -/
  more : Nat := 0
  /-- Channel, item and turn of the EMIT that fills it (16 R543). -/
  source : Option (Nat × Nat × Nat) := none
  deriving DecidableEq, Repr

/-- A frame that has left a port (16 R531, R534, R535): its PCP, and its fragment's frag_offset, payload bytes and last_fragment
flag. -/
structure TxFrame where
  cls : Nat
  offset : Nat
  bytes : Nat
  last : Bool
  deriving DecidableEq, Repr

/-- An answer of the network layer: to an ARP request or a neighbour solicitation, with the port's MAC address, or to an echo
request, with its data (16 R530). -/
structure NetReply where
  port : Nat
  /-- The address answered to, and the port's own address. -/
  dest : Nat
  source : Nat
  /-- The MAC address that resolves the port's address; none for an echo reply. -/
  mac : Option Nat
  data : List Byte
  deriving DecidableEq, Repr

/-- Host protocol (16). -/
structure Proto where
  /-- Mailbox interrupts that the part has raised to the application cluster (16 R557; reset 0). -/
  appInterrupts : Nat := 0
  /-- Sessions that are open (16 R537 to R539; reset none). -/
  sessions : List Session := []
  /-- Messages in reassembly (16 R536; reset none). -/
  reassembly : List Reassembly := []
  /-- Complete requests that wait, in the order of their completion (16 R540; reset none). -/
  ready : List Request := []
  /-- Messages sent, newest first (16 R534; reset empty). -/
  tx : List Message := []
  /-- MACsec peer is live with an installed key, ports 0 to 2 (16 R532; reset false). -/
  macsec : List Bool := [false, false, false]
  /-- Messages in the output queue of each port, oldest first (16 R531, R559; reset empty). -/
  txq : List (List TxEntry) := [[], [], []]
  /-- The frame that left each port last (16 R531, R535; reset none). -/
  txLast : List (Option TxFrame) := [none, none, none]
  /-- Answers of the network layer, newest first (16 R530; reset none). -/
  replies : List NetReply := []
  /-- Gate-list entry in force, ports 0 to 2 (16 R531; reset 0). -/
  gate : List Nat := [0, 0, 0]
  /-- A component is restarting, IDs 0 to 7 (13 R432; reset false). -/
  restarting : List Bool := List.replicate 8 false
  /-- Responses of application mailboxes that wait for room, oldest first: mailbox, bytes (16 R558; reset empty). -/
  appPending : List (Nat × List Byte) := []

  deriving DecidableEq, Repr

/-- A staged object of the update agent (16 R548). -/
structure Staged where
  /-- Handle that UPDATE_BEGIN gave (16 R548). -/
  handle : Nat
  /-- Kind, 1 to 6 (16 R548). -/
  kind : Nat
  modelId : Nat
  length : Nat
  neOffset : Nat
  digest : List Byte
  /-- Container bytes of a model, until UPDATE_END; those of kinds 1 to 4 stand in the firmware area and a replay set's in the NE
  area as they arrive (16 R548; reset none). -/
  data : List Host.Cell := []
  /-- UPDATE_END has passed (16 R548; reset false). -/
  ended : Bool := false
  deriving DecidableEq, Repr

/-- The update agent (16 R548 to R551). -/
structure Update where
  /-- The staged objects (16 R548; reset none). -/
  objects : List Staged := []
  /-- Handle of the next object (16 R548; DESIGN CHOICE 1 at reset, log entry 34). -/
  nextHandle : Nat := 1
  /-- Update state of 16 R549 (reset 0). -/
  state : Nat := 0
  /-- First failing criterion of the last verdict (11 R376; reset 0). -/
  failing : Nat := 0
  deriving DecidableEq, Repr

/-- A source entry being fetched (15 R511, 16 R546, R547). -/
structure Fetch where
  /-- Source entry of the faceplate (15 R511). -/
  entry : Nat
  /-- Its application image stands in the application partition (15 R515; reset false). -/
  placed : Bool := false
  /-- Container bytes received, by offset (16 R546; reset none). -/
  data : List Host.Cell := []
  /-- How many of them have come (16 R546; reset 0). -/
  got : Nat := 0
  /-- The whole container has come (16 R547; reset false). -/
  complete : Bool := false
  /-- It has passed 15 R485 and R511 (reset false). -/
  accepted : Bool := false
  /-- Outstanding requests: offset, length, consecutive reissues (16 R546, R547; reset none). -/
  outstanding : List (Nat × Nat × Nat) := []
  /-- Offset of the next request (16 R546; reset 0). -/
  nextOff : Nat := 0
  /-- FETCH_STALLED raised for the entry in this start (16 R547; reset false). -/
  stalledRaised : Bool := false
  deriving DecidableEq, Repr

/-- What the turn health record says of the turn that has ended (13 R431). -/
structure EndedTurn where
  turn : Nat
  failedOver : Bool
  overrun : Bool
  redone : Bool
  late : Nat
  maxLate : Nat
  lastDone : Nat
  /-- Records written since cold start at the end of the turn (13 R431). -/
  written : Nat
  deriving DecidableEq, Repr

/-- The safety-port window (16 R554). -/
structure Safety where
  /-- Alive counter (16 R554; reset 0). -/
  alive : Word := 0
  /-- Challenge and its response (16 R554; reset 0). -/
  challenge : Word := 0
  response : Word := 0
  /-- Status of the last write (16 R554; reset 0). -/
  lastStatus : Nat := 0
  /-- Last turn whose health record is complete, and the eight records (13 R431). -/
  lastTurn : Nat := 0
  records : List (Nat × List Byte) := []
  /-- Frames ignored in the turn, which SAFETY_FRAME_ERROR reports at its end (16 R553, R560). -/
  ignored : Nat := 0
  /-- The turn that ended, until its health record is written (13 R431; reset none). -/
  ended : Option EndedTurn := none
  deriving DecidableEq, Repr

/-- Answer of the latest register, memory or port access. -/
structure Bus where
  /-- Bytes answered (08 R265; reset none). -/
  data : List Byte := []
  /-- An error response (08 R266, R270; reset false). -/
  error : Bool := false
  /-- The data is marked uncorrectable (02 R94, 08 R277; reset false). -/
  uncorrectable : Bool := false
  deriving DecidableEq, Repr

/-- Everything of the part but its device state, its OTP and the command queue. -/
structure Device where
  /-- Register fields, listed below with their reset values (00 R10, R11 and the register tables). -/
  regs : Regs := {}
  /-- Deferral periods by block, cores from 16 (01 R56; reset none listed). -/
  defer : List (Nat × Defer) := []
  /-- Core memory, shared memory, DRAM and the SRAM of the control complex (08 R264; reset nothing listed, every byte 0, log entry
  4). -/
  mem : Memory := {}
  /-- Events (13 R411 to R415; reset as its fields say). -/
  ev : Events := {}
  /-- The spindle (01 R12 to R24; reset as its fields say). -/
  sp : Spindle := {}
  /-- Output pins and straps (17 R564, R568; reset as its fields say). -/
  pins : Pins := {}
  /-- The turn sequencer (06 R199; 01 R45 to R50; reset as its fields say). -/
  seq : Seq := {}
  /-- Matrix arrays, by 4 × core + array (02 R75; reset none listed, each as its fields say). -/
  arrays : List (Nat × ArrayRt) := []
  /-- Cores, by number (02 R68; reset none listed, each as its fields say). -/
  cores : List (Nat × CoreRt) := []
  /-- Quantisation statistics (03 R130; reset as its fields say). -/
  quant : Quant := {}
  /-- DMA channels, by number (07 R234; reset none listed, each as its fields say). -/
  dma : List (Nat × DmaCh) := []
  /-- Memory channels and their controller (08 R271; reset as its fields say). -/
  memc : MemCtl := {}
  /-- The camera inputs (09 R291 to R322; reset as its fields say). -/
  cam : Camera := {}
  /-- Image-pipe contexts, by 8 × pipe + context (10 R327; reset none listed, each as its fields say). -/
  isp : List (Nat × CtxSt) := []
  /-- Encoders, decoders and the replay loader (11 R353 to R376; reset as its fields say). -/
  vid : Video := {}
  /-- The join engine and its ports (12 R379 to R404; reset as its fields say). -/
  join : Join := {}
  /-- Failover and retirement (13 R416 to R430; reset as its fields say). -/
  fo : Failover := {}
  /-- Power and thermal control (14 R441 to R475; reset as its fields say). -/
  pwr : Power := {}
  /-- Boot, keys and configuration (15 R477 to R520; reset as its fields say). -/
  boot : Boot := {}
  /-- The host protocol (16 R526 to R546; reset as its fields say). -/
  proto : Proto := {}
  /-- The update agent (16 R548 to R551; reset as its fields say). -/
  upd : Update := {}
  /-- Source entries being fetched (16 R546, R547; reset none). -/
  fetch : List Fetch := []
  /-- The safety-port window (16 R554; reset as its fields say). -/
  safety : Safety := {}
  /-- Answer of the latest register, memory or port access (08 R265 to R277; reset none). -/
  bus : Bus := {}
  /-- High words latched by a read of their low word, by the address of the high word (07 R261, 08 R289; reset none). -/
  latch : List (Nat × Nat) := []
  /-- The model's own counter of free values drawn (reset 0, DESIGN CHOICE, log entry 1). -/
  freeCtr : Nat := 0
  deriving DecidableEq, Repr

/-- The state of the machine. -/
structure State where
  /-- Commands that wait, first in, first out: the model's own queue, no rule R of the spec names it (reset empty). -/
  pending : List Instr := []
  /-- The device state (00 R5; reset OFF). -/
  mode : Mode := .off
  /-- OTP and fuses (15 R493, R494; reset as its fields say, log entry 3). -/
  otp : Otp := {}
  /-- Everything else (00 R1 to 17 R595; reset as its fields say). -/
  dev : Device := {}
  deriving DecidableEq, Repr

/-- The machine right after reset: in OFF with power applied and PORST_N low, no command waiting. -/
def State.reset : State := {}

end Sys2Proof.Machine
end

