-- ==== Sys2Proof/Machine/Bits.lean ====
section
/-! DEFINITION. Bit fields, little-endian byte strings and sparse maps in one canonical form. -/

namespace Sys2Proof.Machine

/-- Bits hi:lo of a number. -/
def bitsOf (w hi lo : Nat) : Nat := (w >>> lo) % 2 ^ (hi + 1 - lo)

/-- Bit k of a number. -/
def bitAt (w k : Nat) : Bool := w.testBit k

/-- 1 or 0. -/
def b2n (b : Bool) : Nat := if b then 1 else 0

/-- A value at bits hi:lo of a word that is zero elsewhere; excess high bits are dropped. -/
def atBits (v hi lo : Nat) : Nat := (v % 2 ^ (hi + 1 - lo)) <<< lo

/-- Two's complement reading of the low n bits. -/
def sextOf (w n : Nat) : Int :=
  let v := w % 2 ^ n
  if 2 ^ (n - 1) ≤ v then (v : Int) - 2 ^ n else v

/-- The low n bits of an integer in two's complement. -/
def tcOf (i : Int) (n : Nat) : Nat := (i % (2 ^ n : Int)).toNat

/-- An integer clamped to a closed range. -/
def clampInt (lo hi i : Int) : Int := if i < lo then lo else if hi < i then hi else i

/-- A signed value that saturates in an n-bit field. -/
def satSigned (i : Int) (n : Nat) : Nat := tcOf (clampInt (-(2 ^ (n - 1) : Int)) ((2 ^ (n - 1) : Int) - 1) i) n

/-- Addition that saturates at the largest value of an n-bit field. -/
def satAdd (n a b : Nat) : Nat := min (a + b) (2 ^ n - 1)

/-- n bytes of a number, least significant first. -/
def leBytes : Nat → Nat → List Byte
  | 0, _ => []
  | n + 1, v => BitVec.ofNat 8 v :: leBytes n (v / 256)

/-- The number that bytes spell, least significant first. -/
def leNat : List Byte → Nat
  | [] => 0
  | b :: bs => b.toNat + 256 * leNat bs

/-- The number that bytes spell, most significant first. -/
def beNat (bs : List Byte) : Nat := leNat bs.reverse

/-- n bytes of a number, most significant first. -/
def beBytes (n v : Nat) : List Byte := (leBytes n v).reverse

/-- Bytes o to o + n - 1 of a record; bytes beyond its end read as zero. -/
def sliceOf (bs : List Byte) (o n : Nat) : List Byte :=
  let got := (bs.drop o).take n
  got ++ List.replicate (n - got.length) 0

/-- The little-endian number in bytes o to o + n - 1 of a record. -/
def fieldOf (bs : List Byte) (o n : Nat) : Nat := leNat (sliceOf bs o n)

/-- A record with bytes o onward replaced. -/
def patchAt (bs : List Byte) (o : Nat) (new : List Byte) : List Byte :=
  sliceOf bs 0 o ++ new ++ bs.drop (o + new.length)

/-- Value of a key in a sparse map, dflt when unlisted. -/
def mget {α : Type} (dflt : α) : List (Nat × α) → Nat → α
  | [], _ => dflt
  | (a, v) :: m, k => if a = k then v else mget dflt m k

/-- A key removed from a map. -/
def adel {α : Type} (m : List (Nat × α)) (k : Nat) : List (Nat × α) := m.filter (fun p => p.1 != k)

/-- A sparse map with one key changed: in a map whose keys rise they go on rising, and dflt is not listed. -/
def mset {α : Type} [DecidableEq α] (dflt : α) : List (Nat × α) → Nat → α → List (Nat × α)
  | [], k, v => if v = dflt then [] else [(k, v)]
  | (a, w) :: m, k, v =>
    if k < a then (if v = dflt then adel ((a, w) :: m) k else (k, v) :: (a, w) :: m)
    else if k = a then (if v = dflt then adel m k else (k, v) :: m)
    else (a, w) :: mset dflt m k v

/-- The canonical form of a sparse map, as a Boolean: keys strictly rising, no listed value equal to dflt. -/
def mwf {α : Type} [DecidableEq α] (dflt : α) : List (Nat × α) → Bool
  | [] => true
  | (a, v) :: m => decide (v ≠ dflt) && m.all (fun p => decide (a < p.1)) && mwf dflt m

/-- A key listed in a map whose listing itself carries meaning. -/
def afind {α : Type} : List (Nat × α) → Nat → Option α
  | [], _ => none
  | (a, v) :: m, k => if a = k then some v else afind m k

/-- A key set in such a map, keys rising. -/
def aput {α : Type} : List (Nat × α) → Nat → α → List (Nat × α)
  | [], k, v => [(k, v)]
  | (a, w) :: m, k, v =>
    if k < a then (k, v) :: (a, w) :: m else if k = a then (k, v) :: m else (a, w) :: aput m k v

/-- Every byte is zero. -/
def allZero (bs : List Byte) : Bool := bs.all fun b => b == 0

/-- A list with one element replaced; unchanged when the place does not exist. -/
def lset {α : Type} (l : List α) (k : Nat) (v : α) : List α := l.set k v

/-- Fold of a step over the numbers below n, in rising order. -/
def forN {α : Type} : Nat → (Nat → α → α) → α → α
  | 0, _, a => a
  | n + 1, f, a => f n (forN n f a)

/-- Fold of a step over a list, left to right, with the accumulator last. -/
def forL {α β : Type} (l : List β) (f : β → α → α) (a : α) : α := l.foldl (fun x b => f b x) a

/-- Floor of log base 2 for positive numbers. -/
def lg2 (n : Nat) : Nat := n.log2

/-- Quotient rounded up. -/
def ceilDiv (a b : Nat) : Nat := (a + b - 1) / b

/-- Quotient of integers rounded to nearest, ties to even. -/
def rneDiv (a : Int) (b : Nat) : Int :=
  let q := a / (b : Int)
  let r := a % (b : Int)
  if 2 * r < b then q else if (b : Int) < 2 * r then q + 1 else if q % 2 = 0 then q else q + 1

end Sys2Proof.Machine
end

