-- ==== Sys2Proof/Machine/Flags.lean ====
section
/-! DEFINITION. Event codes (00 R12 and the event table that closes each chapter), their severities (13 R413) and the mark
bits of 06 R219. -/

namespace Sys2Proof.Machine

namespace Ev
def LATE : Nat := 0x0101
def TURN_OVERRUN : Nat := 0x0102
def GEAR_TIMEOUT : Nat := 0x0103
def LOCK_ACQUIRED : Nat := 0x0104
def LOCK_DEGRADED : Nat := 0x0105
def SOURCE_SWITCH : Nat := 0x0106
def HOLDOVER_ENTERED : Nat := 0x0107
def HOLDOVER_EXPIRED : Nat := 0x0108
def PHASE_STEP : Nat := 0x0109
def TURN_OFFSET : Nat := 0x010A
def PPS_ANOMALY : Nat := 0x010B
def ALIGN_LOST : Nat := 0x010C
def START_REFUSED : Nat := 0x010D
def SHADOW_HOLD_LONG : Nat := 0x010E
def WRITE_REJECTED : Nat := 0x010F
def FRAME_WINDOW_OVERFLOW : Nat := 0x0110
def ACC_REPLAY : Nat := 0x0201
def ACC_SATURATED : Nat := 0x0202
def REPLAY_BUDGET_SPENT : Nat := 0x0203
def RESIDUE_RECOMPUTED : Nat := 0x0204
def RESIDUE_REPEATED : Nat := 0x0205
def TOPK_RECORD_FIXED : Nat := 0x0206
def QUANT_DRIFT : Nat := 0x0301
def QUANT_DRIFT_CLEARED : Nat := 0x0302
def QUANT_RECORD_FIXED : Nat := 0x0303
def QUANT_NAN_OUTPUT : Nat := 0x0304
def QUANT_COUNT_SATURATED : Nat := 0x0305
def DMA_DESC_BAD : Nat := 0x0401
def DMA_CMP_FORMAT : Nat := 0x0402
def DMA_LOAD_STALL : Nat := 0x0403
def MEM_CE_RATE : Nat := 0x0501
def MEM_UNCORRECTABLE : Nat := 0x0502
def MEM_SCRUB_UNCORRECTABLE : Nat := 0x0503
def MEM_CHANNEL_OFFLINE : Nat := 0x0504
def MEM_TRAIN_RESTORE_FAIL : Nat := 0x0505
def MEM_PROTECTION : Nat := 0x0506
def MEM_UNMAPPED : Nat := 0x0507
def MEM_DRAM_HOT : Nat := 0x0508
def CAM_FRAME_SHORT : Nat := 0x0601
def CAM_FRAME_LONG : Nat := 0x0602
def CAM_PAYLOAD_CRC : Nat := 0x0603
def CAM_HEADER_LOST : Nat := 0x0604
def CAM_PHY_ERROR : Nat := 0x0605
def CAM_OVERFLOW : Nat := 0x0606
def CAM_LINE_LENGTH : Nat := 0x0607
def CAM_FRAMING : Nat := 0x0608
def CAM_FRAME_STALE : Nat := 0x0609
def CAM_STREAM_LOST : Nat := 0x060A
def CAM_STREAM_REJECTED : Nat := 0x060B
def CAM_CTRL_FAILED : Nat := 0x060C
def CAM_CTRL_LATE : Nat := 0x060D
def CAM_IBI : Nat := 0x060E
def ISP_LINE_LATE : Nat := 0x0701
def ISP_MERGE_INCOMPLETE : Nat := 0x0702
def ISP_WARP_OVERRUN : Nat := 0x0703
def ISP_TABLE_REJECTED : Nat := 0x0704
def ISP_MESH_REJECTED : Nat := 0x0705
def ISP_CONTEXT_REJECTED : Nat := 0x0706
def VID_ENC_SKIP : Nat := 0x0801
def VID_ENC_RING_FULL : Nat := 0x0802
def VID_DEC_REJECTED : Nat := 0x0803
def VID_DEC_INCOMPLETE : Nat := 0x0804
def VID_RPL_SAMPLE_SKIPPED : Nat := 0x0805
def VID_RPL_EPOCH_END : Nat := 0x0806
def VID_RPL_UNDERRUN : Nat := 0x0807
def VID_RPL_REFUSED : Nat := 0x0808
def VID_RPL_VERDICT : Nat := 0x0809
def FX_LINK_UP : Nat := 0x0901
def FX_LINK_DOWN : Nat := 0x0902
def FX_RETRAIN : Nat := 0x0903
def FX_NEIGHBOUR_MISMATCH : Nat := 0x0904
def FX_ROUTE_CHANGED : Nat := 0x0905
def FX_TAKEOVER : Nat := 0x0906
def FX_DELIVERY_LOST : Nat := 0x0907
def FX_REMOTE_REFUSED : Nat := 0x0908
def FX_HOLD_FULL : Nat := 0x0909
def FX_CFG_REJECTED : Nat := 0x090A
def PWR_CAP_LIMITED : Nat := 0x0A01
def PWR_MODEL_MISMATCH : Nat := 0x0A02
def PWR_SENSE_FAULT : Nat := 0x0A03
def PWR_THERMAL_THROTTLE : Nat := 0x0A04
def PWR_GAP_THROTTLE : Nat := 0x0A05
def PWR_THERMAL_TRIP : Nat := 0x0A06
def PWR_RAIL_LOST : Nat := 0x0A07
def PWR_LIMITER_THROTTLE : Nat := 0x0A08
def PWR_REPORT_MISSING : Nat := 0x0A09
def BOOT_SLOT_INVALID : Nat := 0x0B01
def BOOT_SEQ_TIE : Nat := 0x0B02
def BOOT_KEY_REVOKED : Nat := 0x0B03
def RECOVERY_ENTERED : Nat := 0x0B04
def FACEPLATE_COPY_INVALID : Nat := 0x0B05
def FACEPLATE_SEQ_TIE : Nat := 0x0B06
def WARM_CHECK_FAILED : Nat := 0x0B07
def CONTAINER_REJECTED : Nat := 0x0B08
def UPDATE_SEQ_REFUSED : Nat := 0x0B09
def REQUEST_REJECTED : Nat := 0x0B0A
def KEY_REVOKED : Nat := 0x0B0B
def LIFECYCLE_CHANGED : Nat := 0x0B0C
def DEBUG_OPENED : Nat := 0x0B0D
def FW_ACCESS_FAULT : Nat := 0x0C01
def SESSION_REFUSED : Nat := 0x0C02
def SESSION_EXPIRED : Nat := 0x0C03
def MACSEC_DOWN : Nat := 0x0C04
def FETCH_STALLED : Nat := 0x0C05
def SAFETY_FRAME_ERROR : Nat := 0x0C06
def SAFETY_STOP : Nat := 0x0C07
def UPDATE_STAGED : Nat := 0x0C08
def UPDATE_REFUSED : Nat := 0x0C09
def UPDATE_ACCEPTED : Nat := 0x0C0A
def DEV_RETIRED : Nat := 0x0D01
def HEARTBEAT_MISSED : Nat := 0x0D02
def BUDDY_LOST : Nat := 0x0D03
def FAILOVER_SWITCH : Nat := 0x0D04
def OUTPUT_DEGRADED : Nat := 0x0D05
def WATCHDOG_RESTART : Nat := 0x0D06
def EVENT_QUEUE_OVERFLOW : Nat := 0x0D07
def PERT_OPENED : Nat := 0x0D10
def PERT_CLOSED : Nat := 0x0D11
def PERT_INJECTED : Nat := 0x0D12
def PERT_AUTH_REJECTED : Nat := 0x0D13
def PERT_WRITE_REJECTED : Nat := 0x0D14

end Ev

/-- Severity of an event (13 R413); the payload decides for the two uncorrectable events. -/
def severityOf (code payload : Nat) : Nat :=
  if code = Ev.MEM_UNCORRECTABLE ∨ code = Ev.MEM_SCRUB_UNCORRECTABLE then (if bitAt payload 55 then 4 else 1)
  else if [Ev.RESIDUE_REPEATED, Ev.PWR_RAIL_LOST, Ev.DEV_RETIRED].contains code then 4
  else if [Ev.TURN_OVERRUN, Ev.GEAR_TIMEOUT, Ev.ACC_SATURATED, Ev.CAM_FRAME_STALE, Ev.FX_DELIVERY_LOST, Ev.BUDDY_LOST, Ev.FAILOVER_SWITCH, Ev.OUTPUT_DEGRADED].contains code then 3
  else if [Ev.ACC_REPLAY, Ev.RESIDUE_RECOMPUTED, Ev.MEM_CE_RATE, Ev.FX_RETRAIN, Ev.QUANT_RECORD_FIXED, Ev.TOPK_RECORD_FIXED, Ev.WATCHDOG_RESTART].contains code then 2
  else if [Ev.LOCK_ACQUIRED, Ev.QUANT_DRIFT_CLEARED, Ev.FX_LINK_UP, Ev.FX_ROUTE_CHANGED, Ev.VID_RPL_EPOCH_END, Ev.VID_RPL_VERDICT, Ev.PERT_OPENED, Ev.PERT_CLOSED, Ev.PERT_INJECTED].contains code then 0
  else 1

/-- Source of an event (13 R412): the block whose chapter defines it. SHADOW_HOLD_LONG gives its block itself (01 R56).
DEDUCED for the firmware and security classes, log entry 5. -/
def sourceOf (code : Nat) : Nat :=
  match code / 256 with
  | 0x01 => 0
  | 0x02 => 2
  | 0x03 => if code = Ev.QUANT_RECORD_FIXED then 2 else 1
  | 0x04 => 3
  | 0x05 => 4
  | 0x06 => 5
  | 0x07 => 6
  | 0x08 => 7
  | 0x09 => 8
  | 0x0A => 10
  | 0x0B => 11
  | 0x0C =>
    if [Ev.FW_ACCESS_FAULT, Ev.UPDATE_STAGED, Ev.UPDATE_REFUSED, Ev.UPDATE_ACCEPTED].contains code then 12 else 13
  | _ => if 0x0D10 ≤ code then 14 else 15

/-- Payload of a firmware event (16 R560): port, component, content from bit 32. The component is the one whose duty raises the
event (R523; DEDUCED, log entry 5). -/
def fwPayload (port component content : Nat) : Nat := port % 256 + component * 2 ^ 8 + content * 2 ^ 32

/-- Mark SHORT of an item, counter or output (06 R219, bit 0). -/
def markShort : Nat := 1
/-- Mark NO_FRAME (06 R219, bit 1). -/
def markNoFrame : Nat := 2
/-- Mark REDONE (06 R219, bit 2). -/
def markRedone : Nat := 4
/-- Mark SATURATED (06 R219, bit 3). -/
def markSaturated : Nat := 8

end Sys2Proof.Machine
end

