-- ==== Sys2Proof/Machine/RegMap.lean ====
section
/-! DEFINITION. The register map: one `Fld` per register field of the spec's register tables (its word's address, its bits, its
reset value) and, per block, the table that a register access searches. A field whose reset column reads faceplate, plan,
fuses, OTP or 'per core' stands here with 0 (log entry 2). The maintenance port's own registers (16 R555), which no address
space shows, stand above the 48-bit space. -/

namespace Sys2Proof.Machine

/-- A register field: word address, high bit, low bit, reset value. -/
structure Fld where
  addr : Nat
  hi : Nat
  lo : Nat
  rst : Nat
  deriving DecidableEq, Repr

/-- The access classes of 00 'Register tables'. -/
inductive Access where
  | ro | rw | rws | w1c | rc | wo
  deriving DecidableEq, Repr

/-- The 'Takes effect' column of 00 'Register tables'. -/
inductive Effect where
  | fixed | now | commit | turn | cold
  deriving DecidableEq, Repr

/-- A field in the table of a block. -/
structure FldDef where
  hi : Nat
  lo : Nat
  access : Access
  effect : Effect
  rst : Nat
  deriving DecidableEq, Repr

/-- A register, or an array of registers: base address, (count, stride) per index, fields. -/
structure RegDef where
  base : Nat
  dims : List (Nat × Nat)
  fields : List FldDef
  deriving DecidableEq, Repr

/-- Base of a channel's registers: channels 0 to 63 are the core channels c / 2 and c mod 2, 64 to 79 the shared ones (07). -/
def dmaChBase (c : Nat) : Nat :=
  if c < 64 then 0x11001000 + (c / 2) * 0x100000 + (c % 2) * 0x100 else 0x14001000 + (c - 64) * 0x100

namespace Reg

def SP_CTRL_fsync_free_run : Fld := ⟨0x10000000, 7, 7, 0x0⟩
def SP_CTRL_pps_out_en : Fld := ⟨0x10000000, 6, 6, 0x0⟩
def SP_CTRL_free_run_permit : Fld := ⟨0x10000000, 5, 5, 0x0⟩
def SP_CTRL_step_request : Fld := ⟨0x10000000, 0, 0, 0x0⟩
def SP_STATUS_turn_offset : Fld := ⟨0x10000004, 31, 24, 0x0⟩
def SP_STATUS_sequencer : Fld := ⟨0x10000004, 17, 16, 0x0⟩
def SP_STATUS_active_slot : Fld := ⟨0x10000004, 9, 8, 0x0⟩
def SP_STATUS_source_type : Fld := ⟨0x10000004, 6, 4, 0x0⟩
def SP_STATUS_lock_state : Fld := ⟨0x10000004, 2, 0, 0x0⟩
def SP_PERIOD_period_us : Fld := ⟨0x10000008, 19, 0, 0x8235⟩
def SP_PHASE_phase_ns : Fld := ⟨0x1000000C, 29, 0, 0x0⟩
def SP_SRC_CTRL_slots : Fld := ⟨0x10000010, 31, 0, 0x0⟩
def SP_SLEW_max_ppm : Fld := ⟨0x10000014, 9, 0, 0x64⟩
def SP_TURN_turn : Fld := ⟨0x10000018, 31, 0, 0x0⟩
def SP_INDEX_fraction : Fld := ⟨0x1000001C, 31, 16, 0x0⟩
def SP_INDEX_index : Fld := ⟨0x1000001C, 15, 0, 0x0⟩
def SP_TIME_LO_time_lo : Fld := ⟨0x10000020, 31, 0, 0x0⟩
def SP_TIME_HI_time_hi : Fld := ⟨0x10000024, 31, 0, 0x0⟩
def SP_PHASE_ERR_error_ns : Fld := ⟨0x10000028, 31, 0, 0x0⟩
def SP_FREQ_ADJ_adj_ppb : Fld := ⟨0x1000002C, 31, 0, 0x0⟩
def SP_HOLDOVER_holdover_ms : Fld := ⟨0x10000030, 31, 0, 0x0⟩
def SP_START_TURN_start_turn : Fld := ⟨0x10000034, 31, 0, 0x0⟩
def SP_START_LEAD_use_start_turn : Fld := ⟨0x10000038, 31, 31, 0x0⟩
def SP_START_LEAD_lead_index : Fld := ⟨0x10000038, 15, 0, 0x1000⟩
def SP_PPS_OUT_polarity : Fld := ⟨0x1000003C, 20, 20, 0x0⟩
def SP_PPS_OUT_width_us : Fld := ⟨0x1000003C, 19, 0, 0x186A0⟩
def SP_PPS_SECONDS_LO_seconds_lo : Fld := ⟨0x10000040, 31, 0, 0x0⟩
def SP_PPS_SECONDS_HI_seconds_hi : Fld := ⟨0x10000044, 31, 0, 0x0⟩
def SP_LATE_COUNT_overrun_turns : Fld := ⟨0x10000048, 31, 16, 0x0⟩
def SP_LATE_COUNT_late_items : Fld := ⟨0x10000048, 15, 0, 0x0⟩
def SP_LATE_MAX_item : Fld := ⟨0x1000004C, 31, 16, 0x0⟩
def SP_LATE_MAX_lateness : Fld := ⟨0x1000004C, 15, 0, 0x0⟩
def SP_SLACK_min_unused : Fld := ⟨0x10000050, 31, 16, 0x0⟩
def SP_SLACK_last_completion : Fld := ⟨0x10000050, 15, 0, 0x0⟩
def SP_ALIGN_master_valid : Fld := ⟨0x10000054, 25, 25, 0x0⟩
def SP_ALIGN_master_id : Fld := ⟨0x10000054, 24, 16, 0x0⟩
def SP_ALIGN_align_ns : Fld := ⟨0x10000054, 15, 0, 0x0⟩
def SP_HOLD_RELEASE_at_turn : Fld := ⟨0x100000E0, 31, 31, 0x0⟩
def SP_HOLD_RELEASE_mask : Fld := ⟨0x100000E0, 10, 0, 0x0⟩
def SP_HOLD_TURN_turn : Fld := ⟨0x100000E4, 31, 0, 0x0⟩
def SP_SHADOW_CTRL_deferred_turns : Fld := ⟨0x100000F0, 15, 8, 0x0⟩
def SP_SHADOW_CTRL_read_active : Fld := ⟨0x100000F0, 3, 3, 0x0⟩
def SP_SHADOW_CTRL_commit_deferred : Fld := ⟨0x100000F0, 2, 2, 0x0⟩
def SP_SHADOW_CTRL_commit_pending : Fld := ⟨0x100000F0, 1, 1, 0x0⟩
def SP_SHADOW_CTRL_shadow_hold : Fld := ⟨0x100000F0, 0, 0, 0x0⟩
def SP_FSYNC_CTRL_width_us (f : Nat) : Fld := ⟨0x10000100 + 0x8 * f, 31, 20, 0xA⟩
def SP_FSYNC_CTRL_start_index (f : Nat) : Fld := ⟨0x10000100 + 0x8 * f, 19, 8, 0x0⟩
def SP_FSYNC_CTRL_turn_div (f : Nat) : Fld := ⟨0x10000100 + 0x8 * f, 7, 4, 0x0⟩
def SP_FSYNC_CTRL_ppt (f : Nat) : Fld := ⟨0x10000100 + 0x8 * f, 3, 2, 0x0⟩
def SP_FSYNC_CTRL_polarity (f : Nat) : Fld := ⟨0x10000100 + 0x8 * f, 1, 1, 0x0⟩
def SP_FSYNC_CTRL_enable (f : Nat) : Fld := ⟨0x10000100 + 0x8 * f, 0, 0, 0x0⟩
def SP_FSYNC_OFFSET_fine_ns (f : Nat) : Fld := ⟨0x10000104 + 0x8 * f, 17, 0, 0x0⟩
def SP_GEAR_CFG_enable (s : Nat) : Fld := ⟨0x10000200 + 0x8 * s, 16, 16, 0x0⟩
def SP_GEAR_CFG_window_open (s : Nat) : Fld := ⟨0x10000200 + 0x8 * s, 15, 0, 0x0⟩
def SP_GEAR_STATUS_long (s : Nat) : Fld := ⟨0x10000204 + 0x8 * s, 20, 20, 0x0⟩
def SP_GEAR_STATUS_short (s : Nat) : Fld := ⟨0x10000204 + 0x8 * s, 19, 19, 0x0⟩
def SP_GEAR_STATUS_in_frame (s : Nat) : Fld := ⟨0x10000204 + 0x8 * s, 18, 18, 0x0⟩
def SP_GEAR_STATUS_ordinal (s : Nat) : Fld := ⟨0x10000204 + 0x8 * s, 17, 16, 0x0⟩
def SP_GEAR_STATUS_line_count (s : Nat) : Fld := ⟨0x10000204 + 0x8 * s, 15, 0, 0x0⟩
def NE_IDENT_family : Fld := ⟨0x10100000, 31, 24, 0xA7⟩
def NE_IDENT_arch_gen : Fld := ⟨0x10100000, 23, 20, 0x1⟩
def NE_IDENT_stepping : Fld := ⟨0x10100000, 19, 16, 0x0⟩
def NE_IDENT_member_code : Fld := ⟨0x10100000, 15, 0, 0x3280⟩
def NE_PARAM0_core_count : Fld := ⟨0x10100004, 31, 24, 0x20⟩
def NE_PARAM0_arrays_per_core : Fld := ⟨0x10100004, 23, 20, 0x4⟩
def NE_PARAM0_quadrants : Fld := ⟨0x10100004, 19, 16, 0x4⟩
def NE_PARAM0_core_mem_mib : Fld := ⟨0x10100004, 15, 8, 0x4⟩
def NE_PARAM0_shared_slices : Fld := ⟨0x10100004, 7, 0, 0x10⟩
def NE_PARAM1_shared_slice_mib : Fld := ⟨0x10100008, 31, 24, 0xC⟩
def NE_PARAM1_ddr_channels : Fld := ⟨0x10100008, 23, 16, 0x10⟩
def NE_PARAM1_finyx_ports : Fld := ⟨0x10100008, 15, 12, 0x8⟩
def NE_PARAM1_csi_receivers : Fld := ⟨0x10100008, 11, 8, 0x8⟩
def NE_PARAM1_image_pipes : Fld := ⟨0x10100008, 7, 4, 0x4⟩
def NE_PARAM2_array_rows : Fld := ⟨0x1010000C, 31, 24, 0x20⟩
def NE_PARAM2_array_cols : Fld := ⟨0x1010000C, 23, 16, 0x20⟩
def NE_PARAM2_dot_mults : Fld := ⟨0x1010000C, 15, 12, 0x4⟩
def NE_PARAM2_residue_mod : Fld := ⟨0x1010000C, 11, 4, 0x1F⟩
def NE_STATUS_mem_init_done : Fld := ⟨0x10100010, 8, 8, 0x0⟩
def NE_STATUS_quad_in_reset : Fld := ⟨0x10100010, 7, 4, 0xF⟩
def NE_STATUS_quad_clock_on : Fld := ⟨0x10100010, 3, 0, 0x0⟩
def NE_QUAD_OP_mv (q : Nat) : Fld := ⟨0x10100020 + 0x4 * q, 31, 16, 0x0⟩
def NE_QUAD_OP_mhz (q : Nat) : Fld := ⟨0x10100020 + 0x4 * q, 15, 0, 0x0⟩
def NE_SHM_CFG_scrub_shift : Fld := ⟨0x10100040, 11, 8, 0x0⟩
def NE_SHM_CFG_scrub_en : Fld := ⟨0x10100040, 4, 4, 0x1⟩
def NE_SHM_CFG_linear : Fld := ⟨0x10100040, 0, 0, 0x0⟩
def NE_SHM_ECC_ADDR_valid : Fld := ⟨0x10100044, 31, 31, 0x0⟩
def NE_SHM_ECC_ADDR_offset : Fld := ⟨0x10100044, 27, 0, 0x0⟩
def NE_MESH_CONGEST_cycles : Fld := ⟨0x10100048, 31, 0, 0x0⟩
def NE_SHM_ECC_uncorrected (s : Nat) : Fld := ⟨0x10100080 + 0x4 * s, 31, 16, 0x0⟩
def NE_SHM_ECC_corrected (s : Nat) : Fld := ⟨0x10100080 + 0x4 * s, 15, 0, 0x0⟩
def NE_SHADOW_CTRL_deferred_turns : Fld := ⟨0x101000F0, 15, 8, 0x0⟩
def NE_SHADOW_CTRL_read_active : Fld := ⟨0x101000F0, 3, 3, 0x0⟩
def NE_SHADOW_CTRL_commit_deferred : Fld := ⟨0x101000F0, 2, 2, 0x0⟩
def NE_SHADOW_CTRL_commit_pending : Fld := ⟨0x101000F0, 1, 1, 0x0⟩
def NE_SHADOW_CTRL_shadow_hold : Fld := ⟨0x101000F0, 0, 0, 0x0⟩
def NE_QCFG_drift_turns : Fld := ⟨0x10100100, 31, 24, 0x0⟩
def NE_QCFG_min_values : Fld := ⟨0x10100100, 15, 0, 0x0⟩
def NE_QSTAT_SEL_tensor : Fld := ⟨0x10100104, 15, 0, 0x0⟩
def NE_QSTAT_TURN_turn : Fld := ⟨0x10100108, 31, 0, 0x0⟩
def NE_QSTAT_PRODUCED_produced : Fld := ⟨0x1010010C, 31, 0, 0x0⟩
def NE_QSTAT_CLIP_LO_clipped_lo : Fld := ⟨0x10100110, 31, 0, 0x0⟩
def NE_QSTAT_CLIP_HI_clipped_hi : Fld := ⟨0x10100114, 31, 0, 0x0⟩
def NE_QSTAT_PPM_drift : Fld := ⟨0x10100118, 31, 31, 0x0⟩
def NE_QSTAT_PPM_nan_seen : Fld := ⟨0x10100118, 30, 30, 0x0⟩
def NE_QSTAT_PPM_counted : Fld := ⟨0x10100118, 29, 29, 0x0⟩
def NE_QSTAT_PPM_share_ppm : Fld := ⟨0x10100118, 19, 0, 0x0⟩
def NE_QTHR_threshold_ppm : Fld := ⟨0x1010011C, 19, 0, 0x0⟩
def NE_PLAN_STATUS_version_major : Fld := ⟨0x10100140, 31, 24, 0x0⟩
def NE_PLAN_STATUS_version_minor : Fld := ⟨0x10100140, 23, 16, 0x0⟩
def NE_PLAN_STATUS_last_rejected : Fld := ⟨0x10100140, 4, 4, 0x0⟩
def NE_PLAN_STATUS_fallback_active : Fld := ⟨0x10100140, 3, 3, 0x0⟩
def NE_PLAN_STATUS_plan_valid : Fld := ⟨0x10100140, 2, 2, 0x0⟩
def NE_PLAN_STATUS_load_state : Fld := ⟨0x10100140, 1, 0, 0x0⟩
def NE_PLAN_ACTIVE_LO_plan_id_lo : Fld := ⟨0x10100144, 31, 0, 0x0⟩
def NE_PLAN_ACTIVE_HI_plan_id_hi : Fld := ⟨0x10100148, 31, 0, 0x0⟩
def NE_PLAN_REJECT_item : Fld := ⟨0x1010014C, 31, 16, 0xFFFF⟩
def NE_PLAN_REJECT_reason : Fld := ⟨0x1010014C, 7, 0, 0x0⟩
def NE_CTR_SEL_counter : Fld := ⟨0x10100150, 8, 0, 0x0⟩
def NE_CTR_VALUE_marks : Fld := ⟨0x10100154, 23, 16, 0x0⟩
def NE_CTR_VALUE_value : Fld := ⟨0x10100154, 15, 0, 0x0⟩
def NE_CTR_DROPPED_signals : Fld := ⟨0x10100158, 31, 0, 0x0⟩
def NE_ITEM_COUNT_completed : Fld := ⟨0x1010015C, 31, 16, 0x0⟩
def NE_ITEM_COUNT_released : Fld := ⟨0x1010015C, 15, 0, 0x0⟩
def CORE_ID_mesh_y (n : Nat) : Fld := ⟨0x11000000 + 0x100000 * n, 23, 20, 0x0⟩
def CORE_ID_mesh_x (n : Nat) : Fld := ⟨0x11000000 + 0x100000 * n, 19, 16, 0x0⟩
def CORE_ID_quadrant (n : Nat) : Fld := ⟨0x11000000 + 0x100000 * n, 9, 8, 0x0⟩
def CORE_ID_core (n : Nat) : Fld := ⟨0x11000000 + 0x100000 * n, 7, 0, 0x0⟩
def CORE_STATUS_debug_open (n : Nat) : Fld := ⟨0x11000004 + 0x100000 * n, 9, 9, 0x0⟩
def CORE_STATUS_in_reset (n : Nat) : Fld := ⟨0x11000004 + 0x100000 * n, 8, 8, 0x1⟩
def CORE_STATUS_vec_busy (n : Nat) : Fld := ⟨0x11000004 + 0x100000 * n, 4, 4, 0x0⟩
def CORE_STATUS_array_busy (n : Nat) : Fld := ⟨0x11000004 + 0x100000 * n, 3, 0, 0x0⟩
def CORE_REPAIR_col1_out (n a : Nat) : Fld := ⟨0x11000010 + 0x100000 * n + 0x4 * a, 29, 24, 0x0⟩
def CORE_REPAIR_col0_out (n a : Nat) : Fld := ⟨0x11000010 + 0x100000 * n + 0x4 * a, 21, 16, 0x0⟩
def CORE_REPAIR_row1_out (n a : Nat) : Fld := ⟨0x11000010 + 0x100000 * n + 0x4 * a, 13, 8, 0x0⟩
def CORE_REPAIR_row0_out (n a : Nat) : Fld := ⟨0x11000010 + 0x100000 * n + 0x4 * a, 5, 0, 0x0⟩
def CORE_ARRAY_PASSES_passes (n a : Nat) : Fld := ⟨0x11000020 + 0x100000 * n + 0x4 * a, 31, 0, 0x0⟩
def CORE_ARRAY_STALL_cycles (n a : Nat) : Fld := ⟨0x11000030 + 0x100000 * n + 0x4 * a, 31, 0, 0x0⟩
def CORE_BANK_CONFLICT_losses (n : Nat) : Fld := ⟨0x11000040 + 0x100000 * n, 31, 0, 0x0⟩
def CORE_MEM_ECC_uncorrected (n : Nat) : Fld := ⟨0x11000044 + 0x100000 * n, 31, 16, 0x0⟩
def CORE_MEM_ECC_corrected (n : Nat) : Fld := ⟨0x11000044 + 0x100000 * n, 15, 0, 0x0⟩
def CORE_MEM_ECC_ADDR_valid (n : Nat) : Fld := ⟨0x11000048 + 0x100000 * n, 31, 31, 0x0⟩
def CORE_MEM_ECC_ADDR_offset (n : Nat) : Fld := ⟨0x11000048 + 0x100000 * n, 21, 0, 0x0⟩
def CORE_ARB_starve_limit (n : Nat) : Fld := ⟨0x11000050 + 0x100000 * n, 7, 0, 0x10⟩
def CORE_OVF_COUNT_replays (n : Nat) : Fld := ⟨0x11000060 + 0x100000 * n, 31, 16, 0x0⟩
def CORE_OVF_COUNT_saturated_passes (n : Nat) : Fld := ⟨0x11000060 + 0x100000 * n, 15, 0, 0x0⟩
def CORE_OVF_TURN_budget_spent (n : Nat) : Fld := ⟨0x11000064 + 0x100000 * n, 8, 8, 0x0⟩
def CORE_OVF_TURN_replays_this_turn (n : Nat) : Fld := ⟨0x11000064 + 0x100000 * n, 3, 0, 0x0⟩
def CORE_ARRAY_RESIDUE_recomputes (n a : Nat) : Fld := ⟨0x11000070 + 0x100000 * n + 0x4 * a, 31, 16, 0x0⟩
def CORE_ARRAY_RESIDUE_mismatches_this_turn (n a : Nat) : Fld := ⟨0x11000070 + 0x100000 * n + 0x4 * a, 2, 0, 0x0⟩
def CORE_RESIDUE_LAST_valid (n : Nat) : Fld := ⟨0x11000080 + 0x100000 * n, 31, 31, 0x0⟩
def CORE_RESIDUE_LAST_array (n : Nat) : Fld := ⟨0x11000080 + 0x100000 * n, 27, 26, 0x0⟩
def CORE_RESIDUE_LAST_row (n : Nat) : Fld := ⟨0x11000080 + 0x100000 * n, 25, 21, 0x0⟩
def CORE_RESIDUE_LAST_column (n : Nat) : Fld := ⟨0x11000080 + 0x100000 * n, 20, 16, 0x0⟩
def CORE_RESIDUE_LAST_pass (n : Nat) : Fld := ⟨0x11000080 + 0x100000 * n, 15, 0, 0x0⟩
def CORE_SHADOW_CTRL_deferred_turns (n : Nat) : Fld := ⟨0x110000F0 + 0x100000 * n, 15, 8, 0x0⟩
def CORE_SHADOW_CTRL_read_active (n : Nat) : Fld := ⟨0x110000F0 + 0x100000 * n, 3, 3, 0x0⟩
def CORE_SHADOW_CTRL_commit_deferred (n : Nat) : Fld := ⟨0x110000F0 + 0x100000 * n, 2, 2, 0x0⟩
def CORE_SHADOW_CTRL_commit_pending (n : Nat) : Fld := ⟨0x110000F0 + 0x100000 * n, 1, 1, 0x0⟩
def CORE_SHADOW_CTRL_shadow_hold (n : Nat) : Fld := ⟨0x110000F0 + 0x100000 * n, 0, 0, 0x0⟩
def DMA_STATUS_busy : Fld := ⟨0x14000000, 15, 0, 0x0⟩
def DMA_TIMEOUT_mesh_cycles : Fld := ⟨0x14000004, 19, 0, 0x10000⟩
def DMA_BAD_TOTAL_descriptors : Fld := ⟨0x14000008, 31, 0, 0x0⟩
def DMA_SHADOW_CTRL_deferred_turns : Fld := ⟨0x140000F0, 15, 8, 0x0⟩
def DMA_SHADOW_CTRL_read_active : Fld := ⟨0x140000F0, 3, 3, 0x0⟩
def DMA_SHADOW_CTRL_commit_deferred : Fld := ⟨0x140000F0, 2, 2, 0x0⟩
def DMA_SHADOW_CTRL_commit_pending : Fld := ⟨0x140000F0, 1, 1, 0x0⟩
def DMA_SHADOW_CTRL_shadow_hold : Fld := ⟨0x140000F0, 0, 0, 0x0⟩
def DMA_CH_STATUS_last_cause (c : Nat) : Fld := ⟨dmaChBase c + 0x0, 19, 16, 0x0⟩
def DMA_CH_STATUS_cmp_error (c : Nat) : Fld := ⟨dmaChBase c + 0x0, 4, 4, 0x0⟩
def DMA_CH_STATUS_load_stall (c : Nat) : Fld := ⟨dmaChBase c + 0x0, 3, 3, 0x0⟩
def DMA_CH_STATUS_bad (c : Nat) : Fld := ⟨dmaChBase c + 0x0, 2, 2, 0x0⟩
def DMA_CH_STATUS_shadow_valid (c : Nat) : Fld := ⟨dmaChBase c + 0x0, 1, 1, 0x0⟩
def DMA_CH_STATUS_busy (c : Nat) : Fld := ⟨dmaChBase c + 0x0, 0, 0, 0x0⟩
def DMA_CH_ACTIVE_item (c : Nat) : Fld := ⟨dmaChBase c + 0x4, 31, 16, 0xFFFF⟩
def DMA_CH_ACTIVE_record (c : Nat) : Fld := ⟨dmaChBase c + 0x4, 15, 0, 0x0⟩
def DMA_CH_SHADOW_item (c : Nat) : Fld := ⟨dmaChBase c + 0x8, 31, 16, 0xFFFF⟩
def DMA_CH_SHADOW_record (c : Nat) : Fld := ⟨dmaChBase c + 0x8, 15, 0, 0x0⟩
def DMA_CH_BYTES_units (c : Nat) : Fld := ⟨dmaChBase c + 0xC, 31, 0, 0x0⟩
def DMA_CH_BAD_item (c : Nat) : Fld := ⟨dmaChBase c + 0x10, 31, 16, 0x0⟩
def DMA_CH_BAD_record (c : Nat) : Fld := ⟨dmaChBase c + 0x10, 15, 0, 0x0⟩
def DMA_CH_BAD_ADDR_LO_addr_lo (c : Nat) : Fld := ⟨dmaChBase c + 0x14, 31, 0, 0x0⟩
def DMA_CH_BAD_ADDR_HI_valid (c : Nat) : Fld := ⟨dmaChBase c + 0x18, 31, 31, 0x0⟩
def DMA_CH_BAD_ADDR_HI_cause (c : Nat) : Fld := ⟨dmaChBase c + 0x18, 19, 16, 0x0⟩
def DMA_CH_BAD_ADDR_HI_addr_hi (c : Nat) : Fld := ⟨dmaChBase c + 0x18, 15, 0, 0x0⟩
def DMA_CH_COUNT_bad (c : Nat) : Fld := ⟨dmaChBase c + 0x1C, 31, 16, 0x0⟩
def DMA_CH_COUNT_cmp_blocks (c : Nat) : Fld := ⟨dmaChBase c + 0x1C, 15, 0, 0x0⟩
def DMA_CH_CTRL_weight (c : Nat) : Fld := ⟨dmaChBase c + 0x20, 7, 4, 0x1⟩
def DMA_CH_STALL_cycles (c : Nat) : Fld := ⟨dmaChBase c + 0x24, 31, 0, 0x0⟩
def DMA_CH_ACT_SET_word (c w : Nat) : Fld := ⟨dmaChBase c + 0x40 + 4 * w, 31, 0, 0x0⟩
def DMA_CH_SHD_SET_word (c w : Nat) : Fld := ⟨dmaChBase c + 0x80 + 4 * w, 31, 0, 0x0⟩
def MEM_STATUS_offline : Fld := ⟨0x15000000, 31, 16, 0x0⟩
def MEM_STATUS_warm_restored : Fld := ⟨0x15000000, 2, 2, 0x0⟩
def MEM_STATUS_trained : Fld := ⟨0x15000000, 1, 1, 0x0⟩
def MEM_STATUS_init_done : Fld := ⟨0x15000000, 0, 0, 0x0⟩
def MEM_CFG_capacity : Fld := ⟨0x15000004, 7, 4, 0x0⟩
def MEM_CFG_speed : Fld := ⟨0x15000004, 3, 0, 0x0⟩
def MEM_SCRUB_CFG_interval : Fld := ⟨0x15000008, 15, 4, 0xA⟩
def MEM_SCRUB_CFG_enable : Fld := ⟨0x15000008, 0, 0, 0x1⟩
def MEM_SCRUB_POS_sweeps : Fld := ⟨0x1500000C, 31, 16, 0x0⟩
def MEM_SCRUB_POS_progress : Fld := ⟨0x1500000C, 15, 0, 0x0⟩
def MEM_CE_LIMIT_per_second : Fld := ⟨0x15000010, 15, 0, 0x100⟩
def MEM_UE_ADDR_LO_addr_lo : Fld := ⟨0x15000014, 31, 0, 0x0⟩
def MEM_UE_ADDR_HI_valid : Fld := ⟨0x15000018, 31, 31, 0x0⟩
def MEM_UE_ADDR_HI_source : Fld := ⟨0x15000018, 30, 28, 0x0⟩
def MEM_UE_ADDR_HI_live : Fld := ⟨0x15000018, 27, 27, 0x0⟩
def MEM_UE_ADDR_HI_addr_hi : Fld := ⟨0x15000018, 15, 0, 0x0⟩
def MEM_PROT_ADDR_LO_addr_lo : Fld := ⟨0x1500001C, 31, 0, 0x0⟩
def MEM_PROT_ADDR_HI_valid : Fld := ⟨0x15000020, 31, 31, 0x0⟩
def MEM_PROT_ADDR_HI_addr_hi : Fld := ⟨0x15000020, 15, 0, 0x0⟩
def MEM_PROT_INFO_write : Fld := ⟨0x15000024, 8, 8, 0x0⟩
def MEM_PROT_INFO_area : Fld := ⟨0x15000024, 7, 4, 0x0⟩
def MEM_PROT_INFO_agent : Fld := ⟨0x15000024, 3, 0, 0x0⟩
def MEM_AREA_size (a : Nat) : Fld := ⟨0x15000040 + 0x4 * a, 31, 16, 0x0⟩
def MEM_AREA_base (a : Nat) : Fld := ⟨0x15000040 + 0x4 * a, 15, 0, 0x0⟩
def MEM_SHADOW_CTRL_deferred_turns : Fld := ⟨0x150000F0, 15, 8, 0x0⟩
def MEM_SHADOW_CTRL_read_active : Fld := ⟨0x150000F0, 3, 3, 0x0⟩
def MEM_SHADOW_CTRL_commit_deferred : Fld := ⟨0x150000F0, 2, 2, 0x0⟩
def MEM_SHADOW_CTRL_commit_pending : Fld := ⟨0x150000F0, 1, 1, 0x0⟩
def MEM_SHADOW_CTRL_shadow_hold : Fld := ⟨0x150000F0, 0, 0, 0x0⟩
def MEM_CH_STATUS_refresh_mult (c : Nat) : Fld := ⟨0x15000100 + 0x10 * c, 15, 8, 0x1⟩
def MEM_CH_STATUS_training (c : Nat) : Fld := ⟨0x15000100 + 0x10 * c, 3, 2, 0x0⟩
def MEM_CH_STATUS_self_refresh (c : Nat) : Fld := ⟨0x15000100 + 0x10 * c, 1, 1, 0x0⟩
def MEM_CH_STATUS_online (c : Nat) : Fld := ⟨0x15000100 + 0x10 * c, 0, 0, 0x0⟩
def MEM_CH_ECC_uncorrected (c : Nat) : Fld := ⟨0x15000104 + 0x10 * c, 31, 16, 0x0⟩
def MEM_CH_ECC_corrected (c : Nat) : Fld := ⟨0x15000104 + 0x10 * c, 15, 0, 0x0⟩
def MEM_CH_MAINT_blocked_ns (c : Nat) : Fld := ⟨0x15000108 + 0x10 * c, 31, 0, 0x0⟩
def CSI_STATUS_streams_enabled : Fld := ⟨0x16000000, 13, 8, 0x0⟩
def CSI_STATUS_rx_up : Fld := ⟨0x16000000, 7, 0, 0x0⟩
def CSI_SHADOW_CTRL_deferred_turns : Fld := ⟨0x160000F0, 15, 8, 0x0⟩
def CSI_SHADOW_CTRL_read_active : Fld := ⟨0x160000F0, 3, 3, 0x0⟩
def CSI_SHADOW_CTRL_commit_deferred : Fld := ⟨0x160000F0, 2, 2, 0x0⟩
def CSI_SHADOW_CTRL_commit_pending : Fld := ⟨0x160000F0, 1, 1, 0x0⟩
def CSI_SHADOW_CTRL_shadow_hold : Fld := ⟨0x160000F0, 0, 0, 0x0⟩
def CSI_RX_CFG_enable (r : Nat) : Fld := ⟨0x16001000 + 0x200 * r, 31, 31, 0x0⟩
def CSI_RX_CFG_phy (r : Nat) : Fld := ⟨0x16001000 + 0x200 * r, 30, 30, 0x0⟩
def CSI_RX_CFG_lanes (r : Nat) : Fld := ⟨0x16001000 + 0x200 * r, 29, 28, 0x0⟩
def CSI_RX_CFG_cont_clock (r : Nat) : Fld := ⟨0x16001000 + 0x200 * r, 27, 27, 0x0⟩
def CSI_RX_CFG_deskew (r : Nat) : Fld := ⟨0x16001000 + 0x200 * r, 26, 26, 0x0⟩
def CSI_RX_CFG_rate (r : Nat) : Fld := ⟨0x16001000 + 0x200 * r, 25, 13, 0x0⟩
def CSI_RX_LANEMAP_map (r : Nat) : Fld := ⟨0x16001004 + 0x200 * r, 15, 0, 0x3210⟩
def CSI_RX_STATUS_lane_sync (r : Nat) : Fld := ⟨0x16001008 + 0x200 * r, 7, 4, 0x0⟩
def CSI_RX_STATUS_deskew_done (r : Nat) : Fld := ⟨0x16001008 + 0x200 * r, 3, 3, 0x0⟩
def CSI_RX_STATUS_state (r : Nat) : Fld := ⟨0x16001008 + 0x200 * r, 1, 0, 0x0⟩
def CSI_RX_PHY_ERR_sot_errors (r : Nat) : Fld := ⟨0x1600100C + 0x200 * r, 31, 16, 0x0⟩
def CSI_RX_PHY_ERR_ctrl_errors (r : Nat) : Fld := ⟨0x1600100C + 0x200 * r, 15, 0, 0x0⟩
def CSI_RX_PKT_ERR_hdr_uncorrectable (r : Nat) : Fld := ⟨0x16001010 + 0x200 * r, 31, 16, 0x0⟩
def CSI_RX_PKT_ERR_overflow_lines (r : Nat) : Fld := ⟨0x16001010 + 0x200 * r, 15, 0, 0x0⟩
def CSI_RX_VC_ERR_crc_errors (r v : Nat) : Fld := ⟨0x16001100 + 0x200 * r + 0x4 * v, 31, 16, 0x0⟩
def CSI_RX_VC_ERR_hdr_corrected (r v : Nat) : Fld := ⟨0x16001100 + 0x200 * r + 0x4 * v, 15, 8, 0x0⟩
def CSI_RX_VC_ERR_unexpected_dt (r v : Nat) : Fld := ⟨0x16001100 + 0x200 * r + 0x4 * v, 7, 0, 0x0⟩
def CSI_STREAM_CFG_enable (s : Nat) : Fld := ⟨0x16002000 + 0x40 * s, 31, 31, 0x0⟩
def CSI_STREAM_CFG_receiver (s : Nat) : Fld := ⟨0x16002000 + 0x40 * s, 30, 28, 0x0⟩
def CSI_STREAM_CFG_vc (s : Nat) : Fld := ⟨0x16002000 + 0x40 * s, 27, 23, 0x0⟩
def CSI_STREAM_CFG_emb_en (s : Nat) : Fld := ⟨0x16002000 + 0x40 * s, 22, 22, 0x0⟩
def CSI_STREAM_CFG_data_type (s : Nat) : Fld := ⟨0x16002000 + 0x40 * s, 21, 16, 0x0⟩
def CSI_STREAM_CFG_bpp (s : Nat) : Fld := ⟨0x16002000 + 0x40 * s, 15, 12, 0x0⟩
def CSI_STREAM_CFG_route (s : Nat) : Fld := ⟨0x16002000 + 0x40 * s, 11, 9, 0x0⟩
def CSI_STREAM_CFG_crc_action (s : Nat) : Fld := ⟨0x16002000 + 0x40 * s, 8, 8, 0x0⟩
def CSI_STREAM_CFG_lost_turns (s : Nat) : Fld := ⟨0x16002000 + 0x40 * s, 7, 4, 0x0⟩
def CSI_STREAM_SIZE_width (s : Nat) : Fld := ⟨0x16002004 + 0x40 * s, 31, 16, 0x0⟩
def CSI_STREAM_SIZE_height (s : Nat) : Fld := ⟨0x16002004 + 0x40 * s, 15, 0, 0x0⟩
def CSI_STREAM_BLACK_black_level (s : Nat) : Fld := ⟨0x16002008 + 0x40 * s, 23, 0, 0x0⟩
def CSI_STREAM_TIME_ts_offset (s : Nat) : Fld := ⟨0x1600200C + 0x40 * s, 31, 16, 0x0⟩
def CSI_STREAM_TIME_stale_limit (s : Nat) : Fld := ⟨0x1600200C + 0x40 * s, 15, 0, 0x0⟩
def CSI_STREAM_EMB_emb_store (s : Nat) : Fld := ⟨0x16002010 + 0x40 * s, 30, 28, 0x0⟩
def CSI_STREAM_EMB_unpack (s : Nat) : Fld := ⟨0x16002010 + 0x40 * s, 27, 26, 0x0⟩
def CSI_STREAM_EMB_epoch_line (s : Nat) : Fld := ⟨0x16002010 + 0x40 * s, 25, 24, 0x0⟩
def CSI_STREAM_EMB_epoch_byte (s : Nat) : Fld := ⟨0x16002010 + 0x40 * s, 23, 12, 0x0⟩
def CSI_STREAM_EMB_epoch_width (s : Nat) : Fld := ⟨0x16002010 + 0x40 * s, 11, 11, 0x0⟩
def CSI_STREAM_EMB_epoch_en (s : Nat) : Fld := ⟨0x16002010 + 0x40 * s, 10, 10, 0x0⟩
def CSI_STREAM_BUF_LO_base_lo (s : Nat) : Fld := ⟨0x16002014 + 0x40 * s, 31, 0, 0x0⟩
def CSI_STREAM_BUF_HI_base_hi (s : Nat) : Fld := ⟨0x16002018 + 0x40 * s, 15, 0, 0x0⟩
def CSI_STREAM_BUF_CFG_pitch (s : Nat) : Fld := ⟨0x1600201C + 0x40 * s, 31, 18, 0x0⟩
def CSI_STREAM_BUF_CFG_slots (s : Nat) : Fld := ⟨0x1600201C + 0x40 * s, 17, 16, 0x0⟩
def CSI_STREAM_BUF_CFG_ring_lines (s : Nat) : Fld := ⟨0x1600201C + 0x40 * s, 13, 0, 0x0⟩
def CSI_STREAM_REC_LO_rec_lo (s : Nat) : Fld := ⟨0x16002020 + 0x40 * s, 31, 0, 0x0⟩
def CSI_STREAM_REC_HI_rec_hi (s : Nat) : Fld := ⟨0x16002024 + 0x40 * s, 15, 0, 0x0⟩
def CSI_STREAM_STATUS_frame_number (s : Nat) : Fld := ⟨0x16002028 + 0x40 * s, 31, 16, 0x0⟩
def CSI_STREAM_STATUS_last_marks (s : Nat) : Fld := ⟨0x16002028 + 0x40 * s, 15, 3, 0x0⟩
def CSI_STREAM_STATUS_slot (s : Nat) : Fld := ⟨0x16002028 + 0x40 * s, 2, 1, 0x0⟩
def CSI_STREAM_STATUS_lost (s : Nat) : Fld := ⟨0x16002028 + 0x40 * s, 0, 0, 0x0⟩
def CSI_STREAM_FRAMES_frames (s : Nat) : Fld := ⟨0x1600202C + 0x40 * s, 31, 16, 0x0⟩
def CSI_STREAM_FRAMES_stale_drops (s : Nat) : Fld := ⟨0x1600202C + 0x40 * s, 15, 0, 0x0⟩
def CSI_STREAM_ERRS_short_frames (s : Nat) : Fld := ⟨0x16002030 + 0x40 * s, 31, 24, 0x0⟩
def CSI_STREAM_ERRS_long_frames (s : Nat) : Fld := ⟨0x16002030 + 0x40 * s, 23, 16, 0x0⟩
def CSI_STREAM_ERRS_lines_discarded (s : Nat) : Fld := ⟨0x16002030 + 0x40 * s, 15, 0, 0x0⟩
def CSI_STREAM_EPOCH_frame_epoch (s : Nat) : Fld := ⟨0x16002034 + 0x40 * s, 31, 16, 0x0⟩
def CSI_STREAM_EPOCH_written_epoch (s : Nat) : Fld := ⟨0x16002034 + 0x40 * s, 15, 0, 0x0⟩
def CSI_STREAM_TS_LO_ts_lo (s : Nat) : Fld := ⟨0x16002038 + 0x40 * s, 31, 0, 0x0⟩
def CSI_STREAM_TS_HI_ts_hi (s : Nat) : Fld := ⟨0x1600203C + 0x40 * s, 31, 0, 0x0⟩
def CSI_SCM_CFG_enable (m : Nat) : Fld := ⟨0x16003000 + 0x40 * m, 31, 31, 0x0⟩
def CSI_SCM_CFG_i3c_bus (m : Nat) : Fld := ⟨0x16003000 + 0x40 * m, 30, 30, 0x0⟩
def CSI_SCM_CFG_i2c_speed (m : Nat) : Fld := ⟨0x16003000 + 0x40 * m, 29, 28, 0x0⟩
def CSI_SCM_CFG_i3c_speed (m : Nat) : Fld := ⟨0x16003000 + 0x40 * m, 27, 24, 0x0⟩
def CSI_SCM_CFG_scl_timeout (m : Nat) : Fld := ⟨0x16003000 + 0x40 * m, 23, 16, 0x0⟩
def CSI_SCM_TABLE_LO_table_lo (m : Nat) : Fld := ⟨0x16003004 + 0x40 * m, 31, 0, 0x0⟩
def CSI_SCM_TABLE_HI_table_hi (m : Nat) : Fld := ⟨0x16003008 + 0x40 * m, 15, 0, 0x0⟩
def CSI_SCM_STATUS_entries (m : Nat) : Fld := ⟨0x1600300C + 0x40 * m, 15, 8, 0x0⟩
def CSI_SCM_STATUS_busy (m : Nat) : Fld := ⟨0x1600300C + 0x40 * m, 7, 7, 0x0⟩
def CSI_SCM_STATUS_entry (m : Nat) : Fld := ⟨0x1600300C + 0x40 * m, 4, 0, 0x0⟩
def CSI_SCM_ERR_nack (m : Nat) : Fld := ⟨0x16003010 + 0x40 * m, 31, 24, 0x0⟩
def CSI_SCM_ERR_bus_errors (m : Nat) : Fld := ⟨0x16003010 + 0x40 * m, 23, 16, 0x0⟩
def CSI_SCM_ERR_timeouts (m : Nat) : Fld := ⟨0x16003010 + 0x40 * m, 15, 8, 0x0⟩
def CSI_SCM_ERR_skipped (m : Nat) : Fld := ⟨0x16003010 + 0x40 * m, 7, 0, 0x0⟩
def CSI_SCM_IBI_valid (m : Nat) : Fld := ⟨0x16003014 + 0x40 * m, 31, 31, 0x0⟩
def CSI_SCM_IBI_count (m : Nat) : Fld := ⟨0x16003014 + 0x40 * m, 30, 23, 0x0⟩
def CSI_SCM_IBI_address (m : Nat) : Fld := ⟨0x16003014 + 0x40 * m, 22, 16, 0x0⟩
def CSI_SCM_IBI_mdb (m : Nat) : Fld := ⟨0x16003014 + 0x40 * m, 15, 8, 0x0⟩
def ISP_STATUS_pipe_active : Fld := ⟨0x16100000, 3, 0, 0x0⟩
def ISP_SHADOW_CTRL_deferred_turns : Fld := ⟨0x161000F0, 15, 8, 0x0⟩
def ISP_SHADOW_CTRL_read_active : Fld := ⟨0x161000F0, 3, 3, 0x0⟩
def ISP_SHADOW_CTRL_commit_deferred : Fld := ⟨0x161000F0, 2, 2, 0x0⟩
def ISP_SHADOW_CTRL_commit_pending : Fld := ⟨0x161000F0, 1, 1, 0x0⟩
def ISP_SHADOW_CTRL_shadow_hold : Fld := ⟨0x161000F0, 0, 0, 0x0⟩
def ISP_C_CFG_enable (p x : Nat) : Fld := ⟨0x16101000 + 0x1000 * p + 0x100 * x, 31, 31, 0x0⟩
def ISP_C_CFG_exposures (p x : Nat) : Fld := ⟨0x16101000 + 0x1000 * p + 0x100 * x, 30, 29, 0x0⟩
def ISP_C_CFG_lead (p x : Nat) : Fld := ⟨0x16101000 + 0x1000 * p + 0x100 * x, 28, 27, 0x0⟩
def ISP_C_CFG_stream0 (p x : Nat) : Fld := ⟨0x16101000 + 0x1000 * p + 0x100 * x, 26, 22, 0x0⟩
def ISP_C_CFG_stream1 (p x : Nat) : Fld := ⟨0x16101000 + 0x1000 * p + 0x100 * x, 21, 17, 0x0⟩
def ISP_C_CFG_stream2 (p x : Nat) : Fld := ⟨0x16101000 + 0x1000 * p + 0x100 * x, 16, 12, 0x0⟩
def ISP_C_CFG_mosaic (p x : Nat) : Fld := ⟨0x16101000 + 0x1000 * p + 0x100 * x, 11, 10, 0x0⟩
def ISP_C_CFG_phase_x (p x : Nat) : Fld := ⟨0x16101000 + 0x1000 * p + 0x100 * x, 9, 8, 0x0⟩
def ISP_C_CFG_phase_y (p x : Nat) : Fld := ⟨0x16101000 + 0x1000 * p + 0x100 * x, 7, 6, 0x0⟩
def ISP_C_CFG_t0_exposure (p x : Nat) : Fld := ⟨0x16101000 + 0x1000 * p + 0x100 * x, 5, 4, 0x0⟩
def ISP_C_LIN_linear_black (p x : Nat) : Fld := ⟨0x16101004 + 0x1000 * p + 0x100 * x, 23, 0, 0x0⟩
def ISP_C_GAIN1_gain (p x : Nat) : Fld := ⟨0x16101008 + 0x1000 * p + 0x100 * x, 23, 0, 0x100⟩
def ISP_C_GAIN2_gain (p x : Nat) : Fld := ⟨0x1610100C + 0x1000 * p + 0x100 * x, 23, 0, 0x100⟩
def ISP_C_SAT0_ramp_shift (p x : Nat) : Fld := ⟨0x16101010 + 0x1000 * p + 0x100 * x, 28, 24, 0x8⟩
def ISP_C_SAT0_threshold (p x : Nat) : Fld := ⟨0x16101010 + 0x1000 * p + 0x100 * x, 23, 0, 0xFFFFFF⟩
def ISP_C_SAT1_ramp_shift (p x : Nat) : Fld := ⟨0x16101014 + 0x1000 * p + 0x100 * x, 28, 24, 0x8⟩
def ISP_C_SAT1_threshold (p x : Nat) : Fld := ⟨0x16101014 + 0x1000 * p + 0x100 * x, 23, 0, 0xFFFFFF⟩
def ISP_C_SAT2_ramp_shift (p x : Nat) : Fld := ⟨0x16101018 + 0x1000 * p + 0x100 * x, 28, 24, 0x8⟩
def ISP_C_SAT2_threshold (p x : Nat) : Fld := ⟨0x16101018 + 0x1000 * p + 0x100 * x, 23, 0, 0xFFFFFF⟩
def ISP_C_IRSUB_k_b (p x : Nat) : Fld := ⟨0x1610101C + 0x1000 * p + 0x100 * x, 23, 16, 0x0⟩
def ISP_C_IRSUB_k_g (p x : Nat) : Fld := ⟨0x1610101C + 0x1000 * p + 0x100 * x, 15, 8, 0x0⟩
def ISP_C_IRSUB_k_r (p x : Nat) : Fld := ⟨0x1610101C + 0x1000 * p + 0x100 * x, 7, 0, 0x0⟩
def ISP_C_TABLE_LO_table_lo (p x : Nat) : Fld := ⟨0x16101020 + 0x1000 * p + 0x100 * x, 31, 0, 0x0⟩
def ISP_C_TABLE_HI_table_hi (p x : Nat) : Fld := ⟨0x16101024 + 0x1000 * p + 0x100 * x, 15, 0, 0x0⟩
def ISP_C_TAPS_merge_lines (p x : Nat) : Fld := ⟨0x16101028 + 0x1000 * p + 0x100 * x, 15, 8, 0x10⟩
def ISP_C_TAPS_t3_signed (p x : Nat) : Fld := ⟨0x16101028 + 0x1000 * p + 0x100 * x, 7, 7, 0x0⟩
def ISP_C_TAPS_t3_wide (p x : Nat) : Fld := ⟨0x16101028 + 0x1000 * p + 0x100 * x, 6, 6, 0x1⟩
def ISP_C_TAPS_tap_en (p x : Nat) : Fld := ⟨0x16101028 + 0x1000 * p + 0x100 * x, 3, 0, 0x0⟩
def ISP_C_STATS_LO_stats_lo (p x : Nat) : Fld := ⟨0x1610102C + 0x1000 * p + 0x100 * x, 31, 0, 0x0⟩
def ISP_C_STATS_HI_stats_hi (p x : Nat) : Fld := ⟨0x16101030 + 0x1000 * p + 0x100 * x, 15, 0, 0x0⟩
def ISP_C_STATS_CFG_enable (p x : Nat) : Fld := ⟨0x16101034 + 0x1000 * p + 0x100 * x, 31, 31, 0x0⟩
def ISP_C_STATS_CFG_hist_mask (p x : Nat) : Fld := ⟨0x16101034 + 0x1000 * p + 0x100 * x, 3, 0, 0xF⟩
def ISP_C_STATUS_reject_reason (p x : Nat) : Fld := ⟨0x16101038 + 0x1000 * p + 0x100 * x, 31, 24, 0x0⟩
def ISP_C_STATUS_table_valid (p x : Nat) : Fld := ⟨0x16101038 + 0x1000 * p + 0x100 * x, 3, 3, 0x0⟩
def ISP_C_STATUS_active (p x : Nat) : Fld := ⟨0x16101038 + 0x1000 * p + 0x100 * x, 2, 2, 0x0⟩
def ISP_C_STATUS_slot (p x : Nat) : Fld := ⟨0x16101038 + 0x1000 * p + 0x100 * x, 1, 0, 0x0⟩
def ISP_C_ERR_late_lines (p x : Nat) : Fld := ⟨0x1610103C + 0x1000 * p + 0x100 * x, 31, 16, 0x0⟩
def ISP_C_ERR_merge_missing (p x : Nat) : Fld := ⟨0x1610103C + 0x1000 * p + 0x100 * x, 15, 0, 0x0⟩
def ISP_T_BUF_LO_base_lo (p x t : Nat) : Fld := ⟨0x16101040 + 0x1000 * p + 0x100 * x + 0x10 * t, 31, 0, 0x0⟩
def ISP_T_BUF_HI_base_hi (p x t : Nat) : Fld := ⟨0x16101044 + 0x1000 * p + 0x100 * x + 0x10 * t, 15, 0, 0x0⟩
def ISP_T_BUF_CFG_pitch (p x t : Nat) : Fld := ⟨0x16101048 + 0x1000 * p + 0x100 * x + 0x10 * t, 31, 18, 0x0⟩
def ISP_T_BUF_CFG_slots (p x t : Nat) : Fld := ⟨0x16101048 + 0x1000 * p + 0x100 * x + 0x10 * t, 17, 16, 0x0⟩
def ISP_T_BUF_CFG_ring_lines (p x t : Nat) : Fld := ⟨0x16101048 + 0x1000 * p + 0x100 * x + 0x10 * t, 13, 0, 0x0⟩
def ISP_W_SIZE_out_w (p x w : Nat) : Fld := ⟨0x16101080 + 0x1000 * p + 0x100 * x + 0x20 * w, 31, 16, 0x0⟩
def ISP_W_SIZE_out_h (p x w : Nat) : Fld := ⟨0x16101080 + 0x1000 * p + 0x100 * x + 0x20 * w, 15, 0, 0x0⟩
def ISP_W_MESH_LO_mesh_lo (p x w : Nat) : Fld := ⟨0x16101084 + 0x1000 * p + 0x100 * x + 0x20 * w, 31, 0, 0x0⟩
def ISP_W_MESH_HI_enable (p x w : Nat) : Fld := ⟨0x16101088 + 0x1000 * p + 0x100 * x + 0x20 * w, 31, 31, 0x0⟩
def ISP_W_MESH_HI_mesh_hi (p x w : Nat) : Fld := ⟨0x16101088 + 0x1000 * p + 0x100 * x + 0x20 * w, 15, 0, 0x0⟩
def ISP_W_BUF_LO_base_lo (p x w : Nat) : Fld := ⟨0x1610108C + 0x1000 * p + 0x100 * x + 0x20 * w, 31, 0, 0x0⟩
def ISP_W_BUF_HI_base_hi (p x w : Nat) : Fld := ⟨0x16101090 + 0x1000 * p + 0x100 * x + 0x20 * w, 15, 0, 0x0⟩
def ISP_W_BUF_CFG_pitch (p x w : Nat) : Fld := ⟨0x16101094 + 0x1000 * p + 0x100 * x + 0x20 * w, 31, 18, 0x0⟩
def ISP_W_BUF_CFG_slots (p x w : Nat) : Fld := ⟨0x16101094 + 0x1000 * p + 0x100 * x + 0x20 * w, 17, 16, 0x0⟩
def ISP_W_BUF_CFG_ring_lines (p x w : Nat) : Fld := ⟨0x16101094 + 0x1000 * p + 0x100 * x + 0x20 * w, 13, 0, 0x0⟩
def ISP_W_STATUS_mesh_valid (p x w : Nat) : Fld := ⟨0x16101098 + 0x1000 * p + 0x100 * x + 0x20 * w, 31, 31, 0x0⟩
def ISP_W_STATUS_overruns (p x w : Nat) : Fld := ⟨0x16101098 + 0x1000 * p + 0x100 * x + 0x20 * w, 15, 0, 0x0⟩
def ISP_P_STATUS_active (p : Nat) : Fld := ⟨0x16101800 + 0x1000 * p, 7, 0, 0x0⟩
def ISP_P_LOAD_busy_cycles (p : Nat) : Fld := ⟨0x16101804 + 0x1000 * p, 31, 0, 0x0⟩
def ISP_P_MERGE_USED_kib (p : Nat) : Fld := ⟨0x16101808 + 0x1000 * p, 10, 0, 0x0⟩
def VID_STATUS_replay : Fld := ⟨0x16200000, 2, 0, 0x0⟩
def VID_LOAD_enc_mpix : Fld := ⟨0x16200004, 31, 16, 0x0⟩
def VID_LOAD_dec_mpix : Fld := ⟨0x16200004, 15, 0, 0x0⟩
def VID_SHADOW_CTRL_deferred_turns : Fld := ⟨0x162000F0, 15, 8, 0x0⟩
def VID_SHADOW_CTRL_read_active : Fld := ⟨0x162000F0, 3, 3, 0x0⟩
def VID_SHADOW_CTRL_commit_deferred : Fld := ⟨0x162000F0, 2, 2, 0x0⟩
def VID_SHADOW_CTRL_commit_pending : Fld := ⟨0x162000F0, 1, 1, 0x0⟩
def VID_SHADOW_CTRL_shadow_hold : Fld := ⟨0x162000F0, 0, 0, 0x0⟩
def VID_RPL_CFG_epochs : Fld := ⟨0x16200100, 23, 16, 0x1⟩
def VID_RPL_CFG_drop_last : Fld := ⟨0x16200100, 2, 2, 0x0⟩
def VID_RPL_CFG_batch : Fld := ⟨0x16200100, 1, 0, 0x0⟩
def VID_RPL_SET_LO_set_lo : Fld := ⟨0x16200104, 31, 0, 0x0⟩
def VID_RPL_SET_HI_set_hi : Fld := ⟨0x16200108, 15, 0, 0x0⟩
def VID_RPL_SEED_LO_seed : Fld := ⟨0x1620010C, 31, 0, 0x0⟩
def VID_RPL_SEED_HI_seed : Fld := ⟨0x16200110, 31, 0, 0x0⟩
def VID_RPL_EPOCH_epoch : Fld := ⟨0x16200114, 31, 0, 0x0⟩
def VID_RPL_STAGE_LO_stage_lo : Fld := ⟨0x16200118, 31, 0, 0x0⟩
def VID_RPL_STAGE_HI_stage_hi : Fld := ⟨0x1620011C, 15, 0, 0x0⟩
def VID_RPL_STAGE_SIZE_mib : Fld := ⟨0x16200120, 31, 0, 0x0⟩
def VID_RPL_SKIPLOG_LO_log_lo : Fld := ⟨0x16200124, 31, 0, 0x0⟩
def VID_RPL_SKIPLOG_HI_log_hi : Fld := ⟨0x16200128, 15, 0, 0x0⟩
def VID_RPL_SKIPLOG_CFG_written : Fld := ⟨0x1620012C, 31, 16, 0x0⟩
def VID_RPL_SKIPLOG_CFG_entries : Fld := ⟨0x1620012C, 15, 0, 0x0⟩
def VID_RPL_POS_position : Fld := ⟨0x16200130, 31, 0, 0x0⟩
def VID_RPL_COUNT_skipped : Fld := ⟨0x16200134, 31, 16, 0x0⟩
def VID_RPL_COUNT_delivered : Fld := ⟨0x16200134, 15, 0, 0x0⟩
def VID_ENC_CFG_enable (e : Nat) : Fld := ⟨0x16200200 + 0x20 * e, 31, 31, 0x0⟩
def VID_ENC_CFG_src_kind (e : Nat) : Fld := ⟨0x16200200 + 0x20 * e, 29, 28, 0x0⟩
def VID_ENC_CFG_stream (e : Nat) : Fld := ⟨0x16200200 + 0x20 * e, 27, 23, 0x0⟩
def VID_ENC_CFG_pipe (e : Nat) : Fld := ⟨0x16200200 + 0x20 * e, 22, 21, 0x0⟩
def VID_ENC_CFG_context (e : Nat) : Fld := ⟨0x16200200 + 0x20 * e, 20, 18, 0x0⟩
def VID_ENC_CFG_unit (e : Nat) : Fld := ⟨0x16200200 + 0x20 * e, 17, 16, 0x0⟩
def VID_ENC_CFG_idr_interval (e : Nat) : Fld := ⟨0x16200200 + 0x20 * e, 15, 8, 0x0⟩
def VID_ENC_CFG_refs (e : Nat) : Fld := ⟨0x16200200 + 0x20 * e, 7, 7, 0x0⟩
def VID_ENC_RATE_mode (e : Nat) : Fld := ⟨0x16200204 + 0x20 * e, 31, 31, 0x0⟩
def VID_ENC_RATE_qp (e : Nat) : Fld := ⟨0x16200204 + 0x20 * e, 29, 24, 0x0⟩
def VID_ENC_RATE_target_kbits (e : Nat) : Fld := ⟨0x16200204 + 0x20 * e, 23, 0, 0x0⟩
def VID_ENC_RING_LO_ring_lo (e : Nat) : Fld := ⟨0x16200208 + 0x20 * e, 31, 0, 0x0⟩
def VID_ENC_RING_HI_ring_hi (e : Nat) : Fld := ⟨0x1620020C + 0x20 * e, 15, 0, 0x0⟩
def VID_ENC_RING_SIZE_bytes (e : Nat) : Fld := ⟨0x16200210 + 0x20 * e, 31, 0, 0x0⟩
def VID_ENC_WR_offset (e : Nat) : Fld := ⟨0x16200214 + 0x20 * e, 31, 0, 0x0⟩
def VID_ENC_RD_offset (e : Nat) : Fld := ⟨0x16200218 + 0x20 * e, 31, 0, 0x0⟩
def VID_ENC_STATUS_skipped (e : Nat) : Fld := ⟨0x1620021C + 0x20 * e, 31, 16, 0x0⟩
def VID_ENC_STATUS_ring_full (e : Nat) : Fld := ⟨0x1620021C + 0x20 * e, 15, 0, 0x0⟩
def VID_DEC_CFG_enable (d : Nat) : Fld := ⟨0x16200400 + 0x10 * d, 31, 31, 0x0⟩
def VID_DEC_CFG_codec (d : Nat) : Fld := ⟨0x16200400 + 0x10 * d, 30, 30, 0x0⟩
def VID_DEC_CFG_ten_bit (d : Nat) : Fld := ⟨0x16200400 + 0x10 * d, 29, 29, 0x0⟩
def VID_DEC_MAX_max_w (d : Nat) : Fld := ⟨0x16200404 + 0x10 * d, 31, 16, 0x0⟩
def VID_DEC_MAX_max_h (d : Nat) : Fld := ⟨0x16200404 + 0x10 * d, 15, 0, 0x0⟩
def VID_DEC_STATUS_frames (d : Nat) : Fld := ⟨0x16200408 + 0x10 * d, 15, 0, 0x0⟩
def VID_DEC_ERR_rejected (d : Nat) : Fld := ⟨0x1620040C + 0x10 * d, 31, 16, 0x0⟩
def VID_DEC_ERR_incomplete (d : Nat) : Fld := ⟨0x1620040C + 0x10 * d, 15, 0, 0x0⟩
def FX_STATUS_port_up : Fld := ⟨0x17000000, 15, 8, 0x0⟩
def FX_STATUS_hold_full : Fld := ⟨0x17000000, 2, 2, 0x0⟩
def FX_STATUS_train_state : Fld := ⟨0x17000000, 1, 0, 0x0⟩
def FX_ROLE_device_id : Fld := ⟨0x17000004, 31, 23, 0x0⟩
def FX_ROLE_buddy_id : Fld := ⟨0x17000004, 22, 14, 0x0⟩
def FX_ROLE_buddy_valid : Fld := ⟨0x17000004, 13, 13, 0x0⟩
def FX_ROLE_master_id : Fld := ⟨0x17000004, 12, 4, 0x0⟩
def FX_TOPO_topology : Fld := ⟨0x17000008, 31, 30, 0x0⟩
def FX_TOPO_dim_x : Fld := ⟨0x17000008, 26, 24, 0x0⟩
def FX_TOPO_dim_y : Fld := ⟨0x17000008, 23, 20, 0x0⟩
def FX_TOPO_group_size : Fld := ⟨0x17000008, 6, 0, 0x0⟩
def FX_GROUP_SIG_LO_sig : Fld := ⟨0x1700000C, 31, 0, 0x0⟩
def FX_GROUP_SIG_HI_sig : Fld := ⟨0x17000010, 31, 0, 0x0⟩
def FX_E2E_timeout : Fld := ⟨0x17000014, 15, 0, 0xC8⟩
def FX_HOLD_peak_kib : Fld := ⟨0x17000018, 31, 16, 0x0⟩
def FX_HOLD_used_kib : Fld := ⟨0x17000018, 15, 0, 0x0⟩
def FX_HOLD_STALL_cycles : Fld := ⟨0x1700001C, 31, 0, 0x0⟩
def FX_COUNTS_refused : Fld := ⟨0x17000020, 31, 16, 0x0⟩
def FX_COUNTS_lost : Fld := ⟨0x17000020, 15, 0, 0x0⟩
def FX_REDIRECT_redirected (k : Nat) : Fld := ⟨0x17000030 + 0x4 * k, 31, 0, 0x0⟩
def FX_SHADOW_CTRL_deferred_turns : Fld := ⟨0x170000F0, 15, 8, 0x0⟩
def FX_SHADOW_CTRL_read_active : Fld := ⟨0x170000F0, 3, 3, 0x0⟩
def FX_SHADOW_CTRL_commit_deferred : Fld := ⟨0x170000F0, 2, 2, 0x0⟩
def FX_SHADOW_CTRL_commit_pending : Fld := ⟨0x170000F0, 1, 1, 0x0⟩
def FX_SHADOW_CTRL_shadow_hold : Fld := ⟨0x170000F0, 0, 0, 0x0⟩
def FX_PORT_CTRL_mirror_weight (p : Nat) : Fld := ⟨0x17000100 + 0x20 * p, 7, 4, 0x1⟩
def FX_PORT_CTRL_act_weight (p : Nat) : Fld := ⟨0x17000100 + 0x20 * p, 3, 0, 0x1⟩
def FX_PORT_STATUS_neighbour_id (p : Nat) : Fld := ⟨0x17000104 + 0x20 * p, 31, 23, 0x0⟩
def FX_PORT_STATUS_neighbour_port (p : Nat) : Fld := ⟨0x17000104 + 0x20 * p, 22, 20, 0x0⟩
def FX_PORT_STATUS_retraining (p : Nat) : Fld := ⟨0x17000104 + 0x20 * p, 2, 2, 0x0⟩
def FX_PORT_STATUS_state (p : Nat) : Fld := ⟨0x17000104 + 0x20 * p, 1, 0, 0x0⟩
def FX_PORT_DELAY_delay_ns (p : Nat) : Fld := ⟨0x17000108 + 0x20 * p, 15, 0, 0x0⟩
def FX_PORT_FEC_corrected (p : Nat) : Fld := ⟨0x1700010C + 0x20 * p, 31, 0, 0x0⟩
def FX_PORT_ERR_retries (p : Nat) : Fld := ⟨0x17000110 + 0x20 * p, 31, 16, 0x0⟩
def FX_PORT_ERR_uncorrectable (p : Nat) : Fld := ⟨0x17000110 + 0x20 * p, 15, 8, 0x0⟩
def FX_PORT_ERR_retrains (p : Nat) : Fld := ⟨0x17000110 + 0x20 * p, 7, 0, 0x0⟩
def FX_SEND_LOCAL_enable (w : Nat) : Fld := ⟨0x17000400 + 0x10 * w, 31, 31, 0x0⟩
def FX_SEND_LOCAL_dest (w : Nat) : Fld := ⟨0x17000400 + 0x10 * w, 30, 22, 0x0⟩
def FX_SEND_LOCAL_local_base (w : Nat) : Fld := ⟨0x17000400 + 0x10 * w, 21, 0, 0x0⟩
def FX_SEND_SIZE_size (w : Nat) : Fld := ⟨0x17000404 + 0x10 * w, 21, 0, 0x0⟩
def FX_SEND_REMOTE_remote_base (w : Nat) : Fld := ⟨0x17000408 + 0x10 * w, 21, 0, 0x0⟩
def FX_RECV_SRC_enable (w : Nat) : Fld := ⟨0x17000600 + 0x10 * w, 31, 31, 0x0⟩
def FX_RECV_SRC_source (w : Nat) : Fld := ⟨0x17000600 + 0x10 * w, 30, 22, 0x0⟩
def FX_RECV_SRC_for_device (w : Nat) : Fld := ⟨0x17000600 + 0x10 * w, 21, 13, 0x0⟩
def FX_RECV_BASE_base (w : Nat) : Fld := ⟨0x17000604 + 0x10 * w, 21, 0, 0x0⟩
def FX_RECV_SIZE_size (w : Nat) : Fld := ⟨0x17000608 + 0x10 * w, 21, 0, 0x0⟩
def ETH_STATUS_link_up : Fld := ⟨0x17100000, 2, 0, 0x0⟩
def ETH_SESSIONS_refused : Fld := ⟨0x17100004, 31, 16, 0x0⟩
def ETH_SESSIONS_manager : Fld := ⟨0x17100004, 4, 4, 0x0⟩
def ETH_SESSIONS_open : Fld := ⟨0x17100004, 3, 0, 0x0⟩
def ETH_SHADOW_CTRL_deferred_turns : Fld := ⟨0x171000F0, 15, 8, 0x0⟩
def ETH_SHADOW_CTRL_read_active : Fld := ⟨0x171000F0, 3, 3, 0x0⟩
def ETH_SHADOW_CTRL_commit_deferred : Fld := ⟨0x171000F0, 2, 2, 0x0⟩
def ETH_SHADOW_CTRL_commit_pending : Fld := ⟨0x171000F0, 1, 1, 0x0⟩
def ETH_SHADOW_CTRL_shadow_hold : Fld := ⟨0x171000F0, 0, 0, 0x0⟩
def ETH_PORT_STATUS_macsec_live (p : Nat) : Fld := ⟨0x17100100 + 0x40 * p, 7, 7, 0x0⟩
def ETH_PORT_STATUS_as_capable (p : Nat) : Fld := ⟨0x17100100 + 0x40 * p, 6, 6, 0x0⟩
def ETH_PORT_STATUS_speed (p : Nat) : Fld := ⟨0x17100100 + 0x40 * p, 5, 4, 0x0⟩
def ETH_PORT_STATUS_t1_master (p : Nat) : Fld := ⟨0x17100100 + 0x40 * p, 3, 3, 0x0⟩
def ETH_PORT_CTRL_gate_en (p : Nat) : Fld := ⟨0x17100104 + 0x40 * p, 1, 1, 0x0⟩
def ETH_PORT_CTRL_enable (p : Nat) : Fld := ⟨0x17100104 + 0x40 * p, 0, 0, 0x0⟩
def ETH_PORT_RX_frames (p : Nat) : Fld := ⟨0x17100108 + 0x40 * p, 31, 0, 0x0⟩
def ETH_PORT_DROP_reassembly (p : Nat) : Fld := ⟨0x1710010C + 0x40 * p, 31, 16, 0x0⟩
def ETH_PORT_DROP_filtered (p : Nat) : Fld := ⟨0x1710010C + 0x40 * p, 15, 0, 0x0⟩
def ETH_PORT_TX_frames (p : Nat) : Fld := ⟨0x17100110 + 0x40 * p, 31, 0, 0x0⟩
def ETH_PORT_MACSEC_icv_failures (p : Nat) : Fld := ⟨0x17100114 + 0x40 * p, 31, 16, 0x0⟩
def ETH_PORT_MACSEC_unsecured (p : Nat) : Fld := ⟨0x17100114 + 0x40 * p, 15, 0, 0x0⟩
def ETH_PORT_TXQ_peak_kib (p : Nat) : Fld := ⟨0x17100118 + 0x40 * p, 31, 16, 0x0⟩
def ETH_PORT_TXQ_used_kib (p : Nat) : Fld := ⟨0x17100118 + 0x40 * p, 15, 0, 0x0⟩
def PWR_STATUS_cap_limited : Fld := ⟨0x18000000, 9, 9, 0x0⟩
def PWR_STATUS_group_active : Fld := ⟨0x18000000, 8, 8, 0x0⟩
def PWR_STATUS_sense_fault : Fld := ⟨0x18000000, 7, 4, 0x0⟩
def PWR_STATUS_mismatch : Fld := ⟨0x18000000, 3, 0, 0x0⟩
def PWR_CAP_cap_w : Fld := ⟨0x18000004, 8, 0, 0x0⟩
def PWR_PKG_mw : Fld := ⟨0x18000008, 19, 0, 0x0⟩
def PWR_OTHER_mw : Fld := ⟨0x1800000C, 19, 0, 0x0⟩
def PWR_THERM_CFG_throttle_c : Fld := ⟨0x18000010, 7, 0, 0x0⟩
def PWR_BALLAST_enable : Fld := ⟨0x18000014, 31, 31, 0x0⟩
def PWR_BALLAST_hold_us : Fld := ⟨0x18000014, 7, 0, 0x14⟩
def PWR_GROUP_enable : Fld := ⟨0x18000018, 31, 31, 0x0⟩
def PWR_GROUP_budget_index : Fld := ⟨0x18000018, 27, 16, 0x0⟩
def PWR_GROUP_group_w : Fld := ⟨0x18000018, 15, 0, 0x0⟩
def PWR_GROUP_BASE_floor_w : Fld := ⟨0x1800001C, 24, 16, 0x0⟩
def PWR_GROUP_BASE_base_w : Fld := ⟨0x1800001C, 8, 0, 0x0⟩
def PWR_GROUP_ALLOC_reports_missing : Fld := ⟨0x18000020, 31, 24, 0x0⟩
def PWR_GROUP_ALLOC_alloc_w : Fld := ⟨0x18000020, 8, 0, 0x0⟩
def PWR_REPORT_LO_report_lo : Fld := ⟨0x18000024, 31, 0, 0x0⟩
def PWR_REPORT_HI_report_hi : Fld := ⟨0x18000028, 15, 0, 0x0⟩
def PWR_SHADOW_CTRL_deferred_turns : Fld := ⟨0x180000F0, 15, 8, 0x0⟩
def PWR_SHADOW_CTRL_read_active : Fld := ⟨0x180000F0, 3, 3, 0x0⟩
def PWR_SHADOW_CTRL_commit_deferred : Fld := ⟨0x180000F0, 2, 2, 0x0⟩
def PWR_SHADOW_CTRL_commit_pending : Fld := ⟨0x180000F0, 1, 1, 0x0⟩
def PWR_SHADOW_CTRL_shadow_hold : Fld := ⟨0x180000F0, 0, 0, 0x0⟩
def PWR_RAIL_LIMIT_limit_a (q : Nat) : Fld := ⟨0x18000100 + 0x20 * q, 6, 0, 0x0⟩
def PWR_RAIL_POINT_max_step (q : Nat) : Fld := ⟨0x18000104 + 0x20 * q, 28, 24, 0x10⟩
def PWR_RAIL_POINT_step (q : Nat) : Fld := ⟨0x18000104 + 0x20 * q, 20, 16, 0x0⟩
def PWR_RAIL_MEAS_mv (q : Nat) : Fld := ⟨0x18000108 + 0x20 * q, 31, 16, 0x0⟩
def PWR_RAIL_MEAS_current (q : Nat) : Fld := ⟨0x18000108 + 0x20 * q, 15, 0, 0x0⟩
def PWR_RAIL_EST_peak (q : Nat) : Fld := ⟨0x1800010C + 0x20 * q, 31, 16, 0x0⟩
def PWR_RAIL_EST_current (q : Nat) : Fld := ⟨0x1800010C + 0x20 * q, 15, 0, 0x0⟩
def PWR_RAIL_GAIN_gain (q : Nat) : Fld := ⟨0x18000110 + 0x20 * q, 15, 0, 0x1000⟩
def PWR_RAIL_LIMITER_throttled (q : Nat) : Fld := ⟨0x18000114 + 0x20 * q, 31, 16, 0x0⟩
def PWR_RAIL_LIMITER_ballast (q : Nat) : Fld := ⟨0x18000114 + 0x20 * q, 12, 8, 0x0⟩
def PWR_RAIL_LIMITER_duty (q : Nat) : Fld := ⟨0x18000114 + 0x20 * q, 4, 0, 0x10⟩
def PWR_RAIL_TEMP_peak_c (q : Nat) : Fld := ⟨0x18000118 + 0x20 * q, 15, 8, 0x0⟩
def PWR_RAIL_TEMP_temp_c (q : Nat) : Fld := ⟨0x18000118 + 0x20 * q, 7, 0, 0x0⟩
def PWR_RAIL_STATUS_lost (q : Nat) : Fld := ⟨0x1800011C + 0x20 * q, 4, 4, 0x0⟩
def PWR_RAIL_STATUS_trip (q : Nat) : Fld := ⟨0x1800011C + 0x20 * q, 3, 3, 0x0⟩
def PWR_RAIL_STATUS_gap_throttle (q : Nat) : Fld := ⟨0x1800011C + 0x20 * q, 2, 2, 0x0⟩
def PWR_RAIL_STATUS_thermal_throttle (q : Nat) : Fld := ⟨0x1800011C + 0x20 * q, 1, 1, 0x0⟩
def PWR_RAIL_STATUS_limiter_active (q : Nat) : Fld := ⟨0x1800011C + 0x20 * q, 0, 0, 0x0⟩
def HS_STATUS_lifecycle : Fld := ⟨0x19000000, 31, 30, 0x0⟩
def HS_STATUS_debug_open : Fld := ⟨0x19000000, 29, 29, 0x0⟩
def HS_STATUS_pert_open : Fld := ⟨0x19000000, 28, 28, 0x0⟩
def HS_STATUS_recovery_reason : Fld := ⟨0x19000000, 27, 24, 0x0⟩
def HS_STATUS_start_kind : Fld := ⟨0x19000000, 23, 22, 0x0⟩
def HS_STATUS_seq_tie : Fld := ⟨0x19000000, 21, 21, 0x0⟩
def HS_STATUS_boot_slot : Fld := ⟨0x19000000, 20, 20, 0x0⟩
def HS_STATUS_warm_fail : Fld := ⟨0x19000000, 19, 16, 0x0⟩
def HS_STATUS_start_ms : Fld := ⟨0x19000000, 15, 0, 0x0⟩
def HS_LOCK_seed_lock : Fld := ⟨0x19000004, 5, 5, 0x0⟩
def HS_LOCK_flash_lock : Fld := ⟨0x19000004, 4, 4, 0x0⟩
def HS_LOCK_lifecycle_lock : Fld := ⟨0x19000004, 3, 3, 0x0⟩
def HS_LOCK_pert_lock : Fld := ⟨0x19000004, 2, 2, 0x0⟩
def HS_LOCK_key_lock : Fld := ⟨0x19000004, 1, 1, 0x0⟩
def HS_LOCK_debug_lock : Fld := ⟨0x19000004, 0, 0, 0x0⟩
def HS_KEY_STATUS_owner_revoked : Fld := ⟨0x19000008, 15, 12, 0x0⟩
def HS_KEY_STATUS_owner_present : Fld := ⟨0x19000008, 11, 8, 0x0⟩
def HS_KEY_STATUS_vendor_revoked : Fld := ⟨0x19000008, 7, 4, 0x0⟩
def HS_KEY_STATUS_vendor_present : Fld := ⟨0x19000008, 3, 0, 0x0⟩
def HS_SLOTA_SEQ_LO_seq : Fld := ⟨0x19000010, 31, 0, 0x0⟩
def HS_SLOTA_SEQ_HI_seq : Fld := ⟨0x19000014, 31, 0, 0x0⟩
def HS_SLOTB_SEQ_LO_seq : Fld := ⟨0x19000018, 31, 0, 0x0⟩
def HS_SLOTB_SEQ_HI_seq : Fld := ⟨0x1900001C, 31, 0, 0x0⟩
def HS_SLOT_STATUS_b_reason : Fld := ⟨0x19000020, 7, 4, 0x0⟩
def HS_SLOT_STATUS_a_reason : Fld := ⟨0x19000020, 3, 0, 0x0⟩
def HS_FACEPLATE_copy1_reason : Fld := ⟨0x19000024, 11, 8, 0x0⟩
def HS_FACEPLATE_copy0_reason : Fld := ⟨0x19000024, 7, 4, 0x0⟩
def HS_FACEPLATE_tie : Fld := ⟨0x19000024, 1, 1, 0x0⟩
def HS_FACEPLATE_copy_used : Fld := ⟨0x19000024, 0, 0, 0x0⟩
def HS_FP_SEQ_seq : Fld := ⟨0x19000028, 31, 0, 0x0⟩
def HS_NONCE_LO_nonce : Fld := ⟨0x19000030, 31, 0, 0x0⟩
def HS_NONCE_HI_nonce : Fld := ⟨0x19000034, 31, 0, 0x0⟩
def HS_MEAS_SEL_reg : Fld := ⟨0x19000040, 2, 0, 0x0⟩
def HS_MEAS_word (w : Nat) : Fld := ⟨0x19000080 + 0x4 * w, 31, 0, 0x0⟩
def HS_EXT_word (w : Nat) : Fld := ⟨0x19000100 + 0x4 * w, 31, 0, 0x0⟩
def HS_EXT_CTRL_extend : Fld := ⟨0x19000140, 0, 0, 0x0⟩
def HS_ID_word (w : Nat) : Fld := ⟨0x19000180 + 0x4 * w, 31, 0, 0x0⟩
def MBX_STATUS_open : Fld := ⟨0x1A000000, 3, 0, 0x0⟩
def MBX_A_RING_LO_ring_lo (m : Nat) : Fld := ⟨0x1A000100 + 0x40 * m, 31, 0, 0x0⟩
def MBX_A_RING_HI_ring_hi (m : Nat) : Fld := ⟨0x1A000104 + 0x40 * m, 15, 0, 0x0⟩
def MBX_A_CFG_enable (m : Nat) : Fld := ⟨0x1A000108 + 0x40 * m, 31, 31, 0x0⟩
def MBX_A_CFG_size_kib (m : Nat) : Fld := ⟨0x1A000108 + 0x40 * m, 15, 0, 0x0⟩
def MBX_A_REQ_WR_offset (m : Nat) : Fld := ⟨0x1A00010C + 0x40 * m, 31, 0, 0x0⟩
def MBX_A_REQ_RD_offset (m : Nat) : Fld := ⟨0x1A000110 + 0x40 * m, 31, 0, 0x0⟩
def MBX_A_RSP_WR_offset (m : Nat) : Fld := ⟨0x1A000114 + 0x40 * m, 31, 0, 0x0⟩
def MBX_A_RSP_RD_offset (m : Nat) : Fld := ⟨0x1A000118 + 0x40 * m, 31, 0, 0x0⟩
def PERT_STATUS_open : Fld := ⟨0x1B000000, 31, 31, 0x0⟩
def PERT_STATUS_open_by : Fld := ⟨0x1B000000, 30, 29, 0x0⟩
def PERT_STATUS_kinds : Fld := ⟨0x1B000000, 23, 16, 0x0⟩
def PERT_STATUS_owner_slot : Fld := ⟨0x1B000000, 1, 0, 0x0⟩
def PERT_CTRL_close : Fld := ⟨0x1B000004, 0, 0, 0x0⟩
def PERT_NONCE_LO_nonce : Fld := ⟨0x1B000008, 31, 0, 0x0⟩
def PERT_NONCE_HI_nonce : Fld := ⟨0x1B00000C, 31, 0, 0x0⟩
def PERT_JOBS_LEFT_jobs : Fld := ⟨0x1B000010, 15, 0, 0x0⟩
def PERT_FIRED_injections : Fld := ⟨0x1B000014, 31, 0, 0x0⟩
def PERT_SLOT_CFG_enable (i : Nat) : Fld := ⟨0x1B000100 + 0x20 * i, 31, 31, 0x0⟩
def PERT_SLOT_CFG_relative (i : Nat) : Fld := ⟨0x1B000100 + 0x20 * i, 30, 30, 0x0⟩
def PERT_SLOT_CFG_every_turn (i : Nat) : Fld := ⟨0x1B000100 + 0x20 * i, 29, 29, 0x0⟩
def PERT_SLOT_CFG_duration (i : Nat) : Fld := ⟨0x1B000100 + 0x20 * i, 27, 16, 0x0⟩
def PERT_SLOT_CFG_kind (i : Nat) : Fld := ⟨0x1B000100 + 0x20 * i, 3, 0, 0x0⟩
def PERT_SLOT_TURN_turn (i : Nat) : Fld := ⟨0x1B000104 + 0x20 * i, 31, 0, 0x0⟩
def PERT_SLOT_WHEN_index (i : Nat) : Fld := ⟨0x1B000108 + 0x20 * i, 15, 0, 0x0⟩
def PERT_SLOT_TARGET_target (i : Nat) : Fld := ⟨0x1B00010C + 0x20 * i, 31, 0, 0x0⟩
def PERT_SLOT_PARAM_param (i : Nat) : Fld := ⟨0x1B000110 + 0x20 * i, 31, 0, 0x0⟩
def PERT_SLOT_STATUS_fired (i : Nat) : Fld := ⟨0x1B000114 + 0x20 * i, 31, 16, 0x0⟩
def PERT_SLOT_STATUS_state (i : Nat) : Fld := ⟨0x1B000114 + 0x20 * i, 1, 0, 0x0⟩
def MBX_MAINT_ID_ident : Fld := ⟨0x1000000000000, 31, 0, 0xA7103280⟩
def MBX_MAINT_STATUS_state : Fld := ⟨0x1000000000004, 31, 28, 0x0⟩
def MBX_MAINT_STATUS_lifecycle : Fld := ⟨0x1000000000004, 27, 26, 0x0⟩
def MBX_MAINT_STATUS_debug_open : Fld := ⟨0x1000000000004, 25, 25, 0x0⟩
def MBX_MAINT_STATUS_rsp_ready : Fld := ⟨0x1000000000004, 24, 24, 0x0⟩
def MBX_MAINT_STATUS_busy : Fld := ⟨0x1000000000004, 23, 23, 0x0⟩
def MBX_MAINT_ADDR_LO_addr : Fld := ⟨0x1000000000008, 31, 2, 0x0⟩
def MBX_MAINT_ADDR_HI_physical : Fld := ⟨0x100000000000C, 31, 31, 0x0⟩
def MBX_MAINT_ADDR_HI_addr_hi : Fld := ⟨0x100000000000C, 15, 0, 0x0⟩
def MBX_MAINT_DATA_data : Fld := ⟨0x1000000000010, 31, 0, 0x0⟩
def MBX_MAINT_DOORBELL_length : Fld := ⟨0x1000000000014, 31, 0, 0x0⟩
def MBX_MAINT_RSP_LEN_length : Fld := ⟨0x1000000000018, 31, 0, 0x0⟩
def MBX_MAINT_ERR_crc_errors : Fld := ⟨0x100000000001C, 31, 16, 0x0⟩
def MBX_MAINT_ERR_refused : Fld := ⟨0x100000000001C, 15, 0, 0x0⟩

end Reg

/-- Registers of the SP block, part 0. -/
def spTable0 : List RegDef := [
  ⟨0x10000000, [], [⟨7, 7, .rw, .now, 0x0⟩, ⟨6, 6, .rw, .now, 0x0⟩, ⟨5, 5, .ro, .cold, 0x0⟩, ⟨0, 0, .wo, .now, 0x0⟩]⟩,
  ⟨0x10000004, [], [⟨31, 24, .ro, .fixed, 0x0⟩, ⟨17, 16, .ro, .fixed, 0x0⟩, ⟨9, 8, .ro, .fixed, 0x0⟩, ⟨6, 4, .ro, .fixed, 0x0⟩, ⟨2, 0, .ro, .fixed, 0x0⟩]⟩,
  ⟨0x10000008, [], [⟨19, 0, .rw, .turn, 0x8235⟩]⟩,
  ⟨0x1000000C, [], [⟨29, 0, .rw, .turn, 0x0⟩]⟩,
  ⟨0x10000010, [], [⟨31, 0, .rw, .now, 0x0⟩]⟩,
  ⟨0x10000014, [], [⟨9, 0, .rw, .now, 0x64⟩]⟩,
  ⟨0x10000018, [], [⟨31, 0, .ro, .fixed, 0x0⟩]⟩,
  ⟨0x1000001C, [], [⟨31, 16, .ro, .fixed, 0x0⟩, ⟨15, 0, .ro, .fixed, 0x0⟩]⟩,
  ⟨0x10000020, [], [⟨31, 0, .ro, .fixed, 0x0⟩]⟩,
  ⟨0x10000024, [], [⟨31, 0, .ro, .fixed, 0x0⟩]⟩,
  ⟨0x10000028, [], [⟨31, 0, .ro, .fixed, 0x0⟩]⟩,
  ⟨0x1000002C, [], [⟨31, 0, .ro, .fixed, 0x0⟩]⟩,
  ⟨0x10000030, [], [⟨31, 0, .ro, .fixed, 0x0⟩]⟩,
  ⟨0x10000034, [], [⟨31, 0, .rw, .now, 0x0⟩]⟩,
  ⟨0x10000038, [], [⟨31, 31, .rw, .now, 0x0⟩, ⟨15, 0, .rw, .now, 0x1000⟩]⟩,
  ⟨0x1000003C, [], [⟨20, 20, .rws, .commit, 0x0⟩, ⟨19, 0, .rws, .commit, 0x186A0⟩]⟩,
  ⟨0x10000040, [], [⟨31, 0, .rw, .now, 0x0⟩]⟩,
  ⟨0x10000044, [], [⟨31, 0, .rw, .now, 0x0⟩]⟩,
  ⟨0x10000048, [], [⟨31, 16, .rc, .fixed, 0x0⟩, ⟨15, 0, .rc, .fixed, 0x0⟩]⟩,
  ⟨0x1000004C, [], [⟨31, 16, .rc, .fixed, 0x0⟩, ⟨15, 0, .rc, .fixed, 0x0⟩]⟩,
  ⟨0x10000050, [], [⟨31, 16, .ro, .fixed, 0x0⟩, ⟨15, 0, .ro, .fixed, 0x0⟩]⟩,
  ⟨0x10000054, [], [⟨25, 25, .ro, .fixed, 0x0⟩, ⟨24, 16, .ro, .fixed, 0x0⟩, ⟨15, 0, .ro, .fixed, 0x0⟩]⟩,
  ⟨0x100000E0, [], [⟨31, 31, .wo, .now, 0x0⟩, ⟨10, 0, .wo, .now, 0x0⟩]⟩,
  ⟨0x100000E4, [], [⟨31, 0, .rw, .now, 0x0⟩]⟩,
  ⟨0x100000F0, [], [⟨15, 8, .ro, .fixed, 0x0⟩, ⟨3, 3, .rw, .now, 0x0⟩, ⟨2, 2, .w1c, .now, 0x0⟩, ⟨1, 1, .ro, .fixed, 0x0⟩, ⟨0, 0, .rw, .now, 0x0⟩]⟩]

/-- Registers of the SP block, part 1. -/
def spTable1 : List RegDef := [
  ⟨0x10000100, [(8, 0x8)], [⟨31, 20, .rws, .commit, 0xA⟩, ⟨19, 8, .rws, .commit, 0x0⟩, ⟨7, 4, .rws, .commit, 0x0⟩, ⟨3, 2, .rws, .commit, 0x0⟩, ⟨1, 1, .rws, .commit, 0x0⟩, ⟨0, 0, .rws, .commit, 0x0⟩]⟩,
  ⟨0x10000104, [(8, 0x8)], [⟨17, 0, .rws, .commit, 0x0⟩]⟩,
  ⟨0x10000200, [(32, 0x8)], [⟨16, 16, .rws, .commit, 0x0⟩, ⟨15, 0, .rws, .commit, 0x0⟩]⟩,
  ⟨0x10000204, [(32, 0x8)], [⟨20, 20, .ro, .fixed, 0x0⟩, ⟨19, 19, .ro, .fixed, 0x0⟩, ⟨18, 18, .ro, .fixed, 0x0⟩, ⟨17, 16, .ro, .fixed, 0x0⟩, ⟨15, 0, .ro, .fixed, 0x0⟩]⟩]

/-- Registers of the SP block. -/
def spTable : List RegDef := spTable0 ++ spTable1

/-- Registers of the NE block, part 0. -/
def neTable0 : List RegDef := [
  ⟨0x10100000, [], [⟨31, 24, .ro, .fixed, 0xA7⟩, ⟨23, 20, .ro, .fixed, 0x1⟩, ⟨19, 16, .ro, .fixed, 0x0⟩, ⟨15, 0, .ro, .fixed, 0x3280⟩]⟩,
  ⟨0x10100004, [], [⟨31, 24, .ro, .fixed, 0x20⟩, ⟨23, 20, .ro, .fixed, 0x4⟩, ⟨19, 16, .ro, .fixed, 0x4⟩, ⟨15, 8, .ro, .fixed, 0x4⟩, ⟨7, 0, .ro, .fixed, 0x10⟩]⟩,
  ⟨0x10100008, [], [⟨31, 24, .ro, .fixed, 0xC⟩, ⟨23, 16, .ro, .fixed, 0x10⟩, ⟨15, 12, .ro, .fixed, 0x8⟩, ⟨11, 8, .ro, .fixed, 0x8⟩, ⟨7, 4, .ro, .fixed, 0x4⟩]⟩,
  ⟨0x1010000C, [], [⟨31, 24, .ro, .fixed, 0x20⟩, ⟨23, 16, .ro, .fixed, 0x20⟩, ⟨15, 12, .ro, .fixed, 0x4⟩, ⟨11, 4, .ro, .fixed, 0x1F⟩]⟩,
  ⟨0x10100010, [], [⟨8, 8, .ro, .fixed, 0x0⟩, ⟨7, 4, .ro, .fixed, 0xF⟩, ⟨3, 0, .ro, .fixed, 0x0⟩]⟩,
  ⟨0x10100020, [(4, 0x4)], [⟨31, 16, .ro, .fixed, 0x0⟩, ⟨15, 0, .ro, .fixed, 0x0⟩]⟩,
  ⟨0x10100040, [], [⟨11, 8, .rws, .commit, 0x0⟩, ⟨4, 4, .rws, .commit, 0x1⟩, ⟨0, 0, .ro, .cold, 0x0⟩]⟩,
  ⟨0x10100044, [], [⟨31, 31, .w1c, .now, 0x0⟩, ⟨27, 0, .ro, .fixed, 0x0⟩]⟩,
  ⟨0x10100048, [], [⟨31, 0, .rc, .fixed, 0x0⟩]⟩,
  ⟨0x10100080, [(16, 0x4)], [⟨31, 16, .rc, .fixed, 0x0⟩, ⟨15, 0, .rc, .fixed, 0x0⟩]⟩,
  ⟨0x101000F0, [], [⟨15, 8, .ro, .fixed, 0x0⟩, ⟨3, 3, .rw, .now, 0x0⟩, ⟨2, 2, .w1c, .now, 0x0⟩, ⟨1, 1, .ro, .fixed, 0x0⟩, ⟨0, 0, .rw, .now, 0x0⟩]⟩,
  ⟨0x10100100, [], [⟨31, 24, .rws, .turn, 0x0⟩, ⟨15, 0, .rws, .turn, 0x0⟩]⟩,
  ⟨0x10100104, [], [⟨15, 0, .rw, .now, 0x0⟩]⟩,
  ⟨0x10100108, [], [⟨31, 0, .ro, .fixed, 0x0⟩]⟩,
  ⟨0x1010010C, [], [⟨31, 0, .ro, .fixed, 0x0⟩]⟩,
  ⟨0x10100110, [], [⟨31, 0, .ro, .fixed, 0x0⟩]⟩,
  ⟨0x10100114, [], [⟨31, 0, .ro, .fixed, 0x0⟩]⟩,
  ⟨0x10100118, [], [⟨31, 31, .ro, .fixed, 0x0⟩, ⟨30, 30, .ro, .fixed, 0x0⟩, ⟨29, 29, .ro, .fixed, 0x0⟩, ⟨19, 0, .ro, .fixed, 0x0⟩]⟩,
  ⟨0x1010011C, [], [⟨19, 0, .rws, .turn, 0x0⟩]⟩,
  ⟨0x10100140, [], [⟨31, 24, .ro, .fixed, 0x0⟩, ⟨23, 16, .ro, .fixed, 0x0⟩, ⟨4, 4, .ro, .fixed, 0x0⟩, ⟨3, 3, .ro, .fixed, 0x0⟩, ⟨2, 2, .ro, .fixed, 0x0⟩, ⟨1, 0, .ro, .fixed, 0x0⟩]⟩,
  ⟨0x10100144, [], [⟨31, 0, .ro, .fixed, 0x0⟩]⟩,
  ⟨0x10100148, [], [⟨31, 0, .ro, .fixed, 0x0⟩]⟩,
  ⟨0x1010014C, [], [⟨31, 16, .ro, .fixed, 0xFFFF⟩, ⟨7, 0, .ro, .fixed, 0x0⟩]⟩,
  ⟨0x10100150, [], [⟨8, 0, .rw, .now, 0x0⟩]⟩,
  ⟨0x10100154, [], [⟨23, 16, .ro, .fixed, 0x0⟩, ⟨15, 0, .ro, .fixed, 0x0⟩]⟩]

/-- Registers of the NE block, part 1. -/
def neTable1 : List RegDef := [
  ⟨0x10100158, [], [⟨31, 0, .rc, .fixed, 0x0⟩]⟩,
  ⟨0x1010015C, [], [⟨31, 16, .ro, .fixed, 0x0⟩, ⟨15, 0, .ro, .fixed, 0x0⟩]⟩]

/-- Registers of the NE block. -/
def neTable : List RegDef := neTable0 ++ neTable1

/-- Registers of the CORE block, part 0. -/
def coreTable0 : List RegDef := [
  ⟨0x11000000, [(32, 0x100000)], [⟨23, 20, .ro, .fixed, 0x0⟩, ⟨19, 16, .ro, .fixed, 0x0⟩, ⟨9, 8, .ro, .fixed, 0x0⟩, ⟨7, 0, .ro, .fixed, 0x0⟩]⟩,
  ⟨0x11000004, [(32, 0x100000)], [⟨9, 9, .ro, .fixed, 0x0⟩, ⟨8, 8, .ro, .fixed, 0x1⟩, ⟨4, 4, .ro, .fixed, 0x0⟩, ⟨3, 0, .ro, .fixed, 0x0⟩]⟩,
  ⟨0x11000010, [(32, 0x100000), (4, 0x4)], [⟨29, 24, .ro, .fixed, 0x0⟩, ⟨21, 16, .ro, .fixed, 0x0⟩, ⟨13, 8, .ro, .fixed, 0x0⟩, ⟨5, 0, .ro, .fixed, 0x0⟩]⟩,
  ⟨0x11000020, [(32, 0x100000), (4, 0x4)], [⟨31, 0, .rc, .fixed, 0x0⟩]⟩,
  ⟨0x11000030, [(32, 0x100000), (4, 0x4)], [⟨31, 0, .rc, .fixed, 0x0⟩]⟩,
  ⟨0x11000040, [(32, 0x100000)], [⟨31, 0, .rc, .fixed, 0x0⟩]⟩,
  ⟨0x11000044, [(32, 0x100000)], [⟨31, 16, .rc, .fixed, 0x0⟩, ⟨15, 0, .rc, .fixed, 0x0⟩]⟩,
  ⟨0x11000048, [(32, 0x100000)], [⟨31, 31, .w1c, .now, 0x0⟩, ⟨21, 0, .ro, .fixed, 0x0⟩]⟩,
  ⟨0x11000050, [(32, 0x100000)], [⟨7, 0, .rws, .commit, 0x10⟩]⟩,
  ⟨0x11000060, [(32, 0x100000)], [⟨31, 16, .rc, .fixed, 0x0⟩, ⟨15, 0, .rc, .fixed, 0x0⟩]⟩,
  ⟨0x11000064, [(32, 0x100000)], [⟨8, 8, .ro, .fixed, 0x0⟩, ⟨3, 0, .ro, .fixed, 0x0⟩]⟩,
  ⟨0x11000070, [(32, 0x100000), (4, 0x4)], [⟨31, 16, .rc, .fixed, 0x0⟩, ⟨2, 0, .ro, .fixed, 0x0⟩]⟩,
  ⟨0x11000080, [(32, 0x100000)], [⟨31, 31, .w1c, .now, 0x0⟩, ⟨27, 26, .ro, .fixed, 0x0⟩, ⟨25, 21, .ro, .fixed, 0x0⟩, ⟨20, 16, .ro, .fixed, 0x0⟩, ⟨15, 0, .ro, .fixed, 0x0⟩]⟩,
  ⟨0x110000F0, [(32, 0x100000)], [⟨15, 8, .ro, .fixed, 0x0⟩, ⟨3, 3, .rw, .now, 0x0⟩, ⟨2, 2, .w1c, .now, 0x0⟩, ⟨1, 1, .ro, .fixed, 0x0⟩, ⟨0, 0, .rw, .now, 0x0⟩]⟩,
  ⟨0x11001000, [(32, 0x100000), (2, 0x100)], [⟨19, 16, .ro, .fixed, 0x0⟩, ⟨4, 4, .w1c, .now, 0x0⟩, ⟨3, 3, .w1c, .now, 0x0⟩, ⟨2, 2, .w1c, .now, 0x0⟩, ⟨1, 1, .ro, .fixed, 0x0⟩, ⟨0, 0, .ro, .fixed, 0x0⟩]⟩,
  ⟨0x11001004, [(32, 0x100000), (2, 0x100)], [⟨31, 16, .ro, .fixed, 0xFFFF⟩, ⟨15, 0, .ro, .fixed, 0x0⟩]⟩,
  ⟨0x11001008, [(32, 0x100000), (2, 0x100)], [⟨31, 16, .ro, .fixed, 0xFFFF⟩, ⟨15, 0, .ro, .fixed, 0x0⟩]⟩,
  ⟨0x1100100C, [(32, 0x100000), (2, 0x100)], [⟨31, 0, .rc, .fixed, 0x0⟩]⟩,
  ⟨0x11001010, [(32, 0x100000), (2, 0x100)], [⟨31, 16, .ro, .fixed, 0x0⟩, ⟨15, 0, .ro, .fixed, 0x0⟩]⟩,
  ⟨0x11001014, [(32, 0x100000), (2, 0x100)], [⟨31, 0, .ro, .fixed, 0x0⟩]⟩,
  ⟨0x11001018, [(32, 0x100000), (2, 0x100)], [⟨31, 31, .w1c, .now, 0x0⟩, ⟨19, 16, .ro, .fixed, 0x0⟩, ⟨15, 0, .ro, .fixed, 0x0⟩]⟩,
  ⟨0x1100101C, [(32, 0x100000), (2, 0x100)], [⟨31, 16, .rc, .fixed, 0x0⟩, ⟨15, 0, .rc, .fixed, 0x0⟩]⟩,
  ⟨0x11001020, [(32, 0x100000), (2, 0x100)], [⟨7, 4, .rws, .commit, 0x1⟩]⟩,
  ⟨0x11001024, [(32, 0x100000), (2, 0x100)], [⟨31, 0, .rc, .fixed, 0x0⟩]⟩,
  ⟨0x11001040, [(32, 0x100000), (2, 0x100), (16, 0x4)], [⟨31, 0, .ro, .fixed, 0x0⟩]⟩]

/-- Registers of the CORE block, part 1. -/
def coreTable1 : List RegDef := [
  ⟨0x11001080, [(32, 0x100000), (2, 0x100), (16, 0x4)], [⟨31, 0, .ro, .fixed, 0x0⟩]⟩]

/-- Registers of the CORE block. -/
def coreTable : List RegDef := coreTable0 ++ coreTable1

/-- Registers of the DMA block. -/
def dmaTable : List RegDef := [
  ⟨0x14000000, [], [⟨15, 0, .ro, .fixed, 0x0⟩]⟩,
  ⟨0x14000004, [], [⟨19, 0, .rws, .commit, 0x10000⟩]⟩,
  ⟨0x14000008, [], [⟨31, 0, .rc, .fixed, 0x0⟩]⟩,
  ⟨0x140000F0, [], [⟨15, 8, .ro, .fixed, 0x0⟩, ⟨3, 3, .rw, .now, 0x0⟩, ⟨2, 2, .w1c, .now, 0x0⟩, ⟨1, 1, .ro, .fixed, 0x0⟩, ⟨0, 0, .rw, .now, 0x0⟩]⟩,
  ⟨0x14001000, [(16, 0x100)], [⟨19, 16, .ro, .fixed, 0x0⟩, ⟨4, 4, .w1c, .now, 0x0⟩, ⟨3, 3, .w1c, .now, 0x0⟩, ⟨2, 2, .w1c, .now, 0x0⟩, ⟨1, 1, .ro, .fixed, 0x0⟩, ⟨0, 0, .ro, .fixed, 0x0⟩]⟩,
  ⟨0x14001004, [(16, 0x100)], [⟨31, 16, .ro, .fixed, 0xFFFF⟩, ⟨15, 0, .ro, .fixed, 0x0⟩]⟩,
  ⟨0x14001008, [(16, 0x100)], [⟨31, 16, .ro, .fixed, 0xFFFF⟩, ⟨15, 0, .ro, .fixed, 0x0⟩]⟩,
  ⟨0x1400100C, [(16, 0x100)], [⟨31, 0, .rc, .fixed, 0x0⟩]⟩,
  ⟨0x14001010, [(16, 0x100)], [⟨31, 16, .ro, .fixed, 0x0⟩, ⟨15, 0, .ro, .fixed, 0x0⟩]⟩,
  ⟨0x14001014, [(16, 0x100)], [⟨31, 0, .ro, .fixed, 0x0⟩]⟩,
  ⟨0x14001018, [(16, 0x100)], [⟨31, 31, .w1c, .now, 0x0⟩, ⟨19, 16, .ro, .fixed, 0x0⟩, ⟨15, 0, .ro, .fixed, 0x0⟩]⟩,
  ⟨0x1400101C, [(16, 0x100)], [⟨31, 16, .rc, .fixed, 0x0⟩, ⟨15, 0, .rc, .fixed, 0x0⟩]⟩,
  ⟨0x14001020, [(16, 0x100)], [⟨7, 4, .rws, .commit, 0x1⟩]⟩,
  ⟨0x14001024, [(16, 0x100)], [⟨31, 0, .rc, .fixed, 0x0⟩]⟩,
  ⟨0x14001040, [(16, 0x100), (16, 0x4)], [⟨31, 0, .ro, .fixed, 0x0⟩]⟩,
  ⟨0x14001080, [(16, 0x100), (16, 0x4)], [⟨31, 0, .ro, .fixed, 0x0⟩]⟩]

/-- Registers of the MEM block. -/
def memTable : List RegDef := [
  ⟨0x15000000, [], [⟨31, 16, .ro, .fixed, 0x0⟩, ⟨2, 2, .ro, .fixed, 0x0⟩, ⟨1, 1, .ro, .fixed, 0x0⟩, ⟨0, 0, .ro, .fixed, 0x0⟩]⟩,
  ⟨0x15000004, [], [⟨7, 4, .ro, .fixed, 0x0⟩, ⟨3, 0, .ro, .cold, 0x0⟩]⟩,
  ⟨0x15000008, [], [⟨15, 4, .rws, .commit, 0xA⟩, ⟨0, 0, .rws, .commit, 0x1⟩]⟩,
  ⟨0x1500000C, [], [⟨31, 16, .ro, .fixed, 0x0⟩, ⟨15, 0, .ro, .fixed, 0x0⟩]⟩,
  ⟨0x15000010, [], [⟨15, 0, .rws, .commit, 0x100⟩]⟩,
  ⟨0x15000014, [], [⟨31, 0, .ro, .fixed, 0x0⟩]⟩,
  ⟨0x15000018, [], [⟨31, 31, .w1c, .now, 0x0⟩, ⟨30, 28, .ro, .fixed, 0x0⟩, ⟨27, 27, .ro, .fixed, 0x0⟩, ⟨15, 0, .ro, .fixed, 0x0⟩]⟩,
  ⟨0x1500001C, [], [⟨31, 0, .ro, .fixed, 0x0⟩]⟩,
  ⟨0x15000020, [], [⟨31, 31, .w1c, .now, 0x0⟩, ⟨15, 0, .ro, .fixed, 0x0⟩]⟩,
  ⟨0x15000024, [], [⟨8, 8, .ro, .fixed, 0x0⟩, ⟨7, 4, .ro, .fixed, 0x0⟩, ⟨3, 0, .ro, .fixed, 0x0⟩]⟩,
  ⟨0x15000040, [(5, 0x4)], [⟨31, 16, .ro, .cold, 0x0⟩, ⟨15, 0, .ro, .cold, 0x0⟩]⟩,
  ⟨0x150000F0, [], [⟨15, 8, .ro, .fixed, 0x0⟩, ⟨3, 3, .rw, .now, 0x0⟩, ⟨2, 2, .w1c, .now, 0x0⟩, ⟨1, 1, .ro, .fixed, 0x0⟩, ⟨0, 0, .rw, .now, 0x0⟩]⟩,
  ⟨0x15000100, [(16, 0x10)], [⟨15, 8, .ro, .fixed, 0x1⟩, ⟨3, 2, .ro, .fixed, 0x0⟩, ⟨1, 1, .ro, .fixed, 0x0⟩, ⟨0, 0, .ro, .fixed, 0x0⟩]⟩,
  ⟨0x15000104, [(16, 0x10)], [⟨31, 16, .rc, .fixed, 0x0⟩, ⟨15, 0, .rc, .fixed, 0x0⟩]⟩,
  ⟨0x15000108, [(16, 0x10)], [⟨31, 0, .ro, .fixed, 0x0⟩]⟩]

/-- Registers of the CSI block, part 0. -/
def csiTable0 : List RegDef := [
  ⟨0x16000000, [], [⟨13, 8, .ro, .fixed, 0x0⟩, ⟨7, 0, .ro, .fixed, 0x0⟩]⟩,
  ⟨0x160000F0, [], [⟨15, 8, .ro, .fixed, 0x0⟩, ⟨3, 3, .rw, .now, 0x0⟩, ⟨2, 2, .w1c, .now, 0x0⟩, ⟨1, 1, .ro, .fixed, 0x0⟩, ⟨0, 0, .rw, .now, 0x0⟩]⟩,
  ⟨0x16001000, [(8, 0x200)], [⟨31, 31, .rws, .commit, 0x0⟩, ⟨30, 30, .rws, .commit, 0x0⟩, ⟨29, 28, .rws, .commit, 0x0⟩, ⟨27, 27, .rws, .commit, 0x0⟩, ⟨26, 26, .rws, .commit, 0x0⟩, ⟨25, 13, .rws, .commit, 0x0⟩]⟩,
  ⟨0x16001004, [(8, 0x200)], [⟨15, 0, .rws, .commit, 0x3210⟩]⟩,
  ⟨0x16001008, [(8, 0x200)], [⟨7, 4, .ro, .fixed, 0x0⟩, ⟨3, 3, .ro, .fixed, 0x0⟩, ⟨1, 0, .ro, .fixed, 0x0⟩]⟩,
  ⟨0x1600100C, [(8, 0x200)], [⟨31, 16, .rc, .fixed, 0x0⟩, ⟨15, 0, .rc, .fixed, 0x0⟩]⟩,
  ⟨0x16001010, [(8, 0x200)], [⟨31, 16, .rc, .fixed, 0x0⟩, ⟨15, 0, .rc, .fixed, 0x0⟩]⟩,
  ⟨0x16001100, [(8, 0x200), (32, 0x4)], [⟨31, 16, .rc, .fixed, 0x0⟩, ⟨15, 8, .rc, .fixed, 0x0⟩, ⟨7, 0, .rc, .fixed, 0x0⟩]⟩,
  ⟨0x16002000, [(32, 0x40)], [⟨31, 31, .rws, .commit, 0x0⟩, ⟨30, 28, .rws, .commit, 0x0⟩, ⟨27, 23, .rws, .commit, 0x0⟩, ⟨22, 22, .rws, .commit, 0x0⟩, ⟨21, 16, .rws, .commit, 0x0⟩, ⟨15, 12, .rws, .commit, 0x0⟩, ⟨11, 9, .rws, .commit, 0x0⟩, ⟨8, 8, .rws, .commit, 0x0⟩, ⟨7, 4, .rws, .commit, 0x0⟩]⟩,
  ⟨0x16002004, [(32, 0x40)], [⟨31, 16, .rws, .commit, 0x0⟩, ⟨15, 0, .rws, .commit, 0x0⟩]⟩,
  ⟨0x16002008, [(32, 0x40)], [⟨23, 0, .rws, .commit, 0x0⟩]⟩,
  ⟨0x1600200C, [(32, 0x40)], [⟨31, 16, .rws, .commit, 0x0⟩, ⟨15, 0, .rws, .commit, 0x0⟩]⟩,
  ⟨0x16002010, [(32, 0x40)], [⟨30, 28, .rws, .commit, 0x0⟩, ⟨27, 26, .rws, .commit, 0x0⟩, ⟨25, 24, .rws, .commit, 0x0⟩, ⟨23, 12, .rws, .commit, 0x0⟩, ⟨11, 11, .rws, .commit, 0x0⟩, ⟨10, 10, .rws, .commit, 0x0⟩]⟩,
  ⟨0x16002014, [(32, 0x40)], [⟨31, 0, .rws, .commit, 0x0⟩]⟩,
  ⟨0x16002018, [(32, 0x40)], [⟨15, 0, .rws, .commit, 0x0⟩]⟩,
  ⟨0x1600201C, [(32, 0x40)], [⟨31, 18, .rws, .commit, 0x0⟩, ⟨17, 16, .rws, .commit, 0x0⟩, ⟨13, 0, .rws, .commit, 0x0⟩]⟩,
  ⟨0x16002020, [(32, 0x40)], [⟨31, 0, .rws, .commit, 0x0⟩]⟩,
  ⟨0x16002024, [(32, 0x40)], [⟨15, 0, .rws, .commit, 0x0⟩]⟩,
  ⟨0x16002028, [(32, 0x40)], [⟨31, 16, .ro, .fixed, 0x0⟩, ⟨15, 3, .ro, .fixed, 0x0⟩, ⟨2, 1, .ro, .fixed, 0x0⟩, ⟨0, 0, .ro, .fixed, 0x0⟩]⟩,
  ⟨0x1600202C, [(32, 0x40)], [⟨31, 16, .rc, .fixed, 0x0⟩, ⟨15, 0, .rc, .fixed, 0x0⟩]⟩,
  ⟨0x16002030, [(32, 0x40)], [⟨31, 24, .rc, .fixed, 0x0⟩, ⟨23, 16, .rc, .fixed, 0x0⟩, ⟨15, 0, .rc, .fixed, 0x0⟩]⟩,
  ⟨0x16002034, [(32, 0x40)], [⟨31, 16, .ro, .fixed, 0x0⟩, ⟨15, 0, .ro, .fixed, 0x0⟩]⟩,
  ⟨0x16002038, [(32, 0x40)], [⟨31, 0, .ro, .fixed, 0x0⟩]⟩,
  ⟨0x1600203C, [(32, 0x40)], [⟨31, 0, .ro, .fixed, 0x0⟩]⟩,
  ⟨0x16003000, [(8, 0x40)], [⟨31, 31, .rws, .commit, 0x0⟩, ⟨30, 30, .rws, .commit, 0x0⟩, ⟨29, 28, .rws, .commit, 0x0⟩, ⟨27, 24, .rws, .commit, 0x0⟩, ⟨23, 16, .rws, .commit, 0x0⟩]⟩]

/-- Registers of the CSI block, part 1. -/
def csiTable1 : List RegDef := [
  ⟨0x16003004, [(8, 0x40)], [⟨31, 0, .rws, .commit, 0x0⟩]⟩,
  ⟨0x16003008, [(8, 0x40)], [⟨15, 0, .rws, .commit, 0x0⟩]⟩,
  ⟨0x1600300C, [(8, 0x40)], [⟨15, 8, .ro, .fixed, 0x0⟩, ⟨7, 7, .ro, .fixed, 0x0⟩, ⟨4, 0, .ro, .fixed, 0x0⟩]⟩,
  ⟨0x16003010, [(8, 0x40)], [⟨31, 24, .rc, .fixed, 0x0⟩, ⟨23, 16, .rc, .fixed, 0x0⟩, ⟨15, 8, .rc, .fixed, 0x0⟩, ⟨7, 0, .rc, .fixed, 0x0⟩]⟩,
  ⟨0x16003014, [(8, 0x40)], [⟨31, 31, .w1c, .now, 0x0⟩, ⟨30, 23, .ro, .fixed, 0x0⟩, ⟨22, 16, .ro, .fixed, 0x0⟩, ⟨15, 8, .ro, .fixed, 0x0⟩]⟩]

/-- Registers of the CSI block. -/
def csiTable : List RegDef := csiTable0 ++ csiTable1

/-- Registers of the ISP block, part 0. -/
def ispTable0 : List RegDef := [
  ⟨0x16100000, [], [⟨3, 0, .ro, .fixed, 0x0⟩]⟩,
  ⟨0x161000F0, [], [⟨15, 8, .ro, .fixed, 0x0⟩, ⟨3, 3, .rw, .now, 0x0⟩, ⟨2, 2, .w1c, .now, 0x0⟩, ⟨1, 1, .ro, .fixed, 0x0⟩, ⟨0, 0, .rw, .now, 0x0⟩]⟩,
  ⟨0x16101000, [(4, 0x1000), (8, 0x100)], [⟨31, 31, .rws, .commit, 0x0⟩, ⟨30, 29, .rws, .commit, 0x0⟩, ⟨28, 27, .rws, .commit, 0x0⟩, ⟨26, 22, .rws, .commit, 0x0⟩, ⟨21, 17, .rws, .commit, 0x0⟩, ⟨16, 12, .rws, .commit, 0x0⟩, ⟨11, 10, .rws, .commit, 0x0⟩, ⟨9, 8, .rws, .commit, 0x0⟩, ⟨7, 6, .rws, .commit, 0x0⟩, ⟨5, 4, .rws, .commit, 0x0⟩]⟩,
  ⟨0x16101004, [(4, 0x1000), (8, 0x100)], [⟨23, 0, .rws, .commit, 0x0⟩]⟩,
  ⟨0x16101008, [(4, 0x1000), (8, 0x100)], [⟨23, 0, .rws, .commit, 0x100⟩]⟩,
  ⟨0x1610100C, [(4, 0x1000), (8, 0x100)], [⟨23, 0, .rws, .commit, 0x100⟩]⟩,
  ⟨0x16101010, [(4, 0x1000), (8, 0x100)], [⟨28, 24, .rws, .commit, 0x8⟩, ⟨23, 0, .rws, .commit, 0xFFFFFF⟩]⟩,
  ⟨0x16101014, [(4, 0x1000), (8, 0x100)], [⟨28, 24, .rws, .commit, 0x8⟩, ⟨23, 0, .rws, .commit, 0xFFFFFF⟩]⟩,
  ⟨0x16101018, [(4, 0x1000), (8, 0x100)], [⟨28, 24, .rws, .commit, 0x8⟩, ⟨23, 0, .rws, .commit, 0xFFFFFF⟩]⟩,
  ⟨0x1610101C, [(4, 0x1000), (8, 0x100)], [⟨23, 16, .rws, .commit, 0x0⟩, ⟨15, 8, .rws, .commit, 0x0⟩, ⟨7, 0, .rws, .commit, 0x0⟩]⟩,
  ⟨0x16101020, [(4, 0x1000), (8, 0x100)], [⟨31, 0, .rws, .commit, 0x0⟩]⟩,
  ⟨0x16101024, [(4, 0x1000), (8, 0x100)], [⟨15, 0, .rws, .commit, 0x0⟩]⟩,
  ⟨0x16101028, [(4, 0x1000), (8, 0x100)], [⟨15, 8, .rws, .commit, 0x10⟩, ⟨7, 7, .rws, .commit, 0x0⟩, ⟨6, 6, .rws, .commit, 0x1⟩, ⟨3, 0, .rws, .commit, 0x0⟩]⟩,
  ⟨0x1610102C, [(4, 0x1000), (8, 0x100)], [⟨31, 0, .rws, .commit, 0x0⟩]⟩,
  ⟨0x16101030, [(4, 0x1000), (8, 0x100)], [⟨15, 0, .rws, .commit, 0x0⟩]⟩,
  ⟨0x16101034, [(4, 0x1000), (8, 0x100)], [⟨31, 31, .rws, .commit, 0x0⟩, ⟨3, 0, .rws, .commit, 0xF⟩]⟩,
  ⟨0x16101038, [(4, 0x1000), (8, 0x100)], [⟨31, 24, .ro, .fixed, 0x0⟩, ⟨3, 3, .ro, .fixed, 0x0⟩, ⟨2, 2, .ro, .fixed, 0x0⟩, ⟨1, 0, .ro, .fixed, 0x0⟩]⟩,
  ⟨0x1610103C, [(4, 0x1000), (8, 0x100)], [⟨31, 16, .rc, .fixed, 0x0⟩, ⟨15, 0, .rc, .fixed, 0x0⟩]⟩,
  ⟨0x16101040, [(4, 0x1000), (8, 0x100), (4, 0x10)], [⟨31, 0, .rws, .commit, 0x0⟩]⟩,
  ⟨0x16101044, [(4, 0x1000), (8, 0x100), (4, 0x10)], [⟨15, 0, .rws, .commit, 0x0⟩]⟩,
  ⟨0x16101048, [(4, 0x1000), (8, 0x100), (4, 0x10)], [⟨31, 18, .rws, .commit, 0x0⟩, ⟨17, 16, .rws, .commit, 0x0⟩, ⟨13, 0, .rws, .commit, 0x0⟩]⟩,
  ⟨0x16101080, [(4, 0x1000), (8, 0x100), (4, 0x20)], [⟨31, 16, .rws, .commit, 0x0⟩, ⟨15, 0, .rws, .commit, 0x0⟩]⟩,
  ⟨0x16101084, [(4, 0x1000), (8, 0x100), (4, 0x20)], [⟨31, 0, .rws, .commit, 0x0⟩]⟩,
  ⟨0x16101088, [(4, 0x1000), (8, 0x100), (4, 0x20)], [⟨31, 31, .rws, .commit, 0x0⟩, ⟨15, 0, .rws, .commit, 0x0⟩]⟩,
  ⟨0x1610108C, [(4, 0x1000), (8, 0x100), (4, 0x20)], [⟨31, 0, .rws, .commit, 0x0⟩]⟩]

/-- Registers of the ISP block, part 1. -/
def ispTable1 : List RegDef := [
  ⟨0x16101090, [(4, 0x1000), (8, 0x100), (4, 0x20)], [⟨15, 0, .rws, .commit, 0x0⟩]⟩,
  ⟨0x16101094, [(4, 0x1000), (8, 0x100), (4, 0x20)], [⟨31, 18, .rws, .commit, 0x0⟩, ⟨17, 16, .rws, .commit, 0x0⟩, ⟨13, 0, .rws, .commit, 0x0⟩]⟩,
  ⟨0x16101098, [(4, 0x1000), (8, 0x100), (4, 0x20)], [⟨31, 31, .ro, .fixed, 0x0⟩, ⟨15, 0, .rc, .fixed, 0x0⟩]⟩,
  ⟨0x16101800, [(4, 0x1000)], [⟨7, 0, .ro, .fixed, 0x0⟩]⟩,
  ⟨0x16101804, [(4, 0x1000)], [⟨31, 0, .rc, .fixed, 0x0⟩]⟩,
  ⟨0x16101808, [(4, 0x1000)], [⟨10, 0, .ro, .fixed, 0x0⟩]⟩]

/-- Registers of the ISP block. -/
def ispTable : List RegDef := ispTable0 ++ ispTable1

/-- Registers of the VID block, part 0. -/
def vidTable0 : List RegDef := [
  ⟨0x16200000, [], [⟨2, 0, .ro, .fixed, 0x0⟩]⟩,
  ⟨0x16200004, [], [⟨31, 16, .ro, .fixed, 0x0⟩, ⟨15, 0, .ro, .fixed, 0x0⟩]⟩,
  ⟨0x162000F0, [], [⟨15, 8, .ro, .fixed, 0x0⟩, ⟨3, 3, .rw, .now, 0x0⟩, ⟨2, 2, .w1c, .now, 0x0⟩, ⟨1, 1, .ro, .fixed, 0x0⟩, ⟨0, 0, .rw, .now, 0x0⟩]⟩,
  ⟨0x16200100, [], [⟨23, 16, .rw, .now, 0x1⟩, ⟨2, 2, .rw, .now, 0x0⟩, ⟨1, 0, .rw, .now, 0x0⟩]⟩,
  ⟨0x16200104, [], [⟨31, 0, .rw, .now, 0x0⟩]⟩,
  ⟨0x16200108, [], [⟨15, 0, .rw, .now, 0x0⟩]⟩,
  ⟨0x1620010C, [], [⟨31, 0, .rw, .now, 0x0⟩]⟩,
  ⟨0x16200110, [], [⟨31, 0, .rw, .now, 0x0⟩]⟩,
  ⟨0x16200114, [], [⟨31, 0, .rw, .now, 0x0⟩]⟩,
  ⟨0x16200118, [], [⟨31, 0, .rw, .now, 0x0⟩]⟩,
  ⟨0x1620011C, [], [⟨15, 0, .rw, .now, 0x0⟩]⟩,
  ⟨0x16200120, [], [⟨31, 0, .rw, .now, 0x0⟩]⟩,
  ⟨0x16200124, [], [⟨31, 0, .rw, .now, 0x0⟩]⟩,
  ⟨0x16200128, [], [⟨15, 0, .rw, .now, 0x0⟩]⟩,
  ⟨0x1620012C, [], [⟨31, 16, .ro, .fixed, 0x0⟩, ⟨15, 0, .rw, .now, 0x0⟩]⟩,
  ⟨0x16200130, [], [⟨31, 0, .ro, .fixed, 0x0⟩]⟩,
  ⟨0x16200134, [], [⟨31, 16, .ro, .fixed, 0x0⟩, ⟨15, 0, .ro, .fixed, 0x0⟩]⟩,
  ⟨0x16200200, [(16, 0x20)], [⟨31, 31, .rws, .commit, 0x0⟩, ⟨29, 28, .rws, .commit, 0x0⟩, ⟨27, 23, .rws, .commit, 0x0⟩, ⟨22, 21, .rws, .commit, 0x0⟩, ⟨20, 18, .rws, .commit, 0x0⟩, ⟨17, 16, .rws, .commit, 0x0⟩, ⟨15, 8, .rws, .commit, 0x0⟩, ⟨7, 7, .rws, .commit, 0x0⟩]⟩,
  ⟨0x16200204, [(16, 0x20)], [⟨31, 31, .rws, .commit, 0x0⟩, ⟨29, 24, .rws, .commit, 0x0⟩, ⟨23, 0, .rws, .commit, 0x0⟩]⟩,
  ⟨0x16200208, [(16, 0x20)], [⟨31, 0, .rws, .commit, 0x0⟩]⟩,
  ⟨0x1620020C, [(16, 0x20)], [⟨15, 0, .rws, .commit, 0x0⟩]⟩,
  ⟨0x16200210, [(16, 0x20)], [⟨31, 0, .rws, .commit, 0x0⟩]⟩,
  ⟨0x16200214, [(16, 0x20)], [⟨31, 0, .ro, .fixed, 0x0⟩]⟩,
  ⟨0x16200218, [(16, 0x20)], [⟨31, 0, .rw, .now, 0x0⟩]⟩,
  ⟨0x1620021C, [(16, 0x20)], [⟨31, 16, .rc, .fixed, 0x0⟩, ⟨15, 0, .rc, .fixed, 0x0⟩]⟩]

/-- Registers of the VID block, part 1. -/
def vidTable1 : List RegDef := [
  ⟨0x16200400, [(48, 0x10)], [⟨31, 31, .rw, .now, 0x0⟩, ⟨30, 30, .rw, .now, 0x0⟩, ⟨29, 29, .rw, .now, 0x0⟩]⟩,
  ⟨0x16200404, [(48, 0x10)], [⟨31, 16, .rw, .now, 0x0⟩, ⟨15, 0, .rw, .now, 0x0⟩]⟩,
  ⟨0x16200408, [(48, 0x10)], [⟨15, 0, .rc, .fixed, 0x0⟩]⟩,
  ⟨0x1620040C, [(48, 0x10)], [⟨31, 16, .rc, .fixed, 0x0⟩, ⟨15, 0, .rc, .fixed, 0x0⟩]⟩]

/-- Registers of the VID block. -/
def vidTable : List RegDef := vidTable0 ++ vidTable1

/-- Registers of the FX block. -/
def fxTable : List RegDef := [
  ⟨0x17000000, [], [⟨15, 8, .ro, .fixed, 0x0⟩, ⟨2, 2, .ro, .fixed, 0x0⟩, ⟨1, 0, .ro, .fixed, 0x0⟩]⟩,
  ⟨0x17000004, [], [⟨31, 23, .ro, .cold, 0x0⟩, ⟨22, 14, .ro, .cold, 0x0⟩, ⟨13, 13, .ro, .cold, 0x0⟩, ⟨12, 4, .ro, .cold, 0x0⟩]⟩,
  ⟨0x17000008, [], [⟨31, 30, .ro, .cold, 0x0⟩, ⟨26, 24, .ro, .cold, 0x0⟩, ⟨23, 20, .ro, .cold, 0x0⟩, ⟨6, 0, .ro, .cold, 0x0⟩]⟩,
  ⟨0x1700000C, [], [⟨31, 0, .ro, .cold, 0x0⟩]⟩,
  ⟨0x17000010, [], [⟨31, 0, .ro, .cold, 0x0⟩]⟩,
  ⟨0x17000014, [], [⟨15, 0, .rws, .commit, 0xC8⟩]⟩,
  ⟨0x17000018, [], [⟨31, 16, .rc, .fixed, 0x0⟩, ⟨15, 0, .ro, .fixed, 0x0⟩]⟩,
  ⟨0x1700001C, [], [⟨31, 0, .rc, .fixed, 0x0⟩]⟩,
  ⟨0x17000020, [], [⟨31, 16, .rc, .fixed, 0x0⟩, ⟨15, 0, .rc, .fixed, 0x0⟩]⟩,
  ⟨0x17000030, [(4, 0x4)], [⟨31, 0, .ro, .fixed, 0x0⟩]⟩,
  ⟨0x170000F0, [], [⟨15, 8, .ro, .fixed, 0x0⟩, ⟨3, 3, .rw, .now, 0x0⟩, ⟨2, 2, .w1c, .now, 0x0⟩, ⟨1, 1, .ro, .fixed, 0x0⟩, ⟨0, 0, .rw, .now, 0x0⟩]⟩,
  ⟨0x17000100, [(8, 0x20)], [⟨7, 4, .rws, .commit, 0x1⟩, ⟨3, 0, .rws, .commit, 0x1⟩]⟩,
  ⟨0x17000104, [(8, 0x20)], [⟨31, 23, .ro, .fixed, 0x0⟩, ⟨22, 20, .ro, .fixed, 0x0⟩, ⟨2, 2, .ro, .fixed, 0x0⟩, ⟨1, 0, .ro, .fixed, 0x0⟩]⟩,
  ⟨0x17000108, [(8, 0x20)], [⟨15, 0, .ro, .fixed, 0x0⟩]⟩,
  ⟨0x1700010C, [(8, 0x20)], [⟨31, 0, .rc, .fixed, 0x0⟩]⟩,
  ⟨0x17000110, [(8, 0x20)], [⟨31, 16, .rc, .fixed, 0x0⟩, ⟨15, 8, .rc, .fixed, 0x0⟩, ⟨7, 0, .rc, .fixed, 0x0⟩]⟩,
  ⟨0x17000400, [(16, 0x10)], [⟨31, 31, .rws, .commit, 0x0⟩, ⟨30, 22, .rws, .commit, 0x0⟩, ⟨21, 0, .rws, .commit, 0x0⟩]⟩,
  ⟨0x17000404, [(16, 0x10)], [⟨21, 0, .rws, .commit, 0x0⟩]⟩,
  ⟨0x17000408, [(16, 0x10)], [⟨21, 0, .rws, .commit, 0x0⟩]⟩,
  ⟨0x17000600, [(16, 0x10)], [⟨31, 31, .rws, .commit, 0x0⟩, ⟨30, 22, .rws, .commit, 0x0⟩, ⟨21, 13, .rws, .commit, 0x0⟩]⟩,
  ⟨0x17000604, [(16, 0x10)], [⟨21, 0, .rws, .commit, 0x0⟩]⟩,
  ⟨0x17000608, [(16, 0x10)], [⟨21, 0, .rws, .commit, 0x0⟩]⟩]

/-- Registers of the ETH block. -/
def ethTable : List RegDef := [
  ⟨0x17100000, [], [⟨2, 0, .ro, .fixed, 0x0⟩]⟩,
  ⟨0x17100004, [], [⟨31, 16, .rc, .fixed, 0x0⟩, ⟨4, 4, .ro, .fixed, 0x0⟩, ⟨3, 0, .ro, .fixed, 0x0⟩]⟩,
  ⟨0x171000F0, [], [⟨15, 8, .ro, .fixed, 0x0⟩, ⟨3, 3, .rw, .now, 0x0⟩, ⟨2, 2, .w1c, .now, 0x0⟩, ⟨1, 1, .ro, .fixed, 0x0⟩, ⟨0, 0, .rw, .now, 0x0⟩]⟩,
  ⟨0x17100100, [(3, 0x40)], [⟨7, 7, .ro, .fixed, 0x0⟩, ⟨6, 6, .ro, .fixed, 0x0⟩, ⟨5, 4, .ro, .fixed, 0x0⟩, ⟨3, 3, .ro, .fixed, 0x0⟩]⟩,
  ⟨0x17100104, [(3, 0x40)], [⟨1, 1, .rws, .turn, 0x0⟩, ⟨0, 0, .ro, .cold, 0x0⟩]⟩,
  ⟨0x17100108, [(3, 0x40)], [⟨31, 0, .rc, .fixed, 0x0⟩]⟩,
  ⟨0x1710010C, [(3, 0x40)], [⟨31, 16, .rc, .fixed, 0x0⟩, ⟨15, 0, .rc, .fixed, 0x0⟩]⟩,
  ⟨0x17100110, [(3, 0x40)], [⟨31, 0, .rc, .fixed, 0x0⟩]⟩,
  ⟨0x17100114, [(3, 0x40)], [⟨31, 16, .rc, .fixed, 0x0⟩, ⟨15, 0, .rc, .fixed, 0x0⟩]⟩,
  ⟨0x17100118, [(3, 0x40)], [⟨31, 16, .rc, .fixed, 0x0⟩, ⟨15, 0, .ro, .fixed, 0x0⟩]⟩]

/-- Registers of the PWR block. -/
def pwrTable : List RegDef := [
  ⟨0x18000000, [], [⟨9, 9, .ro, .fixed, 0x0⟩, ⟨8, 8, .ro, .fixed, 0x0⟩, ⟨7, 4, .ro, .fixed, 0x0⟩, ⟨3, 0, .ro, .fixed, 0x0⟩]⟩,
  ⟨0x18000004, [], [⟨8, 0, .rws, .commit, 0x0⟩]⟩,
  ⟨0x18000008, [], [⟨19, 0, .ro, .fixed, 0x0⟩]⟩,
  ⟨0x1800000C, [], [⟨19, 0, .ro, .fixed, 0x0⟩]⟩,
  ⟨0x18000010, [], [⟨7, 0, .rws, .commit, 0x0⟩]⟩,
  ⟨0x18000014, [], [⟨31, 31, .rws, .commit, 0x0⟩, ⟨7, 0, .rws, .commit, 0x14⟩]⟩,
  ⟨0x18000018, [], [⟨31, 31, .ro, .cold, 0x0⟩, ⟨27, 16, .ro, .cold, 0x0⟩, ⟨15, 0, .ro, .cold, 0x0⟩]⟩,
  ⟨0x1800001C, [], [⟨24, 16, .ro, .cold, 0x0⟩, ⟨8, 0, .ro, .cold, 0x0⟩]⟩,
  ⟨0x18000020, [], [⟨31, 24, .rc, .fixed, 0x0⟩, ⟨8, 0, .ro, .fixed, 0x0⟩]⟩,
  ⟨0x18000024, [], [⟨31, 0, .ro, .cold, 0x0⟩]⟩,
  ⟨0x18000028, [], [⟨15, 0, .ro, .cold, 0x0⟩]⟩,
  ⟨0x180000F0, [], [⟨15, 8, .ro, .fixed, 0x0⟩, ⟨3, 3, .rw, .now, 0x0⟩, ⟨2, 2, .w1c, .now, 0x0⟩, ⟨1, 1, .ro, .fixed, 0x0⟩, ⟨0, 0, .rw, .now, 0x0⟩]⟩,
  ⟨0x18000100, [(4, 0x20)], [⟨6, 0, .ro, .cold, 0x0⟩]⟩,
  ⟨0x18000104, [(4, 0x20)], [⟨28, 24, .rws, .commit, 0x10⟩, ⟨20, 16, .ro, .fixed, 0x0⟩]⟩,
  ⟨0x18000108, [(4, 0x20)], [⟨31, 16, .ro, .fixed, 0x0⟩, ⟨15, 0, .ro, .fixed, 0x0⟩]⟩,
  ⟨0x1800010C, [(4, 0x20)], [⟨31, 16, .rc, .fixed, 0x0⟩, ⟨15, 0, .ro, .fixed, 0x0⟩]⟩,
  ⟨0x18000110, [(4, 0x20)], [⟨15, 0, .ro, .fixed, 0x1000⟩]⟩,
  ⟨0x18000114, [(4, 0x20)], [⟨31, 16, .rc, .fixed, 0x0⟩, ⟨12, 8, .ro, .fixed, 0x0⟩, ⟨4, 0, .ro, .fixed, 0x10⟩]⟩,
  ⟨0x18000118, [(4, 0x20)], [⟨15, 8, .rc, .fixed, 0x0⟩, ⟨7, 0, .ro, .fixed, 0x0⟩]⟩,
  ⟨0x1800011C, [(4, 0x20)], [⟨4, 4, .ro, .fixed, 0x0⟩, ⟨3, 3, .ro, .fixed, 0x0⟩, ⟨2, 2, .ro, .fixed, 0x0⟩, ⟨1, 1, .ro, .fixed, 0x0⟩, ⟨0, 0, .ro, .fixed, 0x0⟩]⟩]

/-- Registers of the HS block. -/
def hsTable : List RegDef := [
  ⟨0x19000000, [], [⟨31, 30, .ro, .fixed, 0x0⟩, ⟨29, 29, .ro, .fixed, 0x0⟩, ⟨28, 28, .ro, .fixed, 0x0⟩, ⟨27, 24, .ro, .fixed, 0x0⟩, ⟨23, 22, .ro, .fixed, 0x0⟩, ⟨21, 21, .ro, .fixed, 0x0⟩, ⟨20, 20, .ro, .fixed, 0x0⟩, ⟨19, 16, .ro, .fixed, 0x0⟩, ⟨15, 0, .ro, .fixed, 0x0⟩]⟩,
  ⟨0x19000004, [], [⟨5, 5, .ro, .fixed, 0x0⟩, ⟨4, 4, .ro, .fixed, 0x0⟩, ⟨3, 3, .ro, .fixed, 0x0⟩, ⟨2, 2, .ro, .fixed, 0x0⟩, ⟨1, 1, .ro, .fixed, 0x0⟩, ⟨0, 0, .ro, .fixed, 0x0⟩]⟩,
  ⟨0x19000008, [], [⟨15, 12, .ro, .fixed, 0x0⟩, ⟨11, 8, .ro, .fixed, 0x0⟩, ⟨7, 4, .ro, .fixed, 0x0⟩, ⟨3, 0, .ro, .fixed, 0x0⟩]⟩,
  ⟨0x19000010, [], [⟨31, 0, .ro, .fixed, 0x0⟩]⟩,
  ⟨0x19000014, [], [⟨31, 0, .ro, .fixed, 0x0⟩]⟩,
  ⟨0x19000018, [], [⟨31, 0, .ro, .fixed, 0x0⟩]⟩,
  ⟨0x1900001C, [], [⟨31, 0, .ro, .fixed, 0x0⟩]⟩,
  ⟨0x19000020, [], [⟨7, 4, .ro, .fixed, 0x0⟩, ⟨3, 0, .ro, .fixed, 0x0⟩]⟩,
  ⟨0x19000024, [], [⟨11, 8, .ro, .fixed, 0x0⟩, ⟨7, 4, .ro, .fixed, 0x0⟩, ⟨1, 1, .ro, .fixed, 0x0⟩, ⟨0, 0, .ro, .fixed, 0x0⟩]⟩,
  ⟨0x19000028, [], [⟨31, 0, .ro, .fixed, 0x0⟩]⟩,
  ⟨0x19000030, [], [⟨31, 0, .ro, .fixed, 0x0⟩]⟩,
  ⟨0x19000034, [], [⟨31, 0, .ro, .fixed, 0x0⟩]⟩,
  ⟨0x19000040, [], [⟨2, 0, .rw, .now, 0x0⟩]⟩,
  ⟨0x19000080, [(16, 0x4)], [⟨31, 0, .ro, .fixed, 0x0⟩]⟩,
  ⟨0x19000100, [(16, 0x4)], [⟨31, 0, .wo, .now, 0x0⟩]⟩,
  ⟨0x19000140, [], [⟨0, 0, .wo, .now, 0x0⟩]⟩,
  ⟨0x19000180, [(16, 0x4)], [⟨31, 0, .ro, .fixed, 0x0⟩]⟩]

/-- Registers of the MBX block. -/
def mbxTable : List RegDef := [
  ⟨0x1A000000, [], [⟨3, 0, .ro, .fixed, 0x0⟩]⟩,
  ⟨0x1A000100, [(4, 0x40)], [⟨31, 0, .rw, .now, 0x0⟩]⟩,
  ⟨0x1A000104, [(4, 0x40)], [⟨15, 0, .rw, .now, 0x0⟩]⟩,
  ⟨0x1A000108, [(4, 0x40)], [⟨31, 31, .rw, .now, 0x0⟩, ⟨15, 0, .rw, .now, 0x0⟩]⟩,
  ⟨0x1A00010C, [(4, 0x40)], [⟨31, 0, .rw, .now, 0x0⟩]⟩,
  ⟨0x1A000110, [(4, 0x40)], [⟨31, 0, .ro, .fixed, 0x0⟩]⟩,
  ⟨0x1A000114, [(4, 0x40)], [⟨31, 0, .ro, .fixed, 0x0⟩]⟩,
  ⟨0x1A000118, [(4, 0x40)], [⟨31, 0, .rw, .now, 0x0⟩]⟩,
  ⟨0x1000000000000, [], [⟨31, 0, .ro, .fixed, 0xA7103280⟩]⟩,
  ⟨0x1000000000004, [], [⟨31, 28, .ro, .fixed, 0x0⟩, ⟨27, 26, .ro, .fixed, 0x0⟩, ⟨25, 25, .ro, .fixed, 0x0⟩, ⟨24, 24, .ro, .fixed, 0x0⟩, ⟨23, 23, .ro, .fixed, 0x0⟩]⟩,
  ⟨0x1000000000008, [], [⟨31, 2, .rw, .now, 0x0⟩]⟩,
  ⟨0x100000000000C, [], [⟨31, 31, .rw, .now, 0x0⟩, ⟨15, 0, .rw, .now, 0x0⟩]⟩,
  ⟨0x1000000000010, [], [⟨31, 0, .rw, .now, 0x0⟩]⟩,
  ⟨0x1000000000014, [], [⟨31, 0, .wo, .now, 0x0⟩]⟩,
  ⟨0x1000000000018, [], [⟨31, 0, .ro, .fixed, 0x0⟩]⟩,
  ⟨0x100000000001C, [], [⟨31, 16, .rc, .fixed, 0x0⟩, ⟨15, 0, .rc, .fixed, 0x0⟩]⟩]

/-- Registers of the PERT block. -/
def pertTable : List RegDef := [
  ⟨0x1B000000, [], [⟨31, 31, .ro, .fixed, 0x0⟩, ⟨30, 29, .ro, .fixed, 0x0⟩, ⟨23, 16, .ro, .fixed, 0x0⟩, ⟨1, 0, .ro, .fixed, 0x0⟩]⟩,
  ⟨0x1B000004, [], [⟨0, 0, .wo, .now, 0x0⟩]⟩,
  ⟨0x1B000008, [], [⟨31, 0, .ro, .fixed, 0x0⟩]⟩,
  ⟨0x1B00000C, [], [⟨31, 0, .ro, .fixed, 0x0⟩]⟩,
  ⟨0x1B000010, [], [⟨15, 0, .ro, .fixed, 0x0⟩]⟩,
  ⟨0x1B000014, [], [⟨31, 0, .rc, .fixed, 0x0⟩]⟩,
  ⟨0x1B000100, [(16, 0x20)], [⟨31, 31, .rw, .now, 0x0⟩, ⟨30, 30, .rw, .now, 0x0⟩, ⟨29, 29, .rw, .now, 0x0⟩, ⟨27, 16, .rw, .now, 0x0⟩, ⟨3, 0, .rw, .now, 0x0⟩]⟩,
  ⟨0x1B000104, [(16, 0x20)], [⟨31, 0, .rw, .now, 0x0⟩]⟩,
  ⟨0x1B000108, [(16, 0x20)], [⟨15, 0, .rw, .now, 0x0⟩]⟩,
  ⟨0x1B00010C, [(16, 0x20)], [⟨31, 0, .rw, .now, 0x0⟩]⟩,
  ⟨0x1B000110, [(16, 0x20)], [⟨31, 0, .rw, .now, 0x0⟩]⟩,
  ⟨0x1B000114, [(16, 0x20)], [⟨31, 16, .rc, .fixed, 0x0⟩, ⟨1, 0, .ro, .fixed, 0x0⟩]⟩]

/-- The table to search for a word address (08 'Register regions'). -/
def tableOf (a : Nat) : List RegDef :=
  match a / 0x100000 with
  | 0x100 => spTable
  | 0x101 => neTable
  | 0x140 => dmaTable
  | 0x150 => memTable
  | 0x160 => csiTable
  | 0x161 => ispTable
  | 0x162 => vidTable
  | 0x170 => fxTable
  | 0x171 => ethTable
  | 0x180 => pwrTable
  | 0x190 => hsTable
  | 0x1A0 => mbxTable
  | 0x1B0 => pertTable
  | 0x10000000 => mbxTable
  | k => if 0x110 ≤ k ∧ k < 0x130 then coreTable else []

end Sys2Proof.Machine
end

