-- ==== Sys2Proof/Machine/Ops.lean ====
section
/-! DEFINITION. The named operations every meaning uses: register fields, the spindle's position, events, free values, memory
bytes, and the accessors of the sparse parts of the state. -/

namespace Sys2Proof.Machine

/-- The mesh, the cores and the sensor front end are out of reset (15 R477, R513 C9, R515 W8). -/
def Mode.neRuns (md : Mode) : Bool :=
  match md with
  | .ready | .turning | .parked | .replay | .retired => true
  | .off | .coldStart | .warmStart | .recovery => false

-- Register fields.

/-- Key of a field in the register maps. -/
def Fld.key (f : Fld) : Nat := f.addr * 32 + f.lo

/-- Width of a field in bits. -/
def Fld.width (f : Fld) : Nat := f.hi + 1 - f.lo

/-- The active value of a field in a register file. -/
def Regs.get (r : Regs) (f : Fld) : Nat := mget f.rst r.act f.key

/-- A field's active value set in a register file; excess high bits are dropped. -/
def Regs.put (r : Regs) (f : Fld) (v : Nat) : Regs := { r with act := mset f.rst r.act f.key (v % 2 ^ f.width) }

/-- The active value of a register field (00 Register tables). -/
def Device.rd (d : Device) (f : Fld) : Nat := d.regs.get f

/-- The active value of a one-bit field. -/
def Device.rdB (d : Device) (f : Fld) : Bool := d.rd f != 0

/-- A register field's active copy set. -/
def Device.wr (d : Device) (f : Fld) (v : Nat) : Device := { d with regs := d.regs.put f v }

/-- The shadow copy of a register field: what software last wrote, or the active copy when no write waits (01 R52). -/
def Device.rdShadow (d : Device) (f : Fld) : Nat := (afind d.regs.shd f.key).getD (d.rd f)

/-- A register field's shadow copy set (00 RWS). -/
def Device.wrShadow (d : Device) (f : Fld) (v : Nat) : Device :=
  { d with regs := { d.regs with shd := aput d.regs.shd f.key (v % 2 ^ f.width) } }

/-- A counting register field, saturating (the tables' 'saturating'). -/
def Device.bump (d : Device) (f : Fld) (n : Nat) : Device := d.wr f (satAdd f.width (d.rd f) n)

/-- A 64-bit quantity in a _LO and _HI pair. -/
def Device.rdPair (d : Device) (lo hi : Fld) : Nat := d.rd lo + d.rd hi * 2 ^ 32

/-- A 64-bit quantity set in a _LO and _HI pair. -/
def Device.wrPair (d : Device) (lo hi : Fld) (v : Nat) : Device := (d.wr lo (v % 2 ^ 32)).wr hi (v / 2 ^ 32)

-- The spindle's position (01 R25, R26).

/-- Turn period P in ns. -/
def Spindle.period (sp : Spindle) : Nat := sp.periodUs * 1000

/-- Number of whole periods before a spindle time, not yet taken modulo 2³² (01 R25). -/
def Spindle.turnCount (sp : Spindle) (t : Nat) : Int := ((t : Int) - sp.phaseNs) / (sp.period : Int)

/-- Turn in progress at a spindle time (01 R25). -/
def Spindle.turnAt (sp : Spindle) (t : Nat) : Nat := tcOf (sp.turnCount t) 32

/-- Nanoseconds since index 0 of the turn in progress (01 R25). -/
def Spindle.offsetAt (sp : Spindle) (t : Nat) : Nat := (((t : Int) - sp.phaseNs) % (sp.period : Int)).toNat

/-- Start of index k after index 0, in ns (01 R26). -/
def Spindle.indexStart (sp : Spindle) (k : Nat) : Nat := k * sp.period / 4096

/-- Index in progress at an offset from index 0: the last index k whose start is at or before it (01 R26). -/
def Spindle.indexOf (sp : Spindle) (off : Nat) : Nat := ((off + 1) * 4096 - 1) / sp.period

/-- Index in progress at a spindle time. -/
def Spindle.indexAt (sp : Spindle) (t : Nat) : Nat := sp.indexOf (sp.offsetAt t)

/-- Spindle time of the next index boundary after a spindle time (01 R26). -/
def Spindle.nextBoundary (sp : Spindle) (t : Nat) : Nat :=
  t + sp.indexStart (sp.indexAt t + 1) - sp.offsetAt t

/-- The current turn. -/
def Device.turn (d : Device) : Nat := if d.sp.counting then d.sp.turnAt d.sp.time else 0

/-- The current index. -/
def Device.index (d : Device) : Nat := if d.sp.counting then d.sp.indexAt d.sp.time else 0

/-- A turn number lies ahead of another (01 R29). -/
def turnAhead (t now : Nat) : Bool :=
  let k := (t + 2 ^ 32 - now % 2 ^ 32) % 2 ^ 32
  decide (1 ≤ k) && decide (k ≤ 2 ^ 31 - 1)

/-- Turn t advanced by k, modulo 2³². -/
def turnPlus (t k : Nat) : Nat := (t + k) % 2 ^ 32

/-- The difference of two turn numbers, modulo 2³². -/
def turnDiff (t u : Nat) : Nat := (t + 2 ^ 32 - u % 2 ^ 32) % 2 ^ 32

/-- A stamped event moves spindle time forward to its stamp, but never past the next index boundary, which is a step of its
own (DESIGN CHOICE, log entry 6). While the spindle does not count, time stands. -/
def Spindle.stamp (sp : Spindle) (at_ : Nat) : Spindle :=
  if sp.counting then { sp with time := max sp.time (min at_ (sp.nextBoundary sp.time - 1)) } else sp

/-- The device at the time of a stamped event. -/
def Device.stamp (d : Device) (at_ : Nat) : Device := { d with sp := d.sp.stamp at_ }

-- Events (13 R411 to R415).

/-- Capacity of the hardware event queue (13 R414). -/
def eventQueueCap : Nat := 4096

/-- An event as a record at the present position (13 R411, R412, R413). -/
def Device.mkEvent (d : Device) (src code payload : Nat) : EventRec :=
  { code, index := d.index, turn := d.turn, severity := severityOf code (payload % 2 ^ 64), source := src,
    payload := BitVec.ofNat 64 payload }

/-- A record enters the hardware queue, or is discarded and counted when the queue is full (13 R414). -/
def Events.enqueue (ev : Events) (e : EventRec) : Events :=
  if ev.queue.length < eventQueueCap then { ev with queue := ev.queue ++ [e] }
  else { ev with lost := ev.lost + 1, lostTotal := satAdd 32 ev.lostTotal 1 }

/-- A record raised enters the queue, or Headstock holds it until the health monitor runs (13 R414, 15 R522). -/
def Events.accept (ev : Events) (e : EventRec) : Events :=
  if ev.hmRunning then ev.enqueue e else { ev with held := ev.held ++ [e] }

/-- A record enters the hardware queue of the device. -/
def Device.enqueue (d : Device) (e : EventRec) : Device := { d with ev := d.ev.enqueue e }

/-- An event is raised. -/
def Device.raiseFrom (d : Device) (src code payload : Nat) : Device := { d with ev := d.ev.accept (d.mkEvent src code payload) }

/-- An event raised by the block of its class. -/
def Device.raise (d : Device) (code payload : Nat) : Device := d.raiseFrom (sourceOf code) code payload

/-- An event raised when a condition holds. -/
def Device.raiseIf (d : Device) (c : Bool) (code payload : Nat) : Device :=
  { d with ev := if c then (d.raise code payload).ev else d.ev }

-- Free values.

/-- The next number of the free-value counter, and the device with it advanced (log entry 1). -/
def Device.tick (d : Device) : Nat × Device := (d.freeCtr, { d with freeCtr := d.freeCtr + 1 })

-- Memory bytes (08 R264); errors are the concern of Machine/Memory.lean.

/-- n bytes from an address upward. -/
def Memory.read (m : Memory) (a : Nat) : Nat → List Byte
  | 0 => []
  | n + 1 => mget 0 m.cells a :: m.read (a + 1) n

/-- Bytes written from an address upward. -/
def Memory.write (m : Memory) (a : Nat) : List Byte → Memory
  | [] => m
  | b :: bs => ({ m with cells := mset 0 m.cells a b }).write (a + 1) bs

/-- The canonical form of memory: addresses and codeword addresses rise, and nothing listed equals what an unlisted place
reads as. -/
def Memory.wf (m : Memory) : Bool := mwf (0 : Byte) m.cells && mwf 0 m.errs

/-- Bytes of the physical space. -/
def Device.bytes (d : Device) (a n : Nat) : List Byte := d.mem.read a n

/-- Bytes written into the physical space. -/
def Device.poke (d : Device) (a : Nat) (bs : List Byte) : Device := { d with mem := d.mem.write a bs }

/-- A little-endian number of n bytes in the physical space. -/
def Device.num (d : Device) (a n : Nat) : Nat := leNat (d.bytes a n)

-- Sparse parts of the state.

/-- Matrix array a of core c; key 4 × c + a. -/
def Device.array (d : Device) (c a : Nat) : ArrayRt := mget {} d.arrays (4 * c + a)
/-- Matrix array a of core c replaced. -/
def Device.setArray (d : Device) (c a : Nat) (x : ArrayRt) : Device :=
  { d with arrays := mset {} d.arrays (4 * c + a) x }
/-- Core c. -/
def Device.core (d : Device) (c : Nat) : CoreRt := mget {} d.cores c
/-- Core c replaced. -/
def Device.setCore (d : Device) (c : Nat) (x : CoreRt) : Device := { d with cores := mset {} d.cores c x }
/-- DMA channel k. -/
def Device.chan (d : Device) (k : Nat) : DmaCh := mget {} d.dma k
/-- DMA channel k replaced. -/
def Device.setChan (d : Device) (k : Nat) (x : DmaCh) : Device := { d with dma := mset {} d.dma k x }
/-- Memory channel c. -/
def Device.memCh (d : Device) (c : Nat) : MemCh := mget {} d.memc.chans c
/-- Memory channel c replaced. -/
def Device.setMemCh (d : Device) (c : Nat) (x : MemCh) : Device :=
  { d with memc := { d.memc with chans := mset {} d.memc.chans c x } }
/-- Camera stream s. -/
def Device.stream (d : Device) (s : Nat) : StreamSt := mget {} d.cam.streams s
/-- Camera stream s replaced. -/
def Device.setStream (d : Device) (s : Nat) (x : StreamSt) : Device :=
  { d with cam := { d.cam with streams := mset {} d.cam.streams s x } }
/-- CSI receiver r. -/
def Device.rx (d : Device) (r : Nat) : RxSt := mget {} d.cam.rx r
/-- CSI receiver r replaced. -/
def Device.setRx (d : Device) (r : Nat) (x : RxSt) : Device := { d with cam := { d.cam with rx := mset {} d.cam.rx r x } }
/-- Sensor-control master m. -/
def Device.scm (d : Device) (m : Nat) : ScmSt := mget {} d.cam.scm m
/-- Sensor-control master m replaced. -/
def Device.setScm (d : Device) (m : Nat) (x : ScmSt) : Device :=
  { d with cam := { d.cam with scm := mset {} d.cam.scm m x } }
/-- Image-pipe context x of pipe p; key 8 × p + x. -/
def Device.ctx (d : Device) (p x : Nat) : CtxSt := mget {} d.isp (8 * p + x)
/-- Image-pipe context replaced. -/
def Device.setCtx (d : Device) (p x : Nat) (c : CtxSt) : Device := { d with isp := mset {} d.isp (8 * p + x) c }
/-- Encoder stream e. -/
def Device.enc (d : Device) (e : Nat) : EncSt := mget {} d.vid.enc e
/-- Encoder stream e replaced. -/
def Device.setEnc (d : Device) (e : Nat) (x : EncSt) : Device :=
  { d with vid := { d.vid with enc := mset {} d.vid.enc e x } }
/-- Finyx port p. -/
def Device.port (d : Device) (p : Nat) : PortSt := mget {} d.join.ports p
/-- Finyx port p replaced. -/
def Device.setPort (d : Device) (p : Nat) (x : PortSt) : Device :=
  { d with join := { d.join with ports := mset {} d.join.ports p x } }
/-- Rail of quadrant q. -/
def Device.rail (d : Device) (q : Nat) : RailSt := mget {} d.pwr.rails q
/-- Rail of quadrant q replaced. -/
def Device.setRail (d : Device) (q : Nat) (x : RailSt) : Device :=
  { d with pwr := { d.pwr with rails := mset {} d.pwr.rails q x } }
/-- Counter c with its marks (06 R213). -/
def Device.ctr (d : Device) (c : Nat) : CounterSt := mget {} d.seq.counters c
/-- Counter c replaced. -/
def Device.setCtr (d : Device) (c : Nat) (x : CounterSt) : Device :=
  { d with seq := { d.seq with counters := mset {} d.seq.counters c x } }
/-- Statistics of tensor t (03 R130). -/
def Device.tensor (d : Device) (t : Nat) : TensorSt := mget {} d.quant.tensors t
/-- Statistics of tensor t replaced. -/
def Device.setTensor (d : Device) (t : Nat) (x : TensorSt) : Device :=
  { d with quant := { d.quant with tensors := mset {} d.quant.tensors t x } }

/-- A stream whose times from which intervals are counted have moved on the time scale (01 R19; 09 R302, R305, R307). Stamps that
records hold stay. -/
def StreamSt.shifted (st : StreamSt) (mv : Nat → Nat) : StreamSt :=
  { st with
    since := mv st.since
    frames := st.frames.map fun f =>
      { f with startAt := mv f.startAt, firstLineAt := mv f.firstLineAt, lastLineAt := mv f.lastLineAt } }

-- Answers of register accesses.

/-- A 32-bit word is returned to the agent that reads. -/
def Device.answer (d : Device) (v : Nat) : Device := { d with bus := { data := leBytes 4 v } }

/-- A read of a low word: it is returned, and the high word stands still until its own register is written (00 Register
tables: 'reading latches'). -/
def Device.readLatching (d : Device) (lo hiAddr hi : Nat) : Device :=
  { d.answer lo with latch := aput d.latch hiAddr hi }

-- Outcomes.

/-- The next state with the device part replaced. -/
def nextD (s : State) (d : Device) : Host.Outcome State Fault Refusal := .next { s with dev := d }

end Sys2Proof.Machine
end

