-- ==== Sys2Proof/Machine/Memory.lean ====
section
/-! DEFINITION. The physical address space (08 R264 to R273), its codes (02 R92 to R94, R101, R589, R590; 08 R274 to R280) and
the access table of its agents (08 R269, 16 R524 to R528). -/

namespace Sys2Proof.Machine

-- The map.

/-- First address of shared memory (08 R264). -/
def shmBase : Nat := 0x100000000
/-- First address of core memory n (08 R264). -/
def coreMemBase (n : Nat) : Nat := 0x200000000 + n * 0x400000
/-- Bytes of one core's memory (08 R264). -/
def coreMemSize : Nat := 4 * 2 ^ 20
/-- First address of DRAM (08 R264). -/
def dramBase : Nat := 0x1000000000

/-- Installed capacity in bytes, from MEM_CFG.capacity (08 R271). -/
def Device.dramSize (d : Device) : Nat :=
  match d.rd Reg.MEM_CFG_capacity with
  | 1 => 64 * 2 ^ 30
  | 2 => 128 * 2 ^ 30
  | 3 => 256 * 2 ^ 30
  | _ => 0

/-- What an address belongs to (08 R264, R267; 16 R527). -/
inductive Place where
  | headstockRom | headstockSram | firmwareSram | kernelRegs | appRegs
  | regs
  | shared (offset : Nat)
  | core (n offset : Nat)
  | dram (area offset : Nat)
  | unmapped
  deriving DecidableEq, Repr

/-- DRAM area that holds an offset (08 R267); the NE area where the areas are not placed yet. -/
def Device.areaOf (d : Device) (x : Nat) : Nat :=
  ((List.range 5).find? fun a =>
    let b := d.rd (Reg.MEM_AREA_base a) * 2 ^ 24
    decide (b ≤ x) && decide (x < b + d.rd (Reg.MEM_AREA_size a) * 2 ^ 24)).getD 0

/-- First address and size in bytes of a DRAM area. -/
def Device.area (d : Device) (a : Nat) : Nat × Nat :=
  (dramBase + d.rd (Reg.MEM_AREA_base a) * 2 ^ 24, d.rd (Reg.MEM_AREA_size a) * 2 ^ 24)

/-- The register regions from SP to PERT (08 R264). -/
def isRegs (a : Nat) : Bool :=
  let k := a / 0x100000
  [0x100, 0x101, 0x140, 0x150, 0x160, 0x161, 0x162, 0x170, 0x171, 0x180, 0x190, 0x1A0, 0x1B0].contains k ||
    (decide (0x110 ≤ k) && decide (k < 0x130))

/-- Place of an address. -/
def Device.place (d : Device) (a : Nat) : Place :=
  if a < 0x40000 then .headstockRom
  else if 0x01000000 ≤ a ∧ a < 0x01200000 then .headstockSram
  else if 0x02000000 ≤ a ∧ a < 0x02800000 then .firmwareSram
  else if 0x04000000 ≤ a ∧ a < 0x04100000 then .kernelRegs
  else if 0x05000000 ≤ a ∧ a < 0x05100000 then .appRegs
  else if isRegs a then .regs
  else if shmBase ≤ a ∧ a < shmBase + 0xC000000 then .shared (a - shmBase)
  else if coreMemBase 0 ≤ a ∧ a < coreMemBase 32 then .core ((a - coreMemBase 0) / 0x400000) ((a - coreMemBase 0) % 0x400000)
  else if dramBase ≤ a ∧ a < dramBase + d.dramSize then .dram (d.areaOf (a - dramBase)) (a - dramBase)
  else .unmapped

/-- Shared-memory slice of an offset (02 R98). -/
def Device.sliceOfShm (d : Device) (x : Nat) : Nat :=
  if d.rdB Reg.NE_SHM_CFG_linear then x / (12 * 2 ^ 20) else (x / 1024) % 16

/-- Channel of a DRAM offset (08 R273). -/
def channelOf (x : Nat) : Nat :=
  (bitsOf x 11 8 ^^^ bitsOf x 15 12) ^^^ (bitsOf x 19 16 ^^^ bitsOf x 23 20)

/-- Offset within the channel (08 R273). -/
def channelOffset (x : Nat) : Nat := (x / 4096) * 256 + x % 256

/-- DRAM offset of an offset y within channel c: the inverse of 08 R273. -/
def dramOffset (c y : Nat) : Nat :=
  let hi := y / 256
  (hi * 16 + ((c ^^^ bitsOf hi 3 0) ^^^ (bitsOf hi 7 4 ^^^ bitsOf hi 11 8))) * 256 + y % 256

-- Agents (08 R269; 16 R523 to R528).

/-- Row of 08 R269, as MEM_PROT_INFO.agent counts them. -/
def agentClass : Agent → Nat
  | .dmaItem => 0
  | .dmaLoader => 1
  | .finyx => 2
  | .engine => 3
  | .headstock | .component _ | .componentDma _ | .kernel | .maintenance => 4
  | .application => 5

/-- Source code of an agent in MEM_UE_ADDR_HI and the memory events (08 R289, R290). -/
def agentSource : Agent → Nat
  | .dmaItem => 0
  | .dmaLoader => 1
  | .finyx | .engine => 4
  | _ => 3

/-- Rights on shared and core memory and the five DRAM areas (08 R269): read, write. -/
def classRights (cls : Nat) (p : Place) : Bool × Bool :=
  match cls, p with
  | 0, .dram 2 _ | 0, .dram 4 _ => (false, false)
  | 0, .shared _ | 0, .core _ _ | 0, .dram _ _ => (true, true)
  | 1, .dram 4 _ => (true, false)
  | 2, .shared _ => (false, true)
  | 2, .dram 3 _ => (false, true)
  | 3, .shared _ | 3, .core _ _ | 3, .dram 0 _ => (true, true)
  | 3, .dram 1 _ => (true, false)
  | 4, .shared _ | 4, .core _ _ | 4, .dram _ _ => (true, true)
  | 5, .shared _ | 5, .core _ _ | 5, .dram 0 _ => (true, false)
  | 5, .dram 1 _ => (true, true)
  | _, _ => (false, false)

/-- Register blocks that a firmware component writes, by the megabyte of the address (16 R523). -/
def componentWrites (id a : Nat) : Bool :=
  let k := a / 0x100000
  match id with
  | 1 => k == 0x180
  | 2 => k == 0x100 || a == 0x10100100 || a == 0x1010011C
  | 3 => k == 0x170
  | 5 => k == 0x171 || k == 0x1A0
  | 6 => (decide (0x16200100 ≤ a) && decide (a < 0x16200200)) || (decide (0x16200400 ≤ a) && decide (a < 0x16200700))
  | _ => false

/-- The application cluster's rights on registers (16 R528). -/
def applicationRegs (a : Nat) : Bool × Bool :=
  let k := a / 0x100000
  if k = 0x160 ∨ k = 0x161 ∨ (0x16200200 ≤ a ∧ a < 0x16200400) then (true, true)
  else if k = 0x190 then (true, decide (0x19000100 ≤ a) && decide (a < 0x19000144) || a == 0x19000040)
  else if k = 0x1A0 then (true, decide (0x1A000100 ≤ a))
  else if k = 0x1B0 then (false, false)
  else (true, false)

/-- Read and write rights of an agent at a place (08 R269, 16 R524, R527, R528). The engines of 08 R269 reach no register. -/
def Device.rights (d : Device) (ag : Agent) (a : Nat) : Bool × Bool :=
  let p := d.place a
  match ag, p with
  | _, .unmapped => (false, false)
  | .application, .regs => applicationRegs a
  | .application, .appRegs => (true, true)
  | .headstock, .headstockRom => (true, false)
  | .headstock, .headstockSram | .headstock, .firmwareSram | .headstock, .regs => (true, true)
  | .kernel, .kernelRegs | .kernel, .firmwareSram | .kernel, .regs => (true, true)
  | .maintenance, .regs | .maintenance, .firmwareSram => (true, true)
  | .component id, .regs | .componentDma id, .regs => (componentWrites id.val a, componentWrites id.val a)
  | .component id, .firmwareSram | .component id, .dram 2 _ | .componentDma id, .firmwareSram | .componentDma id, .dram 2 _ =>
      (Config.componentReads id.val a, Config.componentWrites id.val a)
  | .component _, _ | .componentDma _, _ => (false, false)
  | ag, p => classRights (agentClass ag) p

-- Codes.

/-- Which code protects a place: 0 DRAM bursts, 1 shared memory, 2 core memory, 3 other SRAM under SECDED, 4 none. -/
def codeKind : Place → Nat
  | .dram _ _ => 0
  | .shared _ => 1
  | .core _ _ => 2
  | .firmwareSram => 3
  | _ => 4

/-- Bytes of one codeword. -/
def codeSize (kind : Nat) : Nat := if kind = 0 then 32 else 8

/-- A retirement criterion of 13 R416 is met; the first one stands until it takes effect (13 R418). -/
def Device.meet (d : Device) (cause : Nat) : Device :=
  { d with fo := { d.fo with pendingCause := d.fo.pendingCause <|> some cause } }

/-- Payload head of a memory event on DRAM: address and channel (08 R290). -/
def dramPayload (a : Nat) : Nat := a % 2 ^ 48 + channelOf (a - dramBase) * 2 ^ 48

/-- An address recorded in a pair whose valid bit is bit 31 of the high word, unless one stands (08 R277). -/
def Device.recordUe (d : Device) (a src : Nat) (live : Bool) : Device :=
  if d.rdB Reg.MEM_UE_ADDR_HI_valid then d
  else
    ((((d.wr Reg.MEM_UE_ADDR_LO_addr_lo (a % 2 ^ 32)).wr Reg.MEM_UE_ADDR_HI_addr_hi (a / 2 ^ 32)).wr
      Reg.MEM_UE_ADDR_HI_source src).wr Reg.MEM_UE_ADDR_HI_live (b2n live)).wr Reg.MEM_UE_ADDR_HI_valid 1

/-- A corrected codeword is counted (02 R93, R101; 08 R276, R280); src is the source code of the read (08 R290). -/
def Device.countCorrected (d : Device) (a src : Nat) : Device :=
  match d.place a with
  | .core n _ => d.bump (Reg.CORE_MEM_ECC_corrected n) 1
  | .shared x => d.bump (Reg.NE_SHM_ECC_corrected (d.sliceOfShm x)) 1
  | .dram _ x =>
    let c := channelOf x
    let d := d.bump (Reg.MEM_CH_ECC_corrected c) 1
    let m := d.memCh c
    let second := d.sp.time / 1000000000
    let m := if m.ceSecond = second then m else { m with ceSecond := second, ceCount := 0, ceRaised := false }
    let m := { m with ceCount := m.ceCount + 1 }
    let limit := d.rd Reg.MEM_CE_LIMIT_per_second
    if limit ≠ 0 ∧ limit < m.ceCount ∧ ¬ m.ceRaised then
      (d.setMemCh c { m with ceRaised := true }).raise Ev.MEM_CE_RATE (m.ceCount + c * 2 ^ 48 + src * 2 ^ 52)
    else d.setMemCh c m
  | _ => d

/-- An uncorrectable codeword is counted, recorded and reported (02 R94, R101; 08 R277, R279, R290; 13 R416). src is the
source code of the event; live0 says that the reader makes a DRAM error live in TURNING; scrub selects the scrub's event. -/
def Device.countUncorrected (d : Device) (md : Mode) (a src : Nat) (live0 scrub : Bool) : Device :=
  let code := if scrub then Ev.MEM_SCRUB_UNCORRECTABLE else Ev.MEM_UNCORRECTABLE
  match d.place a with
  | .core n x =>
    let d := d.bump (Reg.CORE_MEM_ECC_uncorrected n) 1
    let d := if d.rdB (Reg.CORE_MEM_ECC_ADDR_valid n) then d
      else (d.wr (Reg.CORE_MEM_ECC_ADDR_offset n) x).wr (Reg.CORE_MEM_ECC_ADDR_valid n) 1
    (d.raise code (a + src * 2 ^ 52 + b2n (md == .turning) * 2 ^ 55)).meet 3
  | .shared x =>
    let d := d.bump (Reg.NE_SHM_ECC_uncorrected (d.sliceOfShm x)) 1
    let d := if d.rdB Reg.NE_SHM_ECC_ADDR_valid then d
      else (d.wr Reg.NE_SHM_ECC_ADDR_offset x).wr Reg.NE_SHM_ECC_ADDR_valid 1
    (d.raise code (a + src * 2 ^ 52 + b2n (md == .turning) * 2 ^ 55)).meet 3
  | .dram _ x =>
    let live := live0 && md == .turning
    let d := d.bump (Reg.MEM_CH_ECC_uncorrected (channelOf x)) 1
    let d := d.recordUe a src live
    let d := d.raise code (dramPayload a + src * 2 ^ 52 + b2n live * 2 ^ 55)
    if live0 then d.meet 2 else d
  | .firmwareSram => d.meet 3
  | _ => d

/-- The channel of a DRAM address no longer answers (08 R288). -/
def Device.offlineAt (d : Device) (a : Nat) : Bool :=
  match d.place a with
  | .dram _ x => bitAt (d.rd Reg.MEM_STATUS_offline) (channelOf x)
  | _ => false

/-- Free bytes in place of data that the code could not give back (02 R589, 08 R277). -/
def Device.freeBytes (d : Device) (n : Nat) : List Byte × Device :=
  ((List.range n).map (fun i => Config.freeByte (d.freeCtr + i)), { d with freeCtr := d.freeCtr + n })

/-- Outcome of decoding one codeword that holds errors. -/
inductive CodeResult where
  | clean | corrected | wrong | uncorrectable
  deriving DecidableEq, Repr

/-- Error count that stands for a codeword already found uncorrectable: it stays so until it is replaced whole (08 R277). -/
def deadErrs : Nat := 2 ^ 16

/-- Errors that a code corrects: two symbols of a burst, one bit of a SECDED word (02 R93; 08 R276). -/
def correctable (kind : Nat) : Nat := if kind = 0 then 2 else 1

/-- What the decoder makes of a count of errors (02 R93, R94, R589; 08 R276, R277). Where three or more may be taken for a
correctable pattern, the choice is free. -/
def decodeErrors (kind n free : Nat) : CodeResult :=
  if n = 0 then .clean
  else if deadErrs ≤ n then .uncorrectable
  else if n ≤ correctable kind then .corrected
  else if 3 ≤ n ∧ Config.miscorrects free then .wrong
  else .uncorrectable

/-- The errors of a codeword. -/
def Device.errsAt (d : Device) (cw : Nat) : Nat := mget 0 d.mem.errs cw

/-- The errors of a codeword set. -/
def Device.setErrs (d : Device) (cw n : Nat) : Device := { d with mem := { d.mem with errs := mset 0 d.mem.errs cw n } }

/-- A codeword found uncorrectable by the errors it holds stays uncorrectable: so 08 R277 has it of DRAM bursts, and the model of the
words under SECDED too, whatever further errors arise in them (DESIGN CHOICE, log entry 74). -/
def Device.fixDead (d : Device) (kind cw : Nat) : Device :=
  if correctable kind < d.errsAt cw then d.setErrs cw deadErrs else d

/-- One codeword is read with extra errors on this read only: the data corrected and written back, or found uncorrectable.
Answers whether it is uncorrectable. -/
def Device.readCodeword (d : Device) (md : Mode) (cw extra src : Nat) (live0 scrub : Bool) : Bool × Device :=
  let kind := codeKind (d.place cw)
  if d.offlineAt cw then (true, d.countUncorrected md cw src live0 scrub)
  else
    match decodeErrors kind (d.errsAt cw + extra) d.freeCtr with
    | .clean => (false, d)
    | .corrected => (false, (d.setErrs cw 0).countCorrected cw src)
    | .wrong =>
      let (bs, d) := d.freeBytes (codeSize kind)
      (false, ((d.poke cw bs).setErrs cw 0).countCorrected cw src)
    | .uncorrectable => (true, ({ d with freeCtr := d.freeCtr + 1 }.fixDead kind cw).countUncorrected md cw src live0 scrub)

/-- Errors that arise in memory at a place appear in its first codeword. -/
def Device.injectErrors (d : Device) (a n : Nat) : Device :=
  if n = 0 then d
  else
    let cw := a - a % codeSize (codeKind (d.place a))
    d.setErrs cw (d.errsAt cw + n)

/-- Perturbation slots of a kind that are active (13 R438). -/
def Device.activeSlots (d : Device) (kind : Nat) : List Nat :=
  (List.range 16).filter fun i => d.rd (Reg.PERT_SLOT_STATUS_state i) == 2 && d.rd (Reg.PERT_SLOT_CFG_kind i) == kind

/-- A slot that acts on one event only is spent by it (13 R438). -/
def Device.slotUsed (d : Device) (i : Nat) : Device :=
  if d.rd (Reg.PERT_SLOT_CFG_duration i) = 0 then
    d.wr (Reg.PERT_SLOT_STATUS_state i) (if d.rdB (Reg.PERT_SLOT_CFG_every_turn i) then 1 else 3)
  else d

/-- The channel, slice or core that holds an address (13 R438 kind 5). -/
def Device.memoryUnit (d : Device) (a : Nat) : Nat :=
  match d.place a with
  | .dram _ x => channelOf x
  | .shared x => d.sliceOfShm x
  | .core n _ => n
  | _ => 0

/-- Codewords of a range, in rising order. -/
def codewordsOf (sz a n : Nat) : List Nat :=
  let first := a - a % sz
  if n = 0 then [] else (List.range (ceilDiv (a + n - first) sz)).map fun i => first + i * sz

/-- An active MEM_SYMBOL slot acts on a read of codewords: on those of its memory, or on the first of them when it acts on one event.
The extra errors of this read, by codeword (13 R438 kind 5). -/
def Device.slotErrors (d : Device) (i : Nat) (cws : List Nat) (xs : List (Nat × Nat)) : List (Nat × Nat) × Device :=
  let p := d.rd (Reg.PERT_SLOT_PARAM_param i)
  let n := bitsOf p 6 4
  let mine := cws.filter fun cw => d.memoryUnit cw == bitsOf (d.rd (Reg.PERT_SLOT_TARGET_target i)) 4 0
  let mine := if d.rd (Reg.PERT_SLOT_CFG_duration i) = 0 then mine.take 1 else mine
  if mine = [] then (xs, d)
  else if bitAt p 8 then (xs, forL mine (fun cw d => d.setErrs cw (d.errsAt cw + n)) (d.slotUsed i))
  else (forL mine (fun cw xs => mset 0 xs cw (mget 0 xs cw + n)) xs, d.slotUsed i)

/-- Errors that active MEM_SYMBOL slots put on a read of a memory, by codeword (13 R438 kind 5). -/
def Device.pertMemory (d : Device) (a n : Nat) : List (Nat × Nat) × Device :=
  let kind := codeKind (d.place a)
  let slots := (d.activeSlots 5).filter fun i => bitsOf (d.rd (Reg.PERT_SLOT_PARAM_param i)) 1 0 == kind
  if 3 ≤ kind ∨ slots = [] then ([], d)
  else forL slots (fun i (xs, d) => d.slotErrors i (codewordsOf (codeSize kind) a n) xs) (([] : List (Nat × Nat)), d)

/-- The channel of a DRAM address retrains, and accesses to it wait (08 R288). -/
def Device.retrainingAt (d : Device) (a : Nat) : Bool :=
  match d.place a with
  | .dram _ x => (d.memCh (channelOf x)).retraining
  | _ => false

/-- Some channel is offline or retrains. -/
def Device.channelsAway (d : Device) : Bool := d.rd Reg.MEM_STATUS_offline != 0 || d.memc.chans.any fun e => e.2.retraining

/-- Codewords of a range that hold errors or lie on a channel that is offline or retrains, in rising order. -/
def Device.badCodewords (d : Device) (a n : Nat) : List Nat :=
  let kind := codeKind (d.place a)
  let sz := codeSize kind
  let first := a - a % sz
  if n = 0 then []
  else if kind = 0 ∧ d.channelsAway then
    (codewordsOf sz a n).filter fun cw => d.offlineAt cw || d.retrainingAt cw || d.errsAt cw != 0
  else (d.mem.errs.map Prod.fst).filter fun cw => decide (first ≤ cw) && decide (cw < a + n)

/-- Bytes as an access finds them that comes behind the stores which wait for a retraining (08 R275). -/
def Device.bytesBehind (d : Device) (a n : Nat) : List Byte :=
  forL d.memc.waiting (fun w bs =>
    match w.store with
    | some q => (List.range n).zipWith (fun i b => if w.address ≤ a + i then q.getD (a + i - w.address) b else b) bs
    | none => bs) (d.bytes a n)

/-- An access joins those that wait for a retraining (08 R288). -/
def Device.awaitChannel (d : Device) (w : WaitingAccess) : Device :=
  { d with memc := { d.memc with waiting := d.memc.waiting ++ [w] } }

/-- A checked read of n bytes within one memory: data, whether and where it was first uncorrectable, and the device. Bytes of
an uncorrectable codeword are free (08 R277). Stores that wait for a retraining are seen (08 R275; log entry 75). -/
def Device.readChecked (d : Device) (md : Mode) (ag : Agent) (a n : Nat) : List Byte × Option Nat × Device :=
  let kind := codeKind (d.place a)
  let live0 := ag == .dmaItem || ag == .dmaLoader
  let (extra, d) := d.pertMemory a n
  let sz := codeSize kind
  let cws := d.badCodewords a n
  let cws := if extra = [] then cws else (codewordsOf sz a n).filter fun cw => cws.contains cw || mget 0 extra cw != 0
  let (bad, d) := forL cws (fun cw (bad, d) =>
    let (u, d) := d.readCodeword md cw (mget 0 extra cw) (agentSource ag) live0 false
    (if u then bad ++ [cw] else bad, d)) (([] : List Nat), d)
  let bytes := if cws.isEmpty then d.bytes a n else d.bytesBehind a n
  if bad.isEmpty then (bytes, none, d)
  else
    let (free, d) := d.freeBytes n
    ((List.range n).zipWith (fun i (p : Byte × Byte) =>
      if bad.contains ((a + i) - (a + i) % sz) then p.2 else p.1) (bytes.zip free), bad.head?, d)

/-- A word of a structure inside a unit that 13 R410 protects by SECDED is read with errors: an uncorrectable one meets the
criterion of 13 R416 cause 3, which DEV_RETIRED reports first. -/
def Device.readInside (d : Device) (errors : Nat) : CodeResult × Device :=
  match decodeErrors 3 errors d.freeCtr with
  | .clean => (.clean, d)
  | .corrected => (.corrected, d)
  | .wrong => (.wrong, { d with freeCtr := d.freeCtr + 1 })
  | .uncorrectable => (.uncorrectable, { d with freeCtr := d.freeCtr + 1 }.meet 3)

/-- A byte string cut at the codeword boundaries of its addresses. -/
def cutAt (sz : Nat) : Nat → Nat → List Byte → List (Nat × List Byte)
  | 0, _, _ => []
  | fuel + 1, a, bs =>
    if bs.isEmpty then [] else
    let n := sz - a % sz
    (a, bs.take n) :: cutAt sz fuel (a + n) (bs.drop n)

/-- A checked write: whole codewords are replaced, partial ones merged after correction, and a piece whose codeword is
uncorrectable is dropped (02 R92, R590; 08 R274, R278). A piece for a channel that retrains waits (08 R288). Answers the first
codeword that dropped its piece. -/
def Device.writeChecked (d : Device) (md : Mode) (ag : Agent) (a : Nat) (bs : List Byte) : Option Nat × Device :=
  let kind := codeKind (d.place a)
  let live0 := ag == .dmaItem || ag == .dmaLoader
  let sz := codeSize kind
  if (d.badCodewords a bs.length).isEmpty ∨ kind = 4 then (none, d.poke a bs)
  else
    forL (cutAt sz bs.length a bs) (fun (p, q) (bad, d) =>
      let cw := p - p % sz
      if d.retrainingAt cw then
        (bad, d.awaitChannel { agent := ag, address := p, bytes := q.length, store := some q, errors := 0, waiter := .nobody })
      else if d.offlineAt cw then (bad <|> some cw, d.countUncorrected md cw 5 live0 false)
      else if q.length = sz then (bad, (d.poke p q).setErrs cw 0)
      else
        let (u, d) := d.readCodeword md cw 0 5 live0 false
        if u then (bad <|> some cw, d) else (bad, d.poke p q)) ((none : Option Nat), d)



/-- Access widths and alignment (08 R265). -/
def widthOk (isReg : Bool) (a n : Nat) : Bool :=
  if isReg then n == 4 && a % 4 == 0
  else [1, 2, 4, 8, 16, 32, 64].contains n && a % n == 0

/-- MEM_UNMAPPED for an access (08 R266, R290). -/
def Device.reportUnmapped (d : Device) (ag : Agent) (a : Nat) (write : Bool) : Device :=
  let ch := match d.place a with | .dram _ x => channelOf x | _ => 0
  d.raise Ev.MEM_UNMAPPED (a % 2 ^ 48 + ch * 2 ^ 48 + agentSource ag * 2 ^ 52 + b2n write * 2 ^ 55)

/-- MEM_PROTECTION for an access, recorded unless a record stands (08 R270, R290). -/
def Device.reportProtection (d : Device) (ag : Agent) (a : Nat) (write : Bool) : Device :=
  let (area, ch) := match d.place a with
    | .dram n x => (n, channelOf x)
    | .shared _ => (0xE, 0)
    | .core _ _ => (0xF, 0)
    | _ => (0, 0)
  let d := if d.rdB Reg.MEM_PROT_ADDR_HI_valid then d
    else
      (((((d.wr Reg.MEM_PROT_ADDR_LO_addr_lo (a % 2 ^ 32)).wr Reg.MEM_PROT_ADDR_HI_addr_hi (a / 2 ^ 32)).wr
        Reg.MEM_PROT_ADDR_HI_valid 1).wr Reg.MEM_PROT_INFO_write (b2n write)).wr Reg.MEM_PROT_INFO_area area).wr
        Reg.MEM_PROT_INFO_agent (agentClass ag)
  d.raise Ev.MEM_PROTECTION (a % 2 ^ 48 + ch * 2 ^ 48 + agentClass ag * 2 ^ 52 + b2n write * 2 ^ 55)

-- The event log in the firmware area (13 R411, R415; 08 R267).

/-- The 16 bytes of an event record (13 R411). -/
def EventRec.bytes (e : EventRec) : List Byte :=
  leBytes 2 e.code ++ leBytes 2 e.index ++ leBytes 4 (e.turn % 2 ^ 24 + e.severity * 2 ^ 24 + e.source * 2 ^ 27) ++ leBytes 8 e.payload.toNat

/-- Records that the log holds. -/
def logCap : Nat := 4194300

/-- The 64-byte log header (13 R415). -/
def Events.header (ev : Events) : List Byte :=
  [0x4E, 0x4B, 0x45, 0x4C, 0x01, 0, 0, 0] ++ leBytes 4 logCap ++ leBytes 4 (ev.written % logCap) ++ leBytes 8 ev.written ++
    leBytes 4 ev.newestTurn ++ leBytes 4 ev.lostTotal ++ leBytes 32 0

/-- Bytes of the log are written by the health monitor; the log begins at the base of the firmware area (DESIGN CHOICE, log entry
21), once the areas are placed. -/
def Device.logWrite (d : Device) (md : Mode) (offset : Nat) (bs : List Byte) : Device :=
  if d.rdB Reg.MEM_STATUS_init_done then (d.writeChecked md (.component 4) ((d.area 2).1 + offset) bs).2 else d

/-- The record just counted takes its slot of the ring, and the header follows (13 R415). -/
def Device.storeRecord (d : Device) (md : Mode) (e : EventRec) : Device :=
  (d.logWrite md (64 + 16 * ((d.ev.written - 1) % logCap)) e.bytes).logWrite md 0 d.ev.header

/-- Memory has come up after a cold start: the log is laid out with the records moved so far (13 R415). -/
def Device.layLog (d : Device) (md : Mode) : Device :=
  (d.logWrite md 64 (d.ev.log.reverse.flatMap EventRec.bytes)).logWrite md 0 d.ev.header

-- Accesses of the part's engines under 08 R269.

/-- Rights change at multiples of this size within memory (08 R264, R267). -/
def rightsStep : Nat := 2 ^ 20

/-- An access that breaks the map or 08 R269 is reported (08 R266, R270). -/
def Device.reportRefused (d : Device) (ag : Agent) (a : Nat) (write : Bool) : Device :=
  if d.place a = .unmapped then d.reportUnmapped ag a write else d.reportProtection ag a write

/-- A write of an engine under 08 R269: a part it may not write is dropped and reported (08 R270). -/
def Device.guardedWrite (d : Device) (md : Mode) (ag : Agent) (a : Nat) (bs : List Byte) : Device :=
  forL (cutAt rightsStep bs.length a bs) (fun (p, q) d =>
    if (d.rights ag p).2 then (d.writeChecked md ag p q).2 else d.reportRefused ag p true) d

/-- A read of an engine under 08 R269: a part it may not read is zero and reported (08 R270). Answers the first codeword that was
uncorrectable. -/
def Device.guardedRead (d : Device) (md : Mode) (ag : Agent) (a n : Nat) : List Byte × Option Nat × Device :=
  forL (cutAt rightsStep n a (List.replicate n 0)) (fun (p, z) (bs, bad, d) =>
    if (d.rights ag p).1 then
      let (q, u, d) := d.readChecked md ag p z.length
      (bs ++ q, bad <|> u, d)
    else (bs ++ z, bad, d.reportRefused ag p false)) (([] : List Byte), (none : Option Nat), d)

end Sys2Proof.Machine
end

