-- ==== Sys2Proof/Machine/Operands.lean ====
section
/-! DEFINITION. Number formats as exact values, and the narrowing of values (03 R108 to R113, R118; 02 R97, R592, R593). -/

namespace Sys2Proof.Machine

/-- An exact floating-point value: magnitude × 2^exponent with a sign, an infinity, or a NaN. -/
inductive Num where
  | nan
  | inf (neg : Bool)
  | fin (neg : Bool) (mag : Nat) (x : Int)
  deriving DecidableEq, Repr

/-- A floating-point format: exponent bits, mantissa bits, bias, whether it has infinities, code of the largest finite
magnitude, canonical NaN (03 R108, R118). -/
structure FloatFmt where
  eb : Nat
  mb : Nat
  bias : Nat
  hasInf : Bool
  maxCode : Nat
  nanCode : Nat
  deriving DecidableEq, Repr

def e4m3 : FloatFmt := ⟨4, 3, 7, false, 0x7E, 0x7F⟩
def e5m2 : FloatFmt := ⟨5, 2, 15, true, 0x7B, 0x7F⟩
def bf16 : FloatFmt := ⟨8, 7, 127, true, 0x7F7F, 0x7FC0⟩
def fp16 : FloatFmt := ⟨5, 10, 15, true, 0x7BFF, 0x7E00⟩
def fp32 : FloatFmt := ⟨8, 23, 127, true, 0x7F7FFFFF, 0x7FC00000⟩

/-- The floating-point format of a format code (02 R78, 04 R165); none for an integer format. -/
def floatOf (code : Nat) : Option FloatFmt :=
  match code with
  | 3 => some e4m3 | 4 => some e5m2 | 5 => some bf16 | 6 => some fp16 | 8 => some fp32
  | _ => none

/-- Bits of an element of a format code: 0x01 to 0x08 as in 04 R165, 0x09 INT16 (06 R207). -/
def fmtBits (code : Nat) : Nat :=
  match code with
  | 5 | 6 | 9 => 16
  | 7 | 8 => 32
  | _ => 8

/-- Bytes of an element. -/
def fmtBytes (code : Nat) : Nat := fmtBits code / 8

/-- Least and greatest value of an integer format. -/
def intRange (code : Nat) : Int × Int :=
  match code with
  | 2 => (0, 255)
  | 7 => (-(2 ^ 31 : Int), 2 ^ 31 - 1)
  | 9 => (-32768, 32767)
  | _ => (-128, 127)

/-- The integer that a code of an integer format stands for. -/
def intOf (code w : Nat) : Int := if code = 2 then ((w % 256 : Nat) : Int) else sextOf w (fmtBits code)

/-- Sign bit of a format. -/
def FloatFmt.sign (f : FloatFmt) : Nat := 2 ^ (f.eb + f.mb)

/-- The value of a code (03 R108). -/
def FloatFmt.decode (f : FloatFmt) (w : Nat) : Num :=
  let s := bitAt w (f.eb + f.mb)
  let e := bitsOf w (f.eb + f.mb - 1) f.mb
  let m := w % 2 ^ f.mb
  if e = 2 ^ f.eb - 1 ∧ (f.hasInf ∨ m = 2 ^ f.mb - 1) then (if f.hasInf ∧ m = 0 then .inf s else .nan)
  else if e = 0 then .fin s m (1 - (f.bias : Int) - f.mb)
  else .fin s (2 ^ f.mb + m) ((e : Int) - f.bias - f.mb)

/-- Quotient rounded to nearest, ties to even (03 R113). -/
def rneNat (a b : Nat) : Nat :=
  let q := a / b
  let r := a % b
  if 2 * r < b then q else if b < 2 * r then q + 1 else q + q % 2

/-- num / den × 2^x rounded to an integer magnitude (03 R113). -/
def rneScaled (num den : Nat) (x : Int) : Nat :=
  if 0 ≤ x then rneNat (num * 2 ^ x.toNat) den else rneNat num (den * 2 ^ (-x).toNat)

/-- Floor of log base 2 of num / den, both positive. -/
def lg2Rat (num den : Nat) : Int :=
  let l : Int := (num.log2 : Int) - den.log2
  if 0 ≤ l then (if num < den * 2 ^ l.toNat then l - 1 else l)
  else if num * 2 ^ (-l).toNat < den then l - 1 else l

/-- Code, without sign, of num / den × 2^x rounded to the format (03 R113); a code above maxCode means that the rounded value
exceeds the largest finite magnitude. -/
def FloatFmt.roundMag (f : FloatFmt) (num den : Nat) (x : Int) : Nat :=
  if num = 0 then 0
  else
    let q : Int := max (lg2Rat num den + x) (1 - (f.bias : Int)) - f.mb
    (q + f.mb + f.bias).toNat * 2 ^ f.mb + rneScaled num den (x - q) - 2 ^ f.mb

/-- A code with its sign. -/
def FloatFmt.signed (f : FloatFmt) (neg : Bool) (code : Nat) : Nat := b2n neg * f.sign + code

/-- Code of the infinity of a sign, or of the largest finite value where the format has none: so 02 R593 has it of a finite value
beyond the range of FP8 E4M3, and the model of an infinity too (DESIGN CHOICE, log entry 74). -/
def FloatFmt.infCode (f : FloatFmt) (neg : Bool) : Nat := f.signed neg (if f.hasInf then f.maxCode + 1 else f.maxCode)

/-- A value num / den × 2^x of a sign in a format, as the vector unit converts it (02 R593). -/
def FloatFmt.ofRat (f : FloatFmt) (neg : Bool) (num den : Nat) (x : Int) : Nat :=
  let c := f.roundMag num den x
  if f.maxCode < c then f.infCode neg else f.signed neg c

/-- A value in a format, as the vector unit converts it (02 R593). -/
def FloatFmt.encode (f : FloatFmt) (v : Num) : Nat :=
  match v with
  | .nan => f.nanCode
  | .inf s => f.infCode s
  | .fin s m x => f.ofRat s m 1 x

/-- Signed magnitude at an exponent not above the value's own. -/
def signedAt (neg : Bool) (mag : Nat) (x lo : Int) : Int :=
  let m : Int := (mag * 2 ^ (x - lo).toNat : Nat)
  if neg then -m else m

/-- Exact sum, with the signs of IEEE 754. -/
def Num.add (a b : Num) : Num :=
  match a, b with
  | .nan, _ | _, .nan => .nan
  | .inf s, .inf t => if s = t then .inf s else .nan
  | .inf s, _ => .inf s
  | _, .inf t => .inf t
  | .fin s m x, .fin t n y =>
    let lo := min x y
    let v := signedAt s m x lo + signedAt t n y lo
    if v = 0 then .fin (s && t) 0 lo else .fin (decide (v < 0)) v.natAbs lo

/-- The value with its sign changed. -/
def Num.neg : Num → Num
  | .nan => .nan
  | .inf s => .inf (!s)
  | .fin s m x => .fin (!s) m x

/-- Exact product, with the signs of IEEE 754. -/
def Num.mul (a b : Num) : Num :=
  match a, b with
  | .nan, _ | _, .nan => .nan
  | .inf s, .inf t => .inf (s != t)
  | .inf s, .fin t n _ => if n = 0 then .nan else .inf (s != t)
  | .fin s m _, .inf t => if m = 0 then .nan else .inf (s != t)
  | .fin s m x, .fin t n y => .fin (s != t) (m * n) (x + y)

/-- Strict order of two values that are not NaN, +0 equal to −0 (02 R594). -/
def Num.lt (a b : Num) : Bool :=
  match a, b with
  | .nan, _ | _, .nan => false
  | .inf s, .inf t => s && !t
  | .inf s, _ => s
  | _, .inf t => !t
  | .fin s m x, .fin t n y => decide (signedAt s m x (min x y) < signedAt t n y (min x y))

def Num.isNan (a : Num) : Bool := a == .nan

/-- Times a power of two. -/
def Num.scale (a : Num) (k : Int) : Num :=
  match a with
  | .fin s m x => .fin s m (x + k)
  | v => v

/-- The exact value of an integer. -/
def Num.ofInt (i : Int) : Num := .fin (decide (i < 0)) i.natAbs 0

/-- A finite value rounded to an integer (03 R113). -/
def roundToInt (neg : Bool) (mag : Nat) (x : Int) : Int :=
  let n : Int := rneScaled mag 1 x
  if neg then -n else n

/-- A value in an integer format, as the vector unit converts it (02 R592, R593). -/
def intOfNum (code : Nat) (v : Num) : Int :=
  let (lo, hi) := intRange code
  match v with
  | .nan => 0
  | .inf s => if s then lo else hi
  | .fin s m x => clampInt lo hi (roundToInt s m x)

/-- The value of a code of any format; an integer's value is exact. -/
def numOf (code w : Nat) : Num :=
  match floatOf code with
  | some f => f.decode w
  | none => .ofInt (intOf code w)

/-- A value stored in a format, as the vector unit does (02 R592, R593). -/
def codeOf (code : Nat) (v : Num) : Nat :=
  match floatOf code with
  | some f => f.encode v
  | none => tcOf (intOfNum code v) (fmtBits code)

/-- Element number i of a byte string in a format. -/
def elemAt (code : Nat) (bs : List Byte) (i : Nat) : Nat := fieldOf bs (i * fmtBytes code) (fmtBytes code)

/-- A value rounded to FP32 and read back. -/
def toFp32 (v : Num) : Num := fp32.decode (fp32.encode v)

end Sys2Proof.Machine
end

