-- ==== Sys2Proof/Machine/Quant.lean ====
section
/-! DEFINITION. The requantisation record, the requantiser and the clipped-share statistics (03 R111 to R119, R130 to R138). -/

namespace Sys2Proof.Machine

/-- Header of a requantisation record (03 R114), as read or as corrected. -/
structure QHead where
  perChannel : Bool
  relu : Bool
  countStats : Bool
  tensor : Nat
  aZero : Int
  outZero : Int
  clampLo : Int
  clampHi : Int
  deriving DecidableEq, Repr

/-- Channel entry of a requantisation record (03 R115). -/
structure QEntry where
  bias : Nat
  mult : Nat
  shift : Nat
  bZero : Int
  deriving DecidableEq, Repr

/-- Signed 16-bit field of a record. -/
def sfield (bs : List Byte) (o : Nat) : Int := sextOf (fieldOf bs o 2) 16

/-- Header fields of 64 bytes (03 R114); reserved bits are ignored (00 R10). -/
def readHead (bs : List Byte) : QHead :=
  let fl := fieldOf bs 1 1
  { perChannel := bitAt fl 0, relu := bitAt fl 1, countStats := bitAt fl 2, tensor := fieldOf bs 2 2 % 1024
    aZero := sfield bs 4, outZero := sfield bs 6, clampLo := sfield bs 8, clampHi := sfield bs 10 }

/-- Entry fields of 16 bytes (03 R115). -/
def readEntry (bs : List Byte) : QEntry :=
  { bias := fieldOf bs 0 4, mult := fieldOf bs 4 4, shift := fieldOf bs 8 1, bZero := sfield bs 10 }

/-- Legal range of a zero point by format code; only 0 where 03 R110 allows none. -/
def zeroRange (code : Nat) : Int × Int :=
  match code with
  | 1 => (-128, 127)
  | 2 => (0, 255)
  | _ => (0, 0)

/-- How a record is used: INT32 or FP32 accumulators, output format, legal ranges of a_zero and b_zero. -/
structure QUse where
  int : Bool
  out : Nat
  aRange : Int × Int
  bRange : Int × Int
  deriving DecidableEq, Repr

/-- The ranges of a vector requantisation, which subtracts no zero point: every 16-bit value. -/
def anyZero : Int × Int := (-32768, 32767)

/-- A value within a range. -/
def within (r : Int × Int) (v : Int) : Bool := decide (r.1 ≤ v) && decide (v ≤ r.2)

/-- A value limited to a range. -/
def limit (r : Int × Int) (v : Int) : Int := clampInt r.1 r.2 v

/-- Legal range of the activation clamps (03 R114, R116). -/
def clampRange (out : Nat) : Int × Int := if out = 1 ∨ out = 2 then intRange out else (0, 0)

/-- A header that holds only legal values (03 R111, R114, R116); version and flags are judged by the caller at load, and are no
out-of-range values of 03 R119 at run time, whose steps do not name them (DESIGN CHOICE, log entry 74). -/
def QHead.legal (h : QHead) (u : QUse) : Bool :=
  within u.aRange h.aZero && within (zeroRange u.out) h.outZero && within (clampRange u.out) h.clampLo &&
    within (clampRange u.out) h.clampHi && decide (h.clampLo ≤ h.clampHi)

/-- An entry that holds only legal values (03 R111, R115). -/
def QEntry.legal (e : QEntry) (u : QUse) : Bool :=
  within u.bRange e.bZero && decide (e.shift ≤ (if u.int then 31 else 0)) &&
    (u.int || bitsOf e.mult 30 23 != 255)

/-- The corrections of 03 R119 to a header. -/
def QHead.fix (h : QHead) (u : QUse) : QHead :=
  let lo := limit (clampRange u.out) h.clampLo
  let hi := limit (clampRange u.out) h.clampHi
  { h with aZero := limit u.aRange h.aZero, outZero := limit (zeroRange u.out) h.outZero, clampLo := lo, clampHi := max lo hi }

/-- The corrections of 03 R119 to an entry: a non-finite FP32 scale counts as 0. -/
def QEntry.fix (e : QEntry) (u : QUse) : QEntry :=
  { e with
    bZero := limit u.bRange e.bZero
    shift := min e.shift (if u.int then 31 else 0)
    mult := if ¬ u.int ∧ bitsOf e.mult 30 23 = 255 then 0 else e.mult }

/-- One requantised value: its code, the end at which it counts as clipped, and whether it is a NaN result. -/
structure Requant where
  code : Nat
  low : Bool
  high : Bool
  nan : Bool
  deriving DecidableEq, Repr

/-- The scaled value v of 03 R117, exact, from a final accumulator and the replay exponent e. -/
def scaled (en : QEntry) (acc : Accum) (e : Nat) : Num :=
  match acc with
  | .int a =>
    let t : Int := a * 2 ^ e + sextOf en.bias 32
    .fin (decide (t < 0)) (t.natAbs * en.mult) (-(31 + (en.shift : Int)))
  | .fp w _ =>
    (toFp32 (((fp32.decode w.toNat).scale e).add (fp32.decode en.bias))).mul (fp32.decode en.mult)

/-- The requantiser (03 R117, R118) after the corrections of 03 R119. -/
def requantise (h : QHead) (en : QEntry) (out : Nat) (acc : Accum) (e : Nat) : Requant :=
  let v := scaled en acc e
  match floatOf out with
  | none =>
    let (lo, hi) := intRange out
    let fin (r : Int) : Requant :=
      let low := decide (r < lo)
      let high := decide (hi < r)
      { code := tcOf (min (max (clampInt lo hi r) h.clampLo) h.clampHi) 8, low, high, nan := false }
    match v with
    | .nan => { code := tcOf h.outZero 8, low := false, high := true, nan := true }
    | .inf s => fin (if s then lo - 1 else hi + 1)
    | .fin s m x => fin (roundToInt s m x + h.outZero)
  | some f =>
    let relu (c : Nat) : Nat := if h.relu ∧ f.sign ≤ c then 0 else c
    match v with
    | .nan => { code := f.nanCode, low := false, high := false, nan := true }
    | .inf s => { code := relu (f.signed s f.maxCode), low := s, high := !s, nan := false }
    | .fin s m x =>
      let c := f.roundMag m 1 x
      let high := decide (f.maxCode < c)
      { code := relu (f.signed s (min c f.maxCode)), low := high && s, high := high && !s, nan := false }

-- Statistics (03 R130 to R138).

/-- A value is counted towards a tensor (03 R117, R130, R138): three saturating counters that hold together once the produced
counter saturates, which is when a value finds it at its greatest; that value's clip does not count any more (DESIGN CHOICE, log
entry 74). -/
def Device.countValue (d : Device) (t : Nat) (produced : Bool) (low high nan : Bool) : Device :=
  let x := d.tensor t
  let d := if nan ∧ ¬ x.nan then d.raise Ev.QUANT_NAN_OUTPUT t else d
  let x := { x with nan := x.nan || nan }
  if x.sat then d.setTensor t x
  else if produced ∧ x.produced = 2 ^ 32 - 1 then
    (d.setTensor t { x with sat := true }).raise Ev.QUANT_COUNT_SATURATED t
  else d.setTensor t { x with
    produced := x.produced + b2n produced, lo := satAdd 32 x.lo (b2n low), hi := satAdd 32 x.hi (b2n high) }

/-- One requantised value is counted when its record says so (03 R114 count_stats). -/
def Device.countRequant (d : Device) (h : QHead) (q : Requant) : Device :=
  if h.countStats then d.countValue h.tensor true q.low q.high q.nan else d

/-- The threshold of a tensor that takes effect at the next index 0, or the one in use (03 R134). -/
def TensorSt.latched (x : TensorSt) : TensorSt :=
  { x with threshold := x.thresholdShadow.getD x.threshold, thresholdShadow := none }

/-- A tensor enters or leaves drift: its event, and the flag of the selected tensor (03 R133, R138). -/
def Device.noteDrift (d : Device) (t ppm : Nat) (on : Bool) : Device :=
  let d := if d.rd Reg.NE_QSTAT_SEL_tensor = t then d.wr Reg.NE_QSTAT_PPM_drift (b2n on) else d
  d.raise (if on then Ev.QUANT_DRIFT else Ev.QUANT_DRIFT_CLEARED) (t + (ppm % 2 ^ 20) * 65536)

/-- One tensor's counters move to its snapshot, and its drift is judged; a threshold of 0 disables the comparison (03 R132,
R133). -/
def Device.snapshotTensor (d : Device) (t : Nat) (x : TensorSt) : Device :=
  let least := max 1 (d.rd Reg.NE_QCFG_min_values * 64)
  let counted := decide (least ≤ x.produced) && !x.sat
  let ppm := if counted then (x.lo + x.hi) * 1000000 / x.produced else 0
  let turns := max 1 (d.rd Reg.NE_QCFG_drift_turns)
  let y := { x with
    produced := 0, lo := 0, hi := 0, nan := false, sat := false
    snapProduced := x.produced, snapLo := x.lo, snapHi := x.hi, snapNan := x.nan, snapCounted := counted, snapPpm := ppm }
  if ¬ counted ∨ x.threshold = 0 then d.setTensor t y
  else
    let run := if decide (x.threshold < ppm) = x.drift then 0 else x.run + 1
    if turns ≤ run then (d.setTensor t { y with drift := !x.drift, run := 0 }).noteDrift t ppm (!x.drift)
    else d.setTensor t { y with run }

/-- The snapshot of index 0 over every tensor (03 R132, R133). -/
def Device.snapshot (d : Device) (ended : Nat) : Device :=
  let d := forL d.quant.tensors (fun (t, x) d => d.snapshotTensor t x) d
  { d with quant := { d.quant with
    snapTurn := ended, driftInReplay := d.quant.driftInReplay || d.quant.tensors.any fun p => p.2.drift } }

/-- Pending thresholds take effect at index 0 (03 R135: next turn). -/
def Device.latchThresholds (d : Device) : Device :=
  forL d.quant.tensors (fun (t, x) d => d.setTensor t x.latched) d

/-- A tensor's snapshot is latched into the statistics registers (03 R135, R136). -/
def Device.latchStats (d : Device) (v : Nat) : Device :=
  let t := v % 1024
  let x := d.tensor t
  ((((((((d.wr Reg.NE_QSTAT_SEL_tensor t).wr Reg.NE_QSTAT_TURN_turn d.quant.snapTurn).wr
    Reg.NE_QSTAT_PRODUCED_produced x.snapProduced).wr Reg.NE_QSTAT_CLIP_LO_clipped_lo x.snapLo).wr
    Reg.NE_QSTAT_CLIP_HI_clipped_hi x.snapHi).wr Reg.NE_QSTAT_PPM_share_ppm x.snapPpm).wr
    Reg.NE_QSTAT_PPM_counted (b2n x.snapCounted)).wr Reg.NE_QSTAT_PPM_nan_seen (b2n x.snapNan)).wr Reg.NE_QSTAT_PPM_drift
    (b2n x.drift)

/-- NE_QSTAT_SEL_WRITE (03 R135, R136): the selected tensor's snapshot is latched. -/
def execNeQstatSelWrite (value : Word) (s : State) : Host.Outcome State Fault Refusal :=
  nextD s (s.dev.latchStats value.toNat)

/-- A threshold written for the selected tensor (03 R135, R137). -/
def Device.writeThreshold (d : Device) (v : Nat) : Device :=
  let t := d.rd Reg.NE_QSTAT_SEL_tensor
  d.setTensor t { d.tensor t with thresholdShadow := some (min (v % 2 ^ 20) 1000000) }

/-- NE_QTHR_WRITE (03 R134, R135, R137): the threshold waits for the next turn. -/
def execNeQthrWrite (value : Word) (s : State) : Host.Outcome State Fault Refusal :=
  nextD s (s.dev.writeThreshold value.toNat)

/-- Tensors' thresholds at plan activation (03 R134): 0 takes the faceplate's default, drift states and pending writes go. -/
def Device.loadThresholds (d : Device) (table : List Byte) (dflt : Nat) : Device :=
  let d := d.wr Reg.NE_QSTAT_PPM_drift 0
  forN 1024 (fun t d =>
    let v := fieldOf table (16 * t + 4) 4
    d.setTensor t { d.tensor t with
      threshold := min (if v = 0 then dflt else v) 1000000, thresholdShadow := none, drift := false, run := 0 }) d

end Sys2Proof.Machine
end

