-- ==== Sys2Proof/Machine/Crypto.lean ====
section
/-! DEFINITION. SHAKE256 (15 R483 names it; its definition is FIPS 202's, log entry 9) and the CRCs the rules use (16 R553,
R555). -/

namespace Sys2Proof.Machine

-- The permutation under SHAKE256, on 25 lanes of 64 bits; the lane in column x of row y stands at x + 5y.

/-- A lane turned left by fewer than 64 places: what leaves it at the top comes in at the bottom. -/
def turnLeft (v k : Nat) : Nat :=
  let w := v * 2 ^ k
  w % 2 ^ 64 ||| w / 2 ^ 64

/-- Every lane takes the parities of the column before its own and, turned by one, of the column after it. -/
def mixColumns (a : List Nat) : List Nat :=
  let parity (x : Nat) : Nat := forN 5 (fun y p => p ^^^ a.getD (x % 5 + 5 * y) 0) 0
  a.zipIdx.map fun (v, i) => v ^^^ parity (i + 4) ^^^ turnLeft (parity (i + 1)) 1

/-- Where the lane of column x and row y goes: to column y and row 2x + 3y. -/
def nextPlace (p : Nat × Nat) : Nat × Nat := (p.2, (2 * p.1 + 3 * p.2) % 5)

/-- The lanes change places along the walk that leads from column 1 of row 0 through all of them but the first; the t-th lane on it
is turned by the t-th triangular number. -/
def moveLanes (a : List Nat) : List Nat :=
  (forL (List.range 24) (fun t (p, b) =>
    let q := nextPlace p
    (q, b.set (q.1 + 5 * q.2) (turnLeft (a.getD (p.1 + 5 * p.2) 0) ((t + 1) * (t + 2) / 2 % 64)))) ((1, 0), a)).2

/-- Every lane takes what stands in the second lane after it in its row where the first one has a zero. -/
def mixRows (a : List Nat) : List Nat :=
  a.zipIdx.map fun (v, i) =>
    let row (k : Nat) : Nat := a.getD (i - i % 5 + (i + k) % 5) 0
    v ^^^ ((2 ^ 64 - 1) ^^^ row 1) &&& row 2

/-- The register whose bits make each round differ, stepped: modulo x^8 + x^6 + x^5 + x^4 + 1. -/
def stepMarker (r : Nat) : Nat := if r < 128 then 2 * r else (2 * r) ^^^ 0x171

/-- The first lane marked by a round: the register's next seven outputs go to its places 2^j - 1. -/
def markFirst (r v : Nat) : Nat × Nat :=
  forL (List.range 7) (fun j (r, v) => (stepMarker r, if r % 2 = 1 then v ^^^ 2 ^ (2 ^ j - 1) else v)) (r, v)

/-- The permutation: 24 rounds, with the register begun at 1. -/
def permute (a : List Nat) : List Nat :=
  (forN 24 (fun _ (r, a) =>
    let b := mixRows (moveLanes (mixColumns a))
    let (r, v) := markFirst r (b.getD 0 0)
    (r, b.set 0 v)) (1, a)).2

/-- Bytes that SHAKE256 takes in, and may give out, with one permutation. -/
def shakeRate : Nat := 136

/-- Bytes of input on which SHAKE256 works: the message, the mark of the function, zeros, and the closing bit in the last byte. -/
def shakeInput (bs : List Byte) : List Byte :=
  let fill := List.replicate (shakeRate - 1 - bs.length % shakeRate) (0 : Byte)
  let all := bs ++ [0x1F] ++ fill
  all.set (all.length - 1) (all.getD (all.length - 1) 0 ||| 0x80)

/-- The blocks of an input are taken in, one after another. -/
def takeIn (bs : List Byte) : List Nat :=
  forL (List.range (bs.length / shakeRate)) (fun k a =>
    permute (a.zipIdx.map fun (v, i) => if i < 17 then v ^^^ fieldOf bs (shakeRate * k + 8 * i) 8 else v)) (List.replicate 25 0)

/-- SHAKE256 with n bytes of output, at most one block of 136. -/
def shakeN (n : Nat) (bs : List Byte) : List Byte := sliceOf ((takeIn (shakeInput bs)).flatMap (leBytes 8)) 0 (min n shakeRate)

/-- SHAKE256 with the 64 bytes of output that every digest of the spec takes. -/
def shake256 (bs : List Byte) : List Byte := shakeN 64 bs

-- Cyclic redundancy checks.

/-- One step of a reflected CRC. -/
def crcStep (poly c : Nat) : Nat := if c % 2 = 1 then (c / 2) ^^^ poly else c / 2

/-- CRC-32 of IEEE 802.3 (reflected polynomial 0xEDB88320, initial value and final inversion all ones). -/
def crc32 (bs : List Byte) : Nat :=
  (forL bs (fun b c => forN 8 (fun _ c => crcStep 0xEDB88320 c) (c ^^^ b.toNat)) (2 ^ 32 - 1)) ^^^ (2 ^ 32 - 1)

/-- One step of CRC-16 with polynomial 0x1021, most significant bit first. -/
def crc16Step (c : Nat) : Nat := if 2 ^ 15 ≤ c then ((c * 2) % 2 ^ 16) ^^^ 0x1021 else c * 2

/-- CRC-16 with polynomial 0x1021 and initial value 0xFFFF. -/
def crc16 (bs : List Byte) : Nat := forL bs (fun b c => forN 8 (fun _ c => crc16Step c) (c ^^^ (b.toNat * 256))) 0xFFFF

end Sys2Proof.Machine
end

