-- ==== Sys2Proof/Machine/CameraOps.lean ====
section
/-! DEFINITION. Streams, frames and frame records, as the sequencer, the DMA channels and the camera commands use them (09). -/

namespace Sys2Proof.Machine

/-- Addresses of a stream's configuration words in the order of `StreamSt.cfg`: CFG, SIZE, BLACK, TIME, EMB, BUF_LO, BUF_HI,
BUF_CFG, REC_LO, REC_HI (09 R323). -/
def streamWord (s k : Nat) : Nat := 0x16002000 + 0x40 * s + 4 * k

/-- The committed word at a stream's configuration address, from its fields' active copies. -/
def Device.streamCommitted (d : Device) (s : Nat) : List Word :=
  let w (fs : List Fld) : Word := BitVec.ofNat 32 ((fs.map fun f => d.rd f * 2 ^ f.lo).sum)
  [ w [Reg.CSI_STREAM_CFG_enable s, Reg.CSI_STREAM_CFG_receiver s, Reg.CSI_STREAM_CFG_vc s, Reg.CSI_STREAM_CFG_emb_en s,
      Reg.CSI_STREAM_CFG_data_type s, Reg.CSI_STREAM_CFG_bpp s, Reg.CSI_STREAM_CFG_route s,
      Reg.CSI_STREAM_CFG_crc_action s, Reg.CSI_STREAM_CFG_lost_turns s],
    w [Reg.CSI_STREAM_SIZE_width s, Reg.CSI_STREAM_SIZE_height s],
    w [Reg.CSI_STREAM_BLACK_black_level s],
    w [Reg.CSI_STREAM_TIME_ts_offset s, Reg.CSI_STREAM_TIME_stale_limit s],
    w [Reg.CSI_STREAM_EMB_emb_store s, Reg.CSI_STREAM_EMB_unpack s, Reg.CSI_STREAM_EMB_epoch_line s,
      Reg.CSI_STREAM_EMB_epoch_byte s, Reg.CSI_STREAM_EMB_epoch_width s, Reg.CSI_STREAM_EMB_epoch_en s],
    w [Reg.CSI_STREAM_BUF_LO_base_lo s], w [Reg.CSI_STREAM_BUF_HI_base_hi s],
    w [Reg.CSI_STREAM_BUF_CFG_pitch s, Reg.CSI_STREAM_BUF_CFG_slots s, Reg.CSI_STREAM_BUF_CFG_ring_lines s],
    w [Reg.CSI_STREAM_REC_LO_rec_lo s], w [Reg.CSI_STREAM_REC_HI_rec_hi s] ]

/-- Bits hi:lo of configuration word k in use by a stream (09 R294). -/
def StreamSt.f (st : StreamSt) (k hi lo : Nat) : Nat := bitsOf (st.cfg.getD k 0).toNat hi lo

/-- Fields of the configuration in use. -/
def StreamSt.enabled (st : StreamSt) : Bool := st.f 0 31 31 == 1
def StreamSt.receiver (st : StreamSt) : Nat := st.f 0 30 28
def StreamSt.vc (st : StreamSt) : Nat := st.f 0 27 23
def StreamSt.embEn (st : StreamSt) : Bool := st.f 0 22 22 == 1
def StreamSt.dataType (st : StreamSt) : Nat := st.f 0 21 16
def StreamSt.bppCode (st : StreamSt) : Nat := st.f 0 15 12
def StreamSt.route (st : StreamSt) : Nat := st.f 0 11 9
def StreamSt.crcAction (st : StreamSt) : Bool := st.f 0 8 8 == 1
def StreamSt.lostTurns (st : StreamSt) : Nat := st.f 0 7 4
def StreamSt.width (st : StreamSt) : Nat := st.f 1 31 16
def StreamSt.height (st : StreamSt) : Nat := st.f 1 15 0
def StreamSt.black (st : StreamSt) : Nat := st.f 2 23 0
def StreamSt.tsOffset (st : StreamSt) : Nat := st.f 3 31 16
def StreamSt.staleLimit (st : StreamSt) : Nat := st.f 3 15 0
def StreamSt.embStore (st : StreamSt) : Nat := st.f 4 30 28
def StreamSt.unpack (st : StreamSt) : Nat := st.f 4 27 26
def StreamSt.epochLine (st : StreamSt) : Nat := st.f 4 25 24
def StreamSt.epochByte (st : StreamSt) : Nat := st.f 4 23 12
def StreamSt.epochWidth (st : StreamSt) : Nat := st.f 4 11 11
def StreamSt.epochEn (st : StreamSt) : Bool := st.f 4 10 10 == 1
def StreamSt.bufBase (st : StreamSt) : Nat := st.f 5 31 0 + st.f 6 15 0 * 2 ^ 32
def StreamSt.pitch (st : StreamSt) : Nat := st.f 7 31 18 * 64
def StreamSt.slots (st : StreamSt) : Nat := st.f 7 17 16 + 1
def StreamSt.ringLines (st : StreamSt) : Nat := st.f 7 13 0
def StreamSt.recBase (st : StreamSt) : Nat := st.f 8 31 0 + st.f 9 15 0 * 2 ^ 32

/-- Bits per pixel of a bpp code (09 R323); none for an unlisted code. -/
def bppBits (code : Nat) : Option Nat :=
  match code with
  | 0 => some 8 | 1 => some 10 | 2 => some 12 | 3 => some 14 | 4 => some 16 | 5 => some 20 | 6 => some 24
  | _ => none

/-- Bits per pixel in use. -/
def StreamSt.bits (st : StreamSt) : Nat := (bppBits st.bppCode).getD 8

/-- Bytes of a stored pixel in bypass (09 R300). -/
def pixelBytes (bits : Nat) : Nat := if bits ≤ 8 then 1 else if bits ≤ 16 then 2 else 4

/-- Rows of a buffer: ring_lines, or the height when that is 0 (09 R299). -/
def bufRows (ring height : Nat) : Nat := if ring = 0 then height else ring

/-- Frame marks (09 R307). -/
def fmShort : Nat := 1
def fmLong : Nat := 2
def fmCrc : Nat := 4
def fmHdrCorrected : Nat := 8
def fmHdrLost : Nat := 16
def fmLineLength : Nat := 32
def fmNoFe : Nat := 64
def fmFrameNumber : Nat := 128
def fmOverflow : Nat := 256
def fmStale : Nat := 512
def fmNoFrame : Nat := 1024
def fmEpochLag : Nat := 2048
def fmEpochAssumed : Nat := 4096

/-- The frame of an ordinal in the frame window of a turn, with which a line wait binds (01 R39 to R41). -/
def StreamSt.frameAt (st : StreamSt) (turn ord : Nat) : Option Frame :=
  st.frames.find? fun f => f.turn == turn && f.ordinal == ord && !f.excess

/-- A frame of a stream changed. -/
def StreamSt.updFrame (st : StreamSt) (f : Frame) (g : Frame → Frame) : StreamSt :=
  { st with frames := st.frames.map fun x => if x.id = f.id then g x else x }

/-- The stream with the configuration that a frame of it took at its Frame Start (09 R294). -/
def StreamSt.during (st : StreamSt) (f : Frame) : StreamSt := { st with cfg := f.cfg }

/-- A stream with its committed configuration, as it stands before its next Frame Start (09 R294). -/
def Device.committed (d : Device) (s : Nat) : StreamSt := { d.stream s with cfg := d.streamCommitted s }

/-- A stream with the configuration in use, or the committed one while it has none that enables it: before its first Frame Start, and
before the first one after it was disabled (09 R294; log entry 80). -/
def Device.inUse (d : Device) (s : Nat) : StreamSt := if (d.stream s).enabled then d.stream s else d.committed s

/-- The frame of a stream with an id, as it stands now. -/
def Device.frameOf (d : Device) (s id : Nat) : Option Frame := (d.stream s).frames.find? fun f => f.id == id

/-- The frame that is open, if one is. -/
def StreamSt.openNow (st : StreamSt) : Option Frame := st.frames.find? fun f => f.endAt.isNone

/-- The oldest frame that is not complete: frames complete in their order. -/
def StreamSt.pathFrame (st : StreamSt) : Option Frame := st.frames.reverse.find? fun f => !f.complete

/-- A write by the sensor front end (08 R269: an engine); errors are reported as for any write. -/
def Device.engineWrite (d : Device) (md : Mode) (a : Nat) (bs : List Byte) : Device := d.guardedWrite md .engine a bs

/-- The frame of a stream that completed last. -/
def StreamSt.lastComplete (st : StreamSt) : Option Frame := st.frames.find? fun f => f.complete

/-- Mark bits written into a frame's record after its completion, as one 2-byte write (09 R308, R312); those of the latest completed
frame show in the stream's status (09 R323). -/
def Device.writeFrameMarks (d : Device) (md : Mode) (s : Nat) (f : Frame) : Device :=
  if f.complete then
    let d := d.engineWrite md (((d.stream s).during f).recBase + f.ordinal * 64 + 6) (leBytes 2 f.marks)
    if (d.stream s).lastComplete.map Frame.id = some f.id then d.wr (Reg.CSI_STREAM_STATUS_last_marks s) (f.marks % 2 ^ 13) else d
  else d

/-- The record of a wait that was met with NO_FRAME (09 R309). -/
def noFrameRecord (turn ord : Nat) : List Byte :=
  leBytes 4 turn ++ leBytes 1 ord ++ leBytes 1 2 ++ leBytes 2 fmNoFrame ++ leBytes 56 0

/-- Mean interval between accepted lines in ps; 0 with fewer than two lines (09 R307). -/
def Frame.linePeriod (f : Frame) : Nat :=
  if f.linesReceived < 2 then 0 else (f.lastLineAt - f.firstLineAt) * 1000 / (f.linesReceived - 1)

/-- Bytes 16 to 63 of a frame record (09 R307). -/
def Frame.recordTail (f : Frame) : List Byte :=
  leBytes 8 (f.endAt.getD 0) ++ leBytes 2 f.linesReceived ++ leBytes 2 f.linesFilled ++ leBytes 2 f.linesDiscarded ++
    leBytes 2 f.number ++ leBytes 2 (f.epoch.getD 0) ++ leBytes 2 f.expectedEpoch ++ leBytes 2 (min f.crcErrors 65535) ++
    leBytes 1 (min f.hdrCorrected 255) ++ leBytes 1 0 ++ leBytes 4 f.linePeriod ++ leBytes 20 0

/-- Bytes 0 to 15 of a frame record (09 R307). -/
def Frame.recordHead (f : Frame) (state : Nat) : List Byte :=
  leBytes 4 f.turn ++ leBytes 1 f.ordinal ++ leBytes 1 state ++ leBytes 2 f.marks ++ leBytes 8 f.capture

/-- The whole record of a frame. -/
def Frame.record (f : Frame) : List Byte := f.recordHead (if f.complete then 2 else 1) ++ f.recordTail

/-- Payload of a camera event (09 R324). -/
def camPayload (stream rx vc content : Nat) : Nat :=
  stream % 256 + (rx % 256) * 256 + (vc % 256) * 65536 + content * 2 ^ 32

/-- A camera event of a stream, on the receiver and virtual channel that it uses. -/
def Device.raiseCam (d : Device) (code s : Nat) (content : Nat) : Device :=
  d.raise code (camPayload s (d.inUse s).receiver (d.inUse s).vc content)

/-- A camera event of a frame, on the receiver and virtual channel of its Frame Start (09 R294, R324). -/
def Device.raiseFrame (d : Device) (code s : Nat) (f : Frame) (content : Nat) : Device :=
  let st := (d.stream s).during f
  d.raise code (camPayload s st.receiver st.vc content)

/-- A frame buffer: base, bytes of one slot, number of slots; the black slot follows them (09 R299). -/
structure Buf where
  base : Nat
  slotBytes : Nat
  slots : Nat
  deriving DecidableEq, Repr

/-- Streams of a context, by exposure (10 R325). -/
def Device.ctxStreams (d : Device) (p x : Nat) : List Nat :=
  [d.rd (Reg.ISP_C_CFG_stream0 p x), d.rd (Reg.ISP_C_CFG_stream1 p x), d.rd (Reg.ISP_C_CFG_stream2 p x)].take
    (d.rd (Reg.ISP_C_CFG_exposures p x) + 1)

/-- Lead stream of a context (10 R325). -/
def Device.leadOf (d : Device) (p x : Nat) : Nat :=
  (d.ctxStreams p x).getD (d.rd (Reg.ISP_C_CFG_lead p x)) 0

/-- A context is enabled and valid (10 ISP_PpCx_STATUS.active). -/
def Device.ctxActive (d : Device) (p x : Nat) : Bool := d.rdB (Reg.ISP_C_STATUS_active p x)

/-- Buffer of tap t of a context (10 R326). -/
def Device.tapBuf (d : Device) (p x t height : Nat) : Buf :=
  { base := d.rd (Reg.ISP_T_BUF_LO_base_lo p x t) + d.rd (Reg.ISP_T_BUF_HI_base_hi p x t) * 2 ^ 32
    slotBytes := bufRows (d.rd (Reg.ISP_T_BUF_CFG_ring_lines p x t)) height * (d.rd (Reg.ISP_T_BUF_CFG_pitch p x t) * 64)
    slots := d.rd (Reg.ISP_T_BUF_CFG_slots p x t) + 1 }

/-- Buffer of warp output w of a context (10 R345). -/
def Device.warpBuf (d : Device) (p x w : Nat) : Buf :=
  { base := d.rd (Reg.ISP_W_BUF_LO_base_lo p x w) + d.rd (Reg.ISP_W_BUF_HI_base_hi p x w) * 2 ^ 32
    slotBytes := bufRows (d.rd (Reg.ISP_W_BUF_CFG_ring_lines p x w)) (d.rd (Reg.ISP_W_SIZE_out_h p x w)) *
      (d.rd (Reg.ISP_W_BUF_CFG_pitch p x w) * 64)
    slots := d.rd (Reg.ISP_W_BUF_CFG_slots p x w) + 1 }

/-- The word address belongs to a context's registers (10 R351). -/
def inCtx (p x a : Nat) : Bool := a / 0x100 == (0x16101000 + 0x1000 * p + 0x100 * x) / 0x100

/-- A context's register fields, by key. -/
def Device.ctxFields (d : Device) (p x : Nat) : List (Nat × Nat) := d.regs.act.filter fun e => inCtx p x (e.1 / 32)

/-- The device as a frame in the pipe sees it: the context's fields are those that its Frame Start left (10 R328). Only read. -/
def Device.view (d : Device) (p x : Nat) (r : PipeRun) : Device :=
  { d with regs := { d.regs with act := r.cfg ++ d.regs.act.filter fun e => !inCtx p x (e.1 / 32) } }

/-- The active contexts, as (pipe, context). -/
def Device.contexts (d : Device) : List (Nat × Nat) :=
  ((List.range 32).map fun k => (k / 8, k % 8)).filter fun k => d.ctxActive k.1 k.2

/-- Every buffer of a stream: its own in bypass, and those of the context it leads (09 R299, 10 R339). -/
def Device.streamBufs (d : Device) (s : Nat) : List Buf :=
  let st := d.inUse s
  let own := if st.route = 0 then [{ base := st.bufBase, slotBytes := bufRows st.ringLines st.height * st.pitch, slots := st.slots }] else []
  own ++ (d.contexts.filter fun k => d.leadOf k.1 k.2 == s).flatMap fun k =>
    ((List.range 4).filter fun t => bitAt (d.rd (Reg.ISP_C_TAPS_tap_en k.1 k.2)) t).map (fun t => d.tapBuf k.1 k.2 t st.height) ++
    ((List.range 4).filter fun w => d.rdB (Reg.ISP_W_MESH_HI_enable k.1 k.2 w)).map (fun w => d.warpBuf k.1 k.2 w)

-- The encode queue (11 R356).

/-- The frame of an encoder stream that follows a skipped or dropped one is coded as IDR: the next one in a list of queued frames,
else the next one to come (11 R356, R357). -/
def markIdr (e : Nat) : List EncJob → List EncJob × Bool
  | [] => ([], false)
  | j :: js => if j.encoder = e then ({ j with idr := true } :: js, true) else ((j :: (markIdr e js).1), (markIdr e js).2)

/-- The frames of an encoder stream that follow a lost one in the queue: those behind the first n. -/
def Device.idrAfter (d : Device) (e n : Nat) : Device :=
  let (js, found) := markIdr e (d.vid.queue.drop n)
  let d := { d with vid := { d.vid with queue := d.vid.queue.take n ++ js } }
  if found then d else d.setEnc e { d.enc e with nextIdr := true }

/-- A frame of an encoder stream is skipped: the one that follows the first n queued frames is coded as IDR (11 R356). -/
def Device.skipEncode (d : Device) (e n turn : Nat) : Device :=
  ((d.bump (Reg.VID_ENC_STATUS_skipped e) 1).idrAfter e n).raise Ev.VID_ENC_SKIP (e + turn * 2 ^ 32)

/-- Queued frames behind the head are gone through: one that a test hits is skipped. -/
def Device.skipHits (d : Device) (hit : EncJob → Bool) : Nat → Nat → Device
  | 0, _ => d
  | fuel + 1, n =>
    match d.vid.queue[n]? with
    | none => d
    | some j =>
      if hit j then
        ({ d with vid := { d.vid with queue := d.vid.queue.eraseIdx n } }.skipEncode j.encoder n j.frame.turn).skipHits hit fuel n
      else d.skipHits hit fuel (n + 1)

/-- A frame of a stream begins to write a slot of a source: queued frames of that slot that have not started are skipped. The frame
at the head of the queue has started (11 R356; DESIGN CHOICE, log entry 39). -/
def Device.overwriteSlot (d : Device) (source : EncSource) (slot id : Nat) : Device :=
  d.skipHits (fun j => j.source == source && j.slot == slot && j.frame.id != id) d.vid.queue.length 1

/-- Address from which a read of a NO_FRAME item is served: the black slot in place of the frame's slot (09 R313). -/
def Device.blackAddress (d : Device) (s ord a : Nat) : Nat :=
  match (d.streamBufs s).find? (fun b =>
    decide (b.base + ord % b.slots * b.slotBytes ≤ a) && decide (a < b.base + (ord % b.slots + 1) * b.slotBytes)) with
  | some b => a + (b.slots - ord % b.slots) * b.slotBytes
  | none => a

end Sys2Proof.Machine
end

