-- ==== Sys2Proof/Machine/JoinOps.lean ====
section
/-! DEFINITION. Operations of the join engine that other units use: identities, the hold buffer, sending (12 R392 to R398). -/

namespace Sys2Proof.Machine

/-- This device's ID (12 R405). -/
def Device.self (d : Device) : Nat := d.rd Reg.FX_ROLE_device_id

/-- The buddy's ID, when one is named (12 R405). -/
def Device.buddy (d : Device) : Option Nat :=
  if d.rdB Reg.FX_ROLE_buddy_valid then some (d.rd Reg.FX_ROLE_buddy_id) else none

-- Routes (12 R381, R382, R390, R391).

/-- Devices in the join group (12 R405). -/
def Device.groupSize (d : Device) : Nat := d.rd Reg.FX_TOPO_group_size + 1

/-- A port is up (FX_PORTp_STATUS.state). -/
def Device.portUp (d : Device) (p : Nat) : Bool := d.rd (Reg.FX_PORT_STATUS_state p) == 2

/-- A port carries traffic: it is up and does not retrain (12 R381, R389; 13 R423). -/
def Device.portOpen (d : Device) (p : Nat) : Bool := d.portUp p && !d.rdB (Reg.FX_PORT_STATUS_retraining p)

/-- The device that a port joins in the topology, and the neighbour's port (12 R382); none when the port is disabled. -/
def Device.wiring (d : Device) (p : Nat) : Option (Nat × Nat) :=
  let i := d.self
  let n := d.groupSize
  let x := d.rd Reg.FX_TOPO_dim_x + 1
  let y := d.rd Reg.FX_TOPO_dim_y + 1
  match d.rd Reg.FX_TOPO_topology with
  | 1 => if p < n ∧ p ≠ i then some (p, i) else none
  | 2 => some (if p < 4 then ((i + 1) % n, p + 4) else ((i + n - 1) % n, p - 4))
  | 3 =>
    let (dx, dy) := match p / 2 with
      | 0 => (1, 0)
      | 1 => (x - 1, 0)
      | 2 => (0, 1)
      | _ => (0, y - 1)
    some ((i / x + dy) % y * x + (i % x + dx) % x, if p / 2 % 2 = 0 then p + 2 else p - 2)
  | _ => none

/-- The port of the bundle that begins at a port: by bit 0 of the destination, else the other one (12 R381). -/
def Device.bundlePort (d : Device) (base dst : Nat) : Option Nat :=
  [base + dst % 2, base + 1 - dst % 2].find? d.portOpen

/-- The port for a direction of a ring: the bundle by bit 1 of the destination, else the other bundle (12 R381). -/
def Device.ringPort (d : Device) (base dst : Nat) : Option Nat :=
  match d.bundlePort (base + dst / 2 % 2 * 2) dst with
  | some p => some p
  | none => d.bundlePort (base + 2 - dst / 2 % 2 * 2) dst

/-- The port for a direction of a torus: where X or Y is 2, the bundles of both directions join the same pair (12 R381, R382). -/
def Device.torusPort (d : Device) (base dst : Nat) : Option Nat :=
  if base < 4 ∧ d.rd Reg.FX_TOPO_dim_x = 1 then d.ringPort 0 dst
  else if 4 ≤ base ∧ d.rd Reg.FX_TOPO_dim_y = 1 then d.ringPort 4 dst
  else d.bundlePort base dst

/-- The first bundle of the opposite direction in the same dimension of a torus. -/
def oppositeBase (base : Nat) : Nat := if base % 4 = 0 then base + 2 else base - 2

/-- The link between two other devices is up, as far as this one knows: no rule says how it learns it, so the answer is free at
every moment (12 R390; DESIGN CHOICE, log entry 71). -/
def Device.farLinkUp (d : Device) (a b : Nat) : Bool := Config.unstated 390 (d.sp.time * 2 ^ 18 + a * 2 ^ 9 + b) % 2 == 1

/-- The detour of an all-to-all group: the lowest-numbered device whose links to both ends are up (12 R390). -/
def Device.detour (d : Device) (dst : Nat) (avoid : List Nat) : Option Nat :=
  (List.range (min d.groupSize 8)).find? fun k => k != d.self && k != dst && !avoid.contains k && d.portOpen k && d.farLinkUp k dst

/-- The port on which a transaction for a device leaves (12 R390); none when no route remains (12 R391). -/
def Device.route (d : Device) (dst : Nat) : Option Nat :=
  let i := d.self
  let n := d.groupSize
  if dst = i then none
  else
    match d.rd Reg.FX_TOPO_topology with
    | 1 => if d.portOpen dst then some dst else d.detour dst []
    | 2 =>
      let k := (dst + n - i % n) % n
      (if k ≤ n - k then [0, 4] else [4, 0]).findSome? fun b => d.ringPort b dst
    | 3 =>
      let x := d.rd Reg.FX_TOPO_dim_x + 1
      let y := d.rd Reg.FX_TOPO_dim_y + 1
      let kx := (dst % x + x - i % x) % x
      let ky := (dst / x % y + y - i / x % y) % y
      let bx := if kx ≤ x - kx then 0 else 2
      let byy := if ky ≤ y - ky then 4 else 6
      let want := (if kx = 0 then [] else [bx]) ++ (if ky = 0 then [] else [byy])
      (want ++ want.map oppositeBase).findSome? fun b => d.torusPort b dst
    | _ => none

/-- The port on which a transaction in transit, which came in on a port, leaves: by the table of 12 R390, but on a detour it does
not turn back to the neighbour it came from while another way is open (DEDUCED, log entry 71). -/
def Device.routeFrom (d : Device) (p dst : Nat) : Option Nat :=
  match d.rd Reg.FX_TOPO_topology with
  | 1 => if d.portOpen dst then some dst else d.detour dst [p]
  | 2 => (d.route dst).bind fun q => if q / 4 = p / 4 then some ((d.ringPort (4 - p / 4 * 4) dst).getD q) else some q
  | 3 => (d.route dst).bind fun q =>
    if q / 2 = p / 2 then some ((d.torusPort (oppositeBase (p / 2 * 2)) dst).getD q) else some q
  | _ => none

/-- Members of the group that no route reaches (12 R391). -/
def Device.unreachable (d : Device) : List Nat :=
  (List.range d.groupSize).filter fun k => k != d.self && (d.route k).isNone

/-- An active LINK_DROP slot discards what crosses a port; one that acts on one event is spent by it (13 R438 kind 6). -/
def Device.dropOn (d : Device) (p : Nat) : Bool × Device :=
  match (d.activeSlots 6).find? fun i => bitAt (d.rd (Reg.PERT_SLOT_TARGET_target i)) p with
  | some i => (true, d.slotUsed i)
  | none => (false, d)

/-- A transaction leaves on a port, unless an injected LINK_DROP discards it (13 R438 kind 6). What is sequenced stays held and is
sent again under 12 R395. -/
def Device.leave (d : Device) (p : Nat) (h : HeldTx) : Device :=
  match d.dropOn p with
  | (true, d) => d
  | (false, d) => { d with join := { d.join with sent := { h with port := some p } :: d.join.sent } }

/-- A transaction leaves on the port of its route. A device under an injected SILENT_LOSS sends nothing of its own, and a
dropped link discards what it sends (13 R438 kinds 6 and 7). Traffic for the device itself crosses no link. -/
def Device.transmit (d : Device) (h : HeldTx) : Device :=
  if d.fo.silent then d
  else if h.destination = d.self then { d with join := { d.join with sent := h :: d.join.sent } }
  else
    match d.route h.destination with
    | none => d
    | some p => d.leave p h

/-- The turn number carried in join traffic: the master's, where the follower's own differs (01 R63). -/
def Device.carriedTurn (d : Device) : Nat := tcOf ((d.turn : Int) + d.sp.masterTurnDelta) 32

/-- An event of the join (12 R407). -/
def Device.raiseFx (d : Device) (code port remote content : Nat) : Device :=
  d.raise code (port % 256 + (remote % 512) * 65536 + content * 2 ^ 32)

/-- Routes are computed again after a port or bundle has changed state: the event says whether a device that a route reached before
has none now (12 R391, R407). -/
def Device.reroute (d : Device) (before : List Nat) (p remote : Nat) : Device :=
  d.raiseFx Ev.FX_ROUTE_CHANGED p remote (b2n (d.unreachable.any fun k => !before.contains k))

/-- Bytes a transaction takes in the hold buffer: its header and its payload (12 R392, R395). -/
def HeldTx.size (h : HeldTx) : Nat := 32 + h.t.payload.length

/-- Bytes in use in the hold buffer (12 R395). -/
def Join.used (j : Join) : Nat := (j.held.map HeldTx.size).sum

/-- Size of the hold buffer (12 R395). -/
def holdCap : Nat := 16 * 2 ^ 20

/-- Next sequence to a destination, counting from 1 (12 R394; a job restarts it, DESIGN CHOICE, log entry 8). -/
def Join.nextSeq (j : Join) (dst : Nat) : Nat := mget 1 j.txSeq dst

/-- Next sequence expected from a source (12 R394). -/
def Join.expects (j : Join) (src : Nat) : Nat := mget 1 j.rxSeq src

/-- The device to which traffic for an ID goes after redirections (12 R399); none when they close a circle (12 R401). -/
def Join.resolve (j : Join) : Nat → Nat → Option Nat
  | 0, _ => none
  | fuel + 1, dst =>
    match afind j.redirects dst with
    | none => some dst
    | some t => j.resolve fuel t

/-- The hold buffer takes a transaction: it gets its sequence, is held and sent (12 R394, R395). -/
def Device.acceptTx (d : Device) (h : HeldTx) : Device :=
  let seq := d.join.nextSeq h.destination
  let h := { h with t := { h.t with sequence := seq } }
  let j : Join := { d.join with txSeq := mset 1 d.join.txSeq h.destination (seq + 1), held := d.join.held ++ [h] }
  let d := { d with join := j }
  let kib := j.used / 1024
  let d := if d.rd Reg.FX_HOLD_peak_kib < kib then d.wr Reg.FX_HOLD_peak_kib (min kib 65535) else d
  d.transmit h

/-- FX_HOLD_FULL, once per turn (12 R395). -/
def Device.reportFull (d : Device) : Device :=
  if d.join.fullRaised then d
  else { d with join := { d.join with fullRaised := true } }.raiseFx Ev.FX_HOLD_FULL 0xFF 0x1FF 0

/-- A replay runs, in which the join exchanges no plan traffic (11 R374). -/
def Device.replaying (d : Device) : Bool := d.rd Reg.VID_STATUS_replay != 0

/-- A sequenced transaction is offered to the join engine for an original destination (12 R395, R399): it is accepted, waits
for space in the hold buffer, or is discarded when its destination is lost twice (12 R401). Plan traffic of a replay is not sent
(11 R374). -/
def Device.offerTx (d : Device) (kind : TransitKind) (original : Nat) (channel : Option Nat) (t : Transaction) : Device :=
  if d.replaying ∧ (kind = .write ∨ kind = .signal ∨ kind = .mirror) then d
  else
  match d.join.resolve 129 original with
  | none => d.bump Reg.FX_COUNTS_lost 1
  | some dst =>
    let t := { t with source := d.self, destination := dst, original, redirected := decide (dst ≠ original) }
    let owner := channel.bind fun ch => (d.chan ch).active.map fun x => (x.item, x.turn)
    let h : HeldTx := { kind, destination := dst, t, channel, owner }
    if d.join.waiting.isEmpty ∧ d.join.used + h.size ≤ holdCap then d.acceptTx h
    else { d with join := { d.join with waiting := d.join.waiting ++ [h], stalls := d.join.stalls + 1 } }.reportFull

/-- Waiting transactions are accepted while the hold buffer has room (12 R395). -/
def Device.acceptWaiting (d : Device) : Nat → Device
  | 0 => d
  | fuel + 1 =>
    match d.join.waiting with
    | [] => d
    | h :: rest =>
      if d.join.used + h.size ≤ holdCap then
        ({ d with join := { d.join with waiting := rest } }.acceptTx h).acceptWaiting fuel
      else d

/-- A transaction with no fields used. -/
def emptyTx : Transaction :=
  { source := 0, destination := 0, original := 0, redirected := false, turn := 0, sequence := 0, address := 0, item := 0,
    last := false, payload := [] }

/-- A remote signal leaves for a counter of another device (06 R215; 12 R392). -/
def Device.sendSignal (d : Device) (device counter marks : Nat) : Device :=
  d.offerTx .signal device none { emptyTx with turn := d.carriedTurn, address := counter % 65536 + (marks % 256) * 65536 }

/-- The payload of a HEARTBEAT (12 R398). -/
def Device.heartbeat (d : Device) (md : Mode) : Heartbeat :=
  { sender := d.self
    activeList := if md = .retired then 2 else if d.seq.fallbackActive then 1 else 0
    retiring := decide (md = .retired)
    degraded := d.fo.degraded
    turn := d.carriedTurn
    index := d.index
    buddy := (d.buddy).getD 0xFFFF
    count := d.fo.sentCount + 1 }

/-- Bytes of a HEARTBEAT payload (12 R398). -/
def heartbeatBytes (h : Heartbeat) : List Byte :=
  leBytes 2 h.sender ++ leBytes 1 h.activeList ++ leBytes 1 (b2n h.retiring + 2 * b2n h.degraded) ++ leBytes 4 h.turn ++
    leBytes 2 h.index ++ leBytes 2 h.buddy ++ leBytes 4 h.count ++ leBytes 16 0

/-- This device is the spindle master of its group now (12 R401). -/
def Device.isMaster (d : Device) : Bool := decide (1 < d.groupSize) && d.join.master == d.self

end Sys2Proof.Machine
end

