-- ==== Sys2Proof/Machine/DmaOps.lean ====
section
/-! DEFINITION. Transfer descriptors, the funnel's accesses and the writes of a channel (07 R234 to R250, R256), with the copy
into send windows (12 R396). -/

namespace Sys2Proof.Machine

-- Descriptor fields (07 R238).

/-- Field of n bytes at offset o of the descriptor. -/
def DescRt.fd (x : DescRt) (o n : Nat) : Nat := fieldOf x.bytes o n
def DescRt.op (x : DescRt) : Nat := x.fd 1 1
def DescRt.flags (x : DescRt) : Nat := x.fd 2 1
def DescRt.format (x : DescRt) : Nat := x.fd 3 1
def DescRt.src (x : DescRt) : Nat := x.fd 4 6
def DescRt.dst (x : DescRt) : Nat := x.fd 10 6
def DescRt.count0 (x : DescRt) : Nat := x.fd 16 4
def DescRt.count1 (x : DescRt) : Nat := x.fd 20 2
def DescRt.count2 (x : DescRt) : Nat := x.fd 22 2
def DescRt.srcStride1 (x : DescRt) : Int := sextOf (x.fd 24 4) 32
def DescRt.srcStride2 (x : DescRt) : Int := sextOf (x.fd 28 4) 32
def DescRt.dstStride1 (x : DescRt) : Int := sextOf (x.fd 32 4) 32
def DescRt.dstStride2 (x : DescRt) : Int := sextOf (x.fd 36 4) 32
def DescRt.stripStride (x : DescRt) : Nat := x.fd 40 2
def DescRt.window (x : DescRt) : Nat := x.fd 42 1
def DescRt.firstRow (x : DescRt) : Nat := x.fd 44 2
def DescRt.lastRow (x : DescRt) : Nat := x.fd 46 2
def DescRt.table (x : DescRt) : Nat := x.fd 48 6

/-- A base moved by a signed distance. -/
def moveBy (a : Nat) (i : Int) : Nat := ((a : Int) + i).toNat

/-- Destination of line y of plane z. -/
def DescRt.dstLine (x : DescRt) (z y : Nat) : Nat := moveBy (moveBy x.dst (z * x.dstStride2)) (y * x.dstStride1)

/-- Source of line y of plane z. -/
def DescRt.srcLine (x : DescRt) (z y : Nat) : Nat := moveBy (moveBy x.src (z * x.srcStride2)) (y * x.srcStride1)

-- The funnel (07 R248).

/-- Size of the access that begins at a when n bytes remain in the line (07 R248). -/
def funnelPiece (a n : Nat) : Nat :=
  if a % 8 ≠ 0 ∨ n < 8 then min (8 - a % 8) n
  else if a % 64 = 0 ∧ 64 ≤ n then 64
  else if a % 32 = 0 ∧ 32 ≤ n then 32
  else if a % 16 = 0 ∧ 16 ≤ n then 16
  else 8

/-- The accesses of a line of n bytes from a, as (address, size) (07 R248). -/
def funnel : Nat → Nat → Nat → List (Nat × Nat)
  | 0, _, _ => []
  | fuel + 1, a, n => if n = 0 then [] else
    let p := funnelPiece a n
    (a, p) :: funnel fuel (a + p) (n - p)

/-- The accesses of a line. -/
def lineAccesses (a n : Nat) : List (Nat × Nat) := funnel n a n

-- Targets (07 R256).

/-- The target of an access does not answer: core memory of a core held in reset, or an offline DRAM channel. -/
def Device.targetDown (d : Device) (a : Nat) : Bool :=
  match d.place a with
  | .core n _ => bitAt (d.rd Reg.NE_STATUS_quad_in_reset) (n / 8)
  | .dram _ _ => d.offlineAt a
  | _ => false

/-- Memory that a channel reaches (07 R235). -/
def Device.reachable (d : Device) (a : Nat) : Bool :=
  match d.place a with
  | .shared _ | .core _ _ | .dram _ _ => true
  | _ => false

/-- A cause of 07 R256 arises for the active descriptor; the first one stands (07 R257). -/
def Device.dmaCause (d : Device) (ch cause a : Nat) : Device :=
  let c := d.chan ch
  if c.cause.isSome then d else d.setChan ch { c with cause := some (cause, a) }

/-- An enabled send window that holds a shared-memory offset (12 R396). -/
def Device.sendWindow (d : Device) (x : Nat) : Option Nat :=
  (List.range 16).find? fun w =>
    let b := d.rd (Reg.FX_SEND_LOCAL_local_base w) * 64
    d.rdB (Reg.FX_SEND_LOCAL_enable w) && decide (b ≤ x) && decide (x < b + d.rd (Reg.FX_SEND_SIZE_size w) * 64)

/-- The copy of a DMA write into a send window (12 R396). -/
def Device.forwardWrite (d : Device) (ch : Option Nat) (a : Nat) (bs : List Byte) : Device :=
  match d.place a with
  | .shared x =>
    match d.sendWindow x with
    | some w =>
      d.offerTx .write (d.rd (Reg.FX_SEND_LOCAL_dest w)) ch
        { emptyTx with
          turn := d.carriedTurn, payload := bs
          address := d.rd (Reg.FX_SEND_REMOTE_remote_base w) * 64 + (x - d.rd (Reg.FX_SEND_LOCAL_local_base w) * 64) }
    | none => d
  | _ => d

/-- Bytes that a channel has written are counted (07 R261). -/
def Device.countBytes (d : Device) (ch n : Nat) : Device :=
  let c := d.chan ch
  let n := c.residue + n
  (d.setChan ch { c with residue := n % 64 }).bump (Reg.DMA_CH_BYTES_units ch) (n / 64)

/-- A write of a channel reaches its memory: checked write, counts, forwarding (07 R261; 08 R278; 12 R396). Answers the first codeword
that dropped its piece. -/
def Device.dmaStore (d : Device) (md : Mode) (ch a : Nat) (bs : List Byte) : Option Nat × Device :=
  match d.writeChecked md .dmaItem a bs with
  | (some cw, d) => (some cw, d)
  | (none, d) => (none, (d.countBytes ch bs.length).forwardWrite (some ch) a bs)

/-- A write access of a channel reaches its memory, or is dropped there (07 R256; 08 R278, R288). -/
def Device.dmaLand (d : Device) (md : Mode) (ch a : Nat) (bs : List Byte) : Device :=
  let down := d.offlineAt a
  match d.dmaStore md ch a bs with
  | (some _, d) => d.dmaCause ch (if down then 3 else 1) a
  | (none, d) => d

/-- One write access of a channel: target check, and the write, which waits while its DRAM channel retrains (07 R248, R253, R256; 08
R288). -/
def Device.dmaWrite (d : Device) (md : Mode) (ch a : Nat) (bs : List Byte) : Device :=
  let c := d.chan ch
  if c.cause.isSome then d
  else if d.targetDown a ∧ ¬ d.offlineAt a then d.dmaCause ch 3 a
  else
    let d := d.setChan ch { c with unacked := c.unacked ++ [a] }
    if d.retrainingAt a then
      d.awaitChannel { agent := .dmaItem, address := a, bytes := bs.length, store := some bs, errors := 0, waiter := .channel ch }
    else d.dmaLand md ch a bs

-- Accesses that waited for a retraining (08 R275, R288).

/-- An access to memory is served, and its answer given to whom waits for it (08 R276 to R278). A write of a DMA channel concerns the
descriptor that still waits for its acknowledgement. -/
def Device.serveAccess (d : Device) (md : Mode) (w : WaitingAccess) : Device :=
  let d := d.injectErrors w.address w.errors
  let answered (d : Device) (b : Bus) : Device := if w.waiter = .answer then { d with bus := b } else d
  match w.store with
  | none =>
    let (bs, bad, d) := d.readChecked md w.agent w.address w.bytes
    answered d { data := bs, uncorrectable := bad.isSome }
  | some bs =>
    match w.waiter with
    | .channel ch =>
      if (d.chan ch).unacked.contains w.address then d.dmaLand md ch w.address bs else (d.dmaStore md ch w.address bs).2
    | _ =>
      let (bad, d) := d.writeChecked md w.agent w.address bs
      answered d { uncorrectable := bad.isSome }

/-- The write accesses of one line of bytes (07 R248). -/
def Device.dmaWriteLine (d : Device) (md : Mode) (ch a : Nat) (bs : List Byte) : Device :=
  (forL (lineAccesses a bs.length) (fun (p, n) (bs, d) => (bs.drop n, d.dmaWrite md ch p (bs.take n))) (bs, d)).2

/-- A FILL descriptor becomes active: it has no source, and all its writes are issued (07 R239). -/
def Device.dmaFill (d : Device) (md : Mode) (ch : Nat) (x : DescRt) : Device :=
  let line := List.replicate x.count0 (BitVec.ofNat 8 x.format)
  let d := forN (x.count2 * x.count1) (fun k d => d.dmaWriteLine md ch (x.dstLine (k / x.count1) (k % x.count1)) line) d
  d.setChan ch { d.chan ch with readsDone := true }

end Sys2Proof.Machine
end

