-- ==== Sys2Proof/Machine/Sequencer.lean ====
section
/-! DEFINITION. The turn sequencer: release of items, start on their lanes, the channel loaders, completion, signals and
abandonment (01 R41 to R49, 06 R205 to R220, 07 R243 to R247). -/

namespace Sys2Proof.Machine

-- Items (06 R206, R207).

/-- The lane of an item (06 R205). -/
def Item.lane (i : Item) : Nat := i.core * 256 + i.unit
/-- A flag bit of an item (06 R206). -/
def Item.flag (i : Item) (k : Nat) : Bool := bitAt i.flags k
def Item.lineWait (i : Item) : Bool := i.flag 0
def Item.wait0 (i : Item) : Bool := i.flag 1
def Item.wait1 (i : Item) : Bool := i.flag 2
def Item.signal (i : Item) : Bool := i.flag 3
def Item.critical (i : Item) : Bool := i.flag 4
def Item.originLocal (i : Item) : Bool := i.flag 5
def Item.originRemote (i : Item) : Bool := i.flag 6
/-- First record and record count of a DMA item (06 R207). -/
def Item.first (i : Item) : Nat := fieldOf i.body 0 4
def Item.count (i : Item) : Nat := fieldOf i.body 4 2
/-- An EMIT or MIRROR item, whose descriptor is implicit (07 R255). -/
def Item.implicit (i : Item) : Bool := i.opcode == 4 || i.opcode == 5

/-- DMA channel of a lane (06 R205, 07 R234). -/
def chanOfLane (lane : Nat) : Option Nat :=
  let core := lane / 256
  let unit := lane % 256
  if core < 32 ∧ (unit = 5 ∨ unit = 6) then some (2 * core + unit - 5)
  else if core = 255 ∧ unit < 16 then some (64 + unit)
  else none

/-- Lane of a DMA channel. -/
def laneOfChan (ch : Nat) : Nat := if ch < 64 then (ch / 2) * 256 + 5 + ch % 2 else 255 * 256 + (ch - 64)

/-- The sequencer runs in a job and in a replay (01 'Jobs on the spindle', 11 R375). -/
def seqRuns (md : Mode) : Bool := md == .turning || md == .replay

/-- Items of the active list (06 R225). -/
def Device.activeList (d : Device) : List Item :=
  match d.seq.plan with
  | none => []
  | some p => if d.seq.fallbackActive then p.fallback else p.primary

/-- Run-time state of an item of a turn. -/
def Device.findItem (d : Device) (num turn : Nat) : Option ItemRt :=
  d.seq.items.find? fun r => r.item.num == num && r.turn == turn

/-- An item's run-time state changed. -/
def Device.updItem (d : Device) (num turn : Nat) (g : ItemRt → ItemRt) : Device :=
  { d with seq := { d.seq with items := d.seq.items.map fun r =>
      if r.item.num = num ∧ r.turn = turn then g r else r } }

/-- An item no longer takes part in the order of its lane (06 R209). -/
def ItemRt.over (r : ItemRt) : Bool := r.phase == .done || r.phase == .dropped || r.phase == .skipped

/-- Items that stand before an item and share its lane. -/
def Device.earlier (d : Device) (r : ItemRt) : List ItemRt :=
  (d.seq.items.takeWhile fun x => !(x.item.num == r.item.num && x.turn == r.turn)).filter fun x => x.item.lane == r.item.lane

-- Counters (06 R213 to R216).

/-- A counter's kind in the active plan: true for flags (06 R213). -/
def Device.isFlags (d : Device) (c : Nat) : Bool :=
  match d.seq.plan with
  | some p => bitAt (p.counters.getD c 0).toNat 1
  | none => false

/-- A counter is in use in the active plan (06 R213). -/
def Device.counterInUse (d : Device) (c : Nat) : Bool :=
  match d.seq.plan with
  | some p => bitAt (p.counters.getD c 0).toNat 0
  | none => false

/-- A value of a counter satisfies a wait value (06 R213). -/
def Device.meets (d : Device) (c x v : Nat) : Bool := if d.isFlags c then x &&& v == v else decide (v ≤ x)

/-- A signal on a counter of this device (06 R215, R219): bit names the flag of a flags counter. -/
def Device.signalCounter (d : Device) (c bit marks : Nat) : Device :=
  let x := d.ctr c
  let value := if d.isFlags c then x.value ||| 2 ^ (bit % 16) else satAdd 16 x.value 1
  d.setCtr c { value, marks := x.marks ||| marks, steps := x.steps ++ [(d.index, value)] }

/-- Index in which a counter first satisfied a wait value in this turn (06 R214). -/
def Device.satisfiedAt (d : Device) (c v : Nat) : Option Nat :=
  (((0, 0) :: (d.ctr c).steps).find? fun p => d.meets c p.2 v).map Prod.fst

-- Line waits (01 R41 to R44).

/-- The frame to which an item's line wait binds (01 R41); a frame whose gear was disabled binds to nothing (06 R220). -/
def Device.boundFrame (d : Device) (r : ItemRt) : Option Frame :=
  ((d.stream r.item.stream).frameAt r.turn r.item.frame).filter fun f => f.gear

/-- A waiting item's line wait against its bound frame: met by a line that has passed, or by the completion of a frame that
ended short (01 R38, R41, R42). -/
def Device.noteLine (d : Device) (r : ItemRt) : ItemRt :=
  match d.boundFrame r with
  | some f =>
    if r.item.line < f.linesAccepted then { r with lineMet := true }
    else if f.complete ∧ f.marks &&& fmShort ≠ 0 then { r with lineMet := true, marks := r.marks ||| markShort }
    else r
  | none => r

/-- Line waits met by lines that have passed, or by the completion of a frame that ended short (01 R38, R41, R42). -/
def Device.noteLines (d : Device) : Device :=
  { d with seq := { d.seq with items := d.seq.items.map fun r =>
      if r.phase == .waiting && r.item.lineWait && !r.lineMet then d.noteLine r else r } }

/-- Every condition of an item's release holds (01 R45, 06 R214). -/
def Device.ready (d : Device) (r : ItemRt) : Bool :=
  let idx := d.index
  let met (on : Bool) (c v : Nat) : Bool :=
    !on || (match d.satisfiedAt c v with | some k => decide (k + r.item.stagger ≤ idx) | none => false)
  r.phase == .waiting && r.turn == d.turn && decide (r.item.notBefore ≤ idx) && (!r.item.lineWait || r.lineMet) &&
    met r.item.wait0 r.item.w0c r.item.w0v && met r.item.wait1 r.item.w1c r.item.w1v

/-- The bound frame is older than the stream allows when the item is released (09 R312). -/
def Device.admitFrame (d : Device) (md : Mode) (r : ItemRt) : ItemRt × Device :=
  if ¬ r.item.lineWait ∨ r.ownNoFrame then (r, d)
  else
    match d.boundFrame r with
    | none => (r, d)
    | some f =>
      let s := r.item.stream
      let st := d.stream s
      let age := d.sp.time - f.capture
      if (st.during f).staleLimit ≠ 0 ∧ (st.during f).staleLimit * 100000 < age then
        let f' := { f with marks := f.marks ||| fmStale, staleDropped := true }
        let d := d.setStream s (st.updFrame f fun _ => f')
        let d := if f.marks &&& fmStale = 0 then d.writeFrameMarks md s f' else d
        let d := if f.staleDropped then d
          else (d.bump (Reg.CSI_STREAM_FRAMES_stale_drops s) 1).raiseFrame Ev.CAM_FRAME_STALE s f (min (age / 1000) (2 ^ 32 - 1))
        ({ r with ownNoFrame := true, marks := (r.marks &&& (markShort ^^^ 255)) ||| markNoFrame }, d)
      else (r, d)

/-- Marks that an item takes at its release: from its waits, and REDONE for redone lost work (06 R219, R226). -/
def Device.releaseMarks (d : Device) (r : ItemRt) : Nat :=
  r.marks ||| (if r.item.wait0 then (d.ctr r.item.w0c).marks else 0) ||| (if r.item.wait1 then (d.ctr r.item.w1c).marks else 0) |||
    (if r.fallback ∧ r.item.originRemote then markRedone else 0)

-- Completion (06 R211, R215, R219; 01 R47).

/-- The signal of a completed item is applied or sent (06 R215). -/
def Device.applySignal (d : Device) (i : Item) (marks : Nat) : Device :=
  if ¬ i.signal then d
  else if bitAt i.sigDevice 15 then d.sendSignal (i.sigDevice % 512) i.sigCounter marks
  else d.signalCounter (i.sigCounter % 512) (i.sigCounter / 4096) marks

/-- The greatest lateness since the last read is recorded with its item, the first of several that share it (01 R47; which of them
DESIGN CHOICE, log entry 72). -/
def Device.recordLateness (d : Device) (num lateness : Nat) : Device :=
  let d := { d with seq := { d.seq with maxLate := max d.seq.maxLate lateness } }
  if d.rd Reg.SP_LATE_MAX_lateness < lateness then
    (d.wr Reg.SP_LATE_MAX_lateness (min lateness 65535)).wr Reg.SP_LATE_MAX_item num
  else d

/-- An item completes with marks added by its work: counts, lateness and signal (01 R47, 06 R211, R215). -/
def Device.completeItem (d : Device) (num turn added : Nat) : Device :=
  match d.findItem num turn with
  | none => d
  | some r =>
    let marks := r.marks ||| added
    let idx := d.index
    let late : Nat := if r.item.deadline < idx then idx - r.item.deadline else 0
    let d := d.updItem num turn fun r => { r with phase := .done, marks }
    let sq := d.seq
    let d := { d with seq := { sq with
      completedCount := sq.completedCount + 1, lastDone := some idx
      redone := sq.redone || (r.item.opcode == 4 && marks &&& markRedone != 0)
      critEnd := if r.item.critical then some idx else sq.critEnd } }
    (d.recordLateness num late).applySignal r.item marks

-- Loaders (07 R243 to R247).

/-- The record number of an item's first descriptor: 0xFFFF for an implicit one (07 R256, R261). -/
def firstRecord (i : Item) : Nat := if i.implicit then 0xFFFF else 0

/-- The descriptor that follows the active one on a channel (07 R243): item, turn, record. -/
def Device.nextDesc (d : Device) (ch : Nat) : Option (Nat × Nat × Nat) :=
  let lane := laneOfChan ch
  let more := match (d.chan ch).active with
    | some x =>
      match d.findItem x.item x.turn with
      | some r =>
        if r.phase == Phase.running && !r.item.implicit && decide (x.record + 1 < r.item.count) then some (x.item, x.turn, x.record + 1) else none
      | none => none
    | none => none
  match more with
  | some y => some y
  | none =>
    match d.seq.items.find? (fun (r : ItemRt) =>
      r.item.lane == lane && r.turn == d.turn && (r.phase == .waiting || r.phase == .released)) with
    | some r => some (r.item.num, r.turn, firstRecord r.item)
    | none =>
      let next := if d.seq.jobBegun then turnPlus d.turn 1 else d.seq.jobFirst.getD (turnPlus d.turn 1)
      ((d.activeList).find? fun (i : Item) => i.lane == lane).map fun i => (i.num, next, firstRecord i)

/-- The loader requests the channel's next descriptor (07 R243). -/
def Device.requestNext (d : Device) (ch : Nat) : Device := d.setChan ch { d.chan ch with loading := d.nextDesc ch }

/-- A loaded or requested descriptor is still one to run: its item waits, is released or is running, or belongs to the turn
to come (07 R247). -/
def Device.stillWanted (d : Device) (num turn : Nat) : Bool :=
  match d.findItem num turn with
  | some r => r.phase == .waiting || r.phase == .released || r.phase == .running
  | none => turnAhead turn d.turn && (d.activeList).any fun i => i.num == num

/-- A shadow set or a request that belongs to an abandoned, dropped or skipped item is discarded, and the loader requests
anew (07 R247). -/
def Device.refreshLoader (d : Device) (ch : Nat) : Device :=
  let c := d.chan ch
  let okShadow : Bool := match c.shadow with | some x => d.stillWanted x.item x.turn | none => true
  let okLoad : Bool := match c.loading with | some (n, t, _) => d.stillWanted n t | none => true
  let d := if okShadow then d else d.setChan ch { d.chan ch with shadow := none }
  if okShadow ∧ okLoad then d else d.requestNext ch

/-- The channels whose loaders may hold something. -/
def Device.usedChans (d : Device) : List Nat := d.dma.map Prod.fst

/-- A descriptor of an item may become active on its channel: the item is running already, or it is released and every
earlier item of the lane has completed (06 R209, 07 R245). -/
def Device.mayRun (d : Device) (num turn : Nat) : Bool :=
  match d.findItem num turn with
  | some r => r.phase == .running || (r.phase == .released && (d.earlier r).all ItemRt.over)
  | none => false

/-- The shadow set becomes the active set when the conditions of 07 R245 hold. -/
def Device.trySwap (d : Device) (md : Mode) (ch : Nat) : Device :=
  let c := d.chan ch
  match c.active, c.shadow with
  | none, some x =>
    if d.mayRun x.item x.turn then
      let c' := { c with
        active := some x, shadow := none, line := 0, pos := 0, readsDone := false, unacked := [], handed := 0, buffer := []
        cause := if x.bad then some (4, 0) else none, badBlocks := 0, refused := false }
      let d := d.setChan ch c'
      let d := d.updItem x.item x.turn fun r => { r with phase := .running }
      let d := d.requestNext ch
      match d.findItem x.item x.turn with
      | some r => if ¬ x.bad ∧ ¬ r.item.implicit ∧ x.op = 5 then d.dmaFill md ch x else d
      | none => d
    else d
  | _, _ => d

-- Release and start (01 R45, 06 R209, R210).

/-- A MATRIX item starts feeding when its array has left every earlier descriptor's last decision point behind (06 R210). -/
def Device.startMatrix (d : Device) (r : ItemRt) : Device :=
  let a := d.array r.item.core r.item.unit
  let free := (d.earlier r).all fun x => x.over || a.draining.contains (x.item.num, x.turn)
  if a.item.isNone ∧ free then
    (d.setArray r.item.core r.item.unit { a with
      item := some r.item.num, turn := r.turn, nextPass := 1, settled := 0, redo := [], undecided := []
      feeding := some { num := 0 }, abandoned := false, fixedRaised := false }).updItem r.item.num r.turn
      fun r => { r with phase := .running }
  else d

/-- A VECTOR item starts when every earlier item of its lane has completed (06 R209). -/
def Device.startVector (d : Device) (r : ItemRt) : Device :=
  let c := d.core r.item.core
  if c.vec.isNone ∧ (d.earlier r).all ItemRt.over then
    (d.setCore r.item.core { c with vec := some (r.item.num, r.turn) }).updItem r.item.num r.turn
      fun r => { r with phase := .running }
  else d

/-- Released items start where their lanes allow, in list order. -/
def Device.startAll (d : Device) (md : Mode) : Device :=
  forL (d.seq.items.filter fun r => r.phase == .released) (fun r d =>
    match r.item.opcode with
    | 1 => d.startMatrix r
    | 3 => d.startVector r
    | _ => match chanOfLane r.item.lane with | some ch => d.trySwap md ch | none => d) d

/-- An item is released: frame admission, marks, and completion at once for a MARK (06 R211, 09 R312). -/
def Device.releaseItem (d : Device) (md : Mode) (r : ItemRt) : Device :=
  let (r, d) := d.admitFrame md r
  let marks := d.releaseMarks r
  let d := d.updItem r.item.num r.turn fun x => { x with phase := .released, marks, ownNoFrame := r.ownNoFrame }
  let d := { d with seq := { d.seq with releasedCount := d.seq.releasedCount + 1 } }
  if r.item.opcode = 6 then d.completeItem r.item.num r.turn 0 else d

/-- Items are released one after another, in list order, until none is ready: a MARK's signal may ready another item. -/
def Device.releaseReady (d : Device) (md : Mode) : Nat → Device
  | 0 => d
  | fuel + 1 =>
    let d := d.noteLines
    match d.seq.items.find? (fun r => d.ready r) with
    | none => d
    | some r => (d.releaseItem md r).releaseReady md fuel

/-- Release and start of everything that may run now. -/
def Device.sequence (d : Device) (md : Mode) : Device :=
  if seqRuns md then (d.releaseReady md (d.seq.items.length + 1)).startAll md else d

-- Ends of descriptors and abandonment.

/-- An abandoned item leaves the machine: its lane is free again (01 R49, 06 R212). -/
def Device.removeItem (d : Device) (num turn : Nat) : Device :=
  { d with seq := { d.seq with items := d.seq.items.filter fun r => !(r.item.num == num && r.turn == turn) } }

/-- The active descriptor of a channel has ended: the item completes with its last one, and the channel goes on (07 R245,
R253, R258; 06 R211). -/
def Device.endDescriptor (d : Device) (md : Mode) (ch : Nat) : Device :=
  let c := d.chan ch
  match c.active with
  | none => d
  | some x =>
    let d := d.setChan ch { c with active := none, cause := none, abandoned := false, queuedAt := none }
    let d := match d.findItem x.item x.turn with
      | some r =>
        if r.phase == Phase.abandoned then d.removeItem x.item x.turn
        else if r.item.implicit ∨ r.item.count ≤ x.record + 1 then d.completeItem x.item x.turn 0
        else d
      | none => d
    (d.trySwap md ch).sequence md

/-- What an abandoned EMIT or MIRROR has not yet sent leaves the queue for the hold buffer (06 R212). -/
def Device.unsend (d : Device) (r : ItemRt) : Device :=
  { d with join := { d.join with
    waiting := d.join.waiting.filter fun h => !(h.kind == .mirror && h.owner == some (r.item.num, r.turn)) } }

/-- A running item is abandoned (06 R212, 02 R85): arrays stop at the pass boundary, vector units after the result they are
writing, DMA lanes at the next descriptor boundary; EMIT and MIRROR items send nothing further. -/
def Device.abandonItem (d : Device) (r : ItemRt) : Device :=
  let d := d.updItem r.item.num r.turn fun x => { x with phase := .abandoned }
  match r.item.opcode with
  | 1 =>
    let a := d.array r.item.core r.item.unit
    let a := { a with draining := a.draining.filter fun p => p != (r.item.num, r.turn) }
    if a.item = some r.item.num ∧ a.turn = r.turn then d.setArray r.item.core r.item.unit { a with abandoned := true, redo := [] }
    else (d.setArray r.item.core r.item.unit a).removeItem r.item.num r.turn
  | 3 => d
  | _ =>
    match chanOfLane r.item.lane with
    | none => d.removeItem r.item.num r.turn
    | some ch =>
      let c := d.chan ch
      let mine : Bool := match c.active with | some x => x.item == r.item.num && x.turn == r.turn | none => false
      if mine ∧ ¬ r.item.implicit then d.setChan ch { c with abandoned := true }
      else
        let d := if mine then d.setChan ch { c with active := none, cause := none, queuedAt := none } else d
        (d.unsend r).removeItem r.item.num r.turn

/-- Every running item that meets a condition is abandoned; the loaders discard what belonged to them (07 R247). -/
def Device.abandonRunning (d : Device) (p : ItemRt → Bool) : Device :=
  let d := forL (d.seq.items.filter fun r => r.phase == .running && p r) (fun r d => d.abandonItem r) d
  forL d.usedChans (fun ch d => d.refreshLoader ch) d

end Sys2Proof.Machine
end

