-- ==== Sys2Proof/Machine/Measure.lean ====
section
/-! DEFINITION. Headstock's keys, identity, nonce and measurement registers (15 R493, R499, R502, R503). -/

namespace Sys2Proof.Machine

/-- Code of a lifecycle state (15 HS_STATUS). -/
def lifecycleCode : Lifecycle → Nat
  | .blank => 0
  | .development => 1
  | .production => 2
  | .returned => 3

/-- Lifecycle state in force: that of the fuses at the latest start (15 R496). -/
def Device.life (d : Device) : Nat := d.rd Reg.HS_STATUS_lifecycle

-- Key slots (15 R493).

/-- Key in a slot of a class: 0 vendor, 1 owner. -/
def Otp.key (o : Otp) (cls slot : Nat) : List Byte := (if cls = 0 then o.vendor else o.owner).getD slot []

/-- A slot whose bytes are all zero is absent (15 R493). -/
def Otp.present (o : Otp) (cls slot : Nat) : Bool := (o.key cls slot).any fun b => b != 0

/-- Revocation bits of a class. -/
def Otp.revokedBits (o : Otp) (cls : Nat) : Nat := (if cls = 0 then o.vendorRevoked else o.ownerRevoked).toNat

/-- A slot's revocation bit is set. -/
def Otp.revoked (o : Otp) (cls slot : Nat) : Bool := bitAt (o.revokedBits cls) slot

/-- Bits of the present slots of a class. -/
def Otp.presentBits (o : Otp) (cls : Nat) : Nat := ((List.range 4).map fun k => if o.present cls k then 2 ^ k else 0).sum

/-- A revocation bit is set; it never clears (15 R493). -/
def Otp.revoke (o : Otp) (cls slot : Nat) : Otp :=
  let bit : BitVec 4 := BitVec.ofNat 4 (2 ^ (slot % 4))
  if cls = 0 then { o with vendorRevoked := o.vendorRevoked ||| bit } else { o with ownerRevoked := o.ownerRevoked ||| bit }

/-- HS_KEY_STATUS shows the key slots (15 R521). -/
def Device.showKeys (d : Device) (o : Otp) : Device :=
  (((d.wr Reg.HS_KEY_STATUS_owner_revoked (o.revokedBits 1)).wr Reg.HS_KEY_STATUS_owner_present (o.presentBits 1)).wr
    Reg.HS_KEY_STATUS_vendor_revoked (o.revokedBits 0)).wr Reg.HS_KEY_STATUS_vendor_present (o.presentBits 0)

-- Measurements (15 R502).

/-- Measurement register k. -/
def Device.meas (d : Device) (k : Nat) : List Byte := d.boot.meas.getD k []

/-- A measurement register extended by a digest: SHAKE256 of the register and the digest (15 R502). -/
def Device.extend (d : Device) (k : Nat) (digest : List Byte) : Device :=
  { d with boot := { d.boot with meas := lset d.boot.meas k (shake256 (d.meas k ++ digest)) } }

/-- The word HS_LOCK. -/
def Device.lockWord (d : Device) : Nat :=
  d.rd Reg.HS_LOCK_debug_lock + 2 * d.rd Reg.HS_LOCK_key_lock + 4 * d.rd Reg.HS_LOCK_pert_lock +
    8 * d.rd Reg.HS_LOCK_lifecycle_lock + 16 * d.rd Reg.HS_LOCK_flash_lock + 32 * d.rd Reg.HS_LOCK_seed_lock

/-- The word HS_KEY_STATUS. -/
def Device.keyWord (d : Device) : Nat :=
  d.rd Reg.HS_KEY_STATUS_vendor_present + 2 ^ 4 * d.rd Reg.HS_KEY_STATUS_vendor_revoked +
    2 ^ 8 * d.rd Reg.HS_KEY_STATUS_owner_present + 2 ^ 12 * d.rd Reg.HS_KEY_STATUS_owner_revoked

/-- Sequence of the booted slot. -/
def Device.bootSeq (d : Device) : Nat := if d.rdB Reg.HS_STATUS_boot_slot then d.boot.seqB else d.boot.seqA

/-- Byte 1 of the security state record (15 R502). -/
def Device.secFlags (d : Device) : Nat :=
  b2n d.boot.debugOpen + 2 * d.rd Reg.PERT_STATUS_open + 4 * b2n d.boot.seqTie + 8 * d.rd Reg.HS_STATUS_boot_slot

/-- The security state record (15 R502). -/
def Device.secRecord (d : Device) : List Byte :=
  leBytes 1 d.life ++ leBytes 1 d.secFlags ++ leBytes 2 0 ++ leBytes 4 d.lockWord ++ leBytes 4 d.keyWord ++
    leBytes 4 (d.rd Reg.HS_FP_SEQ_seq) ++ leBytes 8 d.bootSeq ++ leBytes 8 0

/-- M6 is extended by the security state record as it stands (15 R502). -/
def Device.extendSecurity (d : Device) : Device :=
  let r := d.secRecord
  { (d.extend 6 (shake256 r)) with boot := { (d.extend 6 (shake256 r)).boot with secState := r } }

/-- M6 is extended when the security state record has changed (15 R502). -/
def Device.noteSecurity (d : Device) : Device := if d.secRecord = d.boot.secState then d else d.extendSecurity

-- Nonce and identity (15 R499, R503).

/-- A new nonce, shown in HS_NONCE and PERT_NONCE (15 R499). -/
def Device.drawNonce (d : Device) : Device :=
  let (n, d) := d.tick
  let v := Config.draw n
  let d := { d with boot := { d.boot with nonce := v } }
  (d.wrPair Reg.HS_NONCE_LO_nonce Reg.HS_NONCE_HI_nonce v.toNat).wrPair Reg.PERT_NONCE_LO_nonce Reg.PERT_NONCE_HI_nonce v.toNat

/-- The ASCII text "NK3280-IDENTITY". -/
def identityText : List Byte := [0x4E, 0x4B, 0x33, 0x32, 0x38, 0x30, 0x2D, 0x49, 0x44, 0x45, 0x4E, 0x54, 0x49, 0x54, 0x59]

/-- The three identity seeds, SK.seed, SK.prf and PK.seed (15 R503). -/
def Device.identitySeeds (d : Device) (o : Otp) : List Byte :=
  shakeN 96 (identityText ++ o.seed ++ [if d.life = 3 then 2 else 1])

/-- The identity public key (15 R503). -/
def Device.identityKey (d : Device) (o : Otp) : List Byte := sliceOf (Config.slhPublic (d.identitySeeds o)) 0 64

/-- A digest's sixteen words in an array of registers. -/
def Device.wrWords (d : Device) (f : Nat → Fld) (bs : List Byte) : Device := forN 16 (fun w d => d.wr (f w) (fieldOf bs (4 * w) 4)) d

/-- The identity key is derived and HS_IDw shows its digest (15 R503). -/
def Device.deriveIdentity (d : Device) (o : Otp) : Device := d.wrWords Reg.HS_ID_word (shake256 (d.identityKey o))

end Sys2Proof.Machine
end

