-- ==== Sys2Proof/Machine/Pert.lean ====
section
/-! DEFINITION. The perturbation facility (13 R434 to R439): opening, closing, slots and authorisation records. -/

namespace Sys2Proof.Machine

/-- The facility is open. -/
def Device.pertIsOpen (d : Device) : Bool := d.rdB Reg.PERT_STATUS_open

/-- A kind of 13 R438 is allowed (PERT_STATUS.kinds). -/
def Device.kindAllowed (d : Device) (k : Nat) : Bool :=
  decide (1 ≤ k) && decide (k ≤ 7) && bitAt (d.rd Reg.PERT_STATUS_kinds) k

/-- The facility opens: 1 by the lifecycle, 2 by an owner's authorisation (13 R434, R440). -/
def Device.openPert (d : Device) (by_ kinds maxJobs slot : Nat) : Device :=
  let d := ((d.wr Reg.PERT_STATUS_open 1).wr Reg.PERT_STATUS_open_by by_).wr Reg.PERT_STATUS_kinds kinds
  let d := ((d.wr Reg.PERT_STATUS_owner_slot slot).wr Reg.PERT_JOBS_LEFT_jobs maxJobs).wr Reg.HS_STATUS_pert_open 1
  d.raise Ev.PERT_OPENED (by_ + kinds * 2 ^ 8 + maxJobs * 2 ^ 16)

/-- The facility closes: every slot is disabled and every injection ends (13 R437); why is 1 jobs used, 2 a start, 3 a write. -/
def Device.closePert (d : Device) (why : Nat) : Device :=
  if ¬ d.pertIsOpen then d
  else
    let d := forN 16 (fun i d => (d.wr (Reg.PERT_SLOT_CFG_enable i) 0).wr (Reg.PERT_SLOT_STATUS_state i) 0) d
    let d := ((d.wr Reg.PERT_STATUS_open 0).wr Reg.PERT_STATUS_open_by 0).wr Reg.PERT_STATUS_kinds 0
    let d := ((d.wr Reg.PERT_STATUS_owner_slot 0).wr Reg.PERT_JOBS_LEFT_jobs 0).wr Reg.HS_STATUS_pert_open 0
    d.raise Ev.PERT_CLOSED why

/-- A job has ended: an authorisation is used up with its last job (13 R437). -/
def Device.pertJobEnded (d : Device) : Device :=
  let n := d.rd Reg.PERT_JOBS_LEFT_jobs
  if d.pertIsOpen ∧ n ≠ 0xFFFF then
    let d := d.wr Reg.PERT_JOBS_LEFT_jobs (n - 1)
    if n ≤ 1 then (d.closePert 1).noteSecurity else d
  else d

/-- A PERT write is refused (13 R434, R438). -/
def Device.pertReject (d : Device) (offset : Nat) : Device := d.raise Ev.PERT_WRITE_REJECTED (offset % 4096)

/-- Turn in which a slot fires first; none when it counts from a job that has no first turn yet (13 R438). -/
def Device.slotTurn (d : Device) (i : Nat) : Option Nat :=
  if d.rdB (Reg.PERT_SLOT_CFG_relative i) then d.seq.jobFirst.map fun f => turnPlus f (d.rd (Reg.PERT_SLOT_TURN_turn i))
  else some (d.rd (Reg.PERT_SLOT_TURN_turn i))

/-- A write to PERT_SLOTi_CFG (13 R434, R438, R439). -/
def Device.writeSlot (d : Device) (i v : Nat) : Device :=
  if ¬ d.pertIsOpen then d.pertReject (0x100 + 0x20 * i)
  else
    let d := (((d.wr (Reg.PERT_SLOT_CFG_relative i) (bitsOf v 30 30)).wr (Reg.PERT_SLOT_CFG_every_turn i) (bitsOf v 29 29)).wr
      (Reg.PERT_SLOT_CFG_duration i) (bitsOf v 27 16)).wr (Reg.PERT_SLOT_CFG_kind i) (bitsOf v 3 0)
    if ¬ d.kindAllowed (bitsOf v 3 0) then d.pertReject (0x100 + 0x20 * i)
    else if ¬ bitAt v 31 then (d.wr (Reg.PERT_SLOT_CFG_enable i) 0).wr (Reg.PERT_SLOT_STATUS_state i) 0
    else
      let passed := match d.slotTurn i with
        | some t => d.sp.counting && !turnAhead t d.turn
        | none => false
      (d.wr (Reg.PERT_SLOT_CFG_enable i) 1).wr (Reg.PERT_SLOT_STATUS_state i) (if passed then 3 else 1)

/-- A slot fires in this index: its injection begins (13 R438). SILENT_LOSS meets retirement cause 7. -/
def Device.fireSlot (d : Device) (i : Nat) : Device :=
  let k := d.rd (Reg.PERT_SLOT_CFG_kind i)
  let d := d.raise Ev.PERT_INJECTED (i + k * 16 + d.rd (Reg.PERT_SLOT_TARGET_target i) * 2 ^ 32)
  let d := ((d.bump Reg.PERT_FIRED_injections 1).bump (Reg.PERT_SLOT_STATUS_fired i) 1).wr (Reg.PERT_SLOT_STATUS_state i) 2
  if k = 7 then d.meet 7 else d

/-- The slots whose turn and index begin now fire, in slot order (13 R438). -/
def Device.firePert (d : Device) : Device :=
  if ¬ d.pertIsOpen then d
  else forL (List.range 16) (fun i d =>
    let due : Bool := match d.slotTurn i with
      | some t => d.turn == t || (d.rdB (Reg.PERT_SLOT_CFG_every_turn i) && turnAhead d.turn t)
      | none => false
    if d.rdB (Reg.PERT_SLOT_CFG_enable i) ∧ due ∧ d.index = d.rd (Reg.PERT_SLOT_WHEN_index i) ∧
        d.kindAllowed (d.rd (Reg.PERT_SLOT_CFG_kind i)) ∧
        (d.rd (Reg.PERT_SLOT_STATUS_state i) = 1 ∨ (d.rd (Reg.PERT_SLOT_STATUS_state i) = 2 ∧ d.rdB (Reg.PERT_SLOT_CFG_every_turn i)))
    then d.fireSlot i else d) d

/-- Bound of the active SPINDLE_JITTER slots, ns; none when no slot of that kind is active (13 R438 kind 3). -/
def Device.jitterBound (d : Device) : Option Nat :=
  ((d.activeSlots 3).map fun i => bitsOf (d.rd (Reg.PERT_SLOT_PARAM_param i)) 15 0).max?

-- Authorisation records (13 R435, R436).

/-- A 29,920-byte record signed over its first 128 bytes with the key of a slot (13 R435, 15 R497). -/
def recordSigned (o : Otp) (cls slot : Nat) (r : List Byte) : Bool :=
  Config.slhVerify (o.key cls slot) (r.take 128) (r.drop 128)

/-- Length of a signed record. -/
def recordBytes : Nat := 128 + 29792

/-- The record's nonce is the current one, and its identity this device's (13 R436, 15 R498). -/
def Device.nonceMatches (d : Device) (r : List Byte) : Bool := fieldOf r 8 8 == d.boot.nonce.toNat

/-- The record's identity is that of this device (15 R503). -/
def Device.identityMatches (d : Device) (r : List Byte) : Bool :=
  sliceOf r 64 64 == (List.range 16).flatMap fun w => leBytes 4 (d.rd (Reg.HS_ID_word w))

/-- Verdict on an authorisation record: 0 accepted, else the reason of 13 R436. -/
def Device.authReason (d : Device) (o : Otp) (md : Mode) (r : List Byte) : Nat :=
  let f := fieldOf r
  if d.life ≠ 2 then 1
  else if md ≠ .ready ∧ md ≠ .parked then 2
  else if r.length ≠ recordBytes ∨ f 0 4 ≠ 0x41504B4E ∨ f 4 1 ≠ 1 ∨ bitsOf (f 6 2) 15 8 ≠ 0 ∨ bitAt (f 6 2) 0 ∨
      f 16 2 = 0 ∨ 1000 < f 16 2 ∨ leNat (sliceOf r 18 46) ≠ 0 then 3
  else if 3 < f 5 1 ∨ o.revoked 1 (f 5 1) then 4
  else if ¬ o.present 1 (f 5 1) ∨ ¬ recordSigned o 1 (f 5 1) r then 5
  else if ¬ d.nonceMatches r then 6
  else if ¬ d.identityMatches r then 7
  else 0

/-- An authorisation record is checked: it opens the facility or is rejected, and a new nonce is drawn (13 R434 to R436, 15
R499). Answers the reason. -/
def Device.authorise (d : Device) (o : Otp) (md : Mode) (r : List Byte) : Nat × Device :=
  let why := d.authReason o md r
  let f := fieldOf r
  let d := if why = 0 then (d.openPert 2 (f 6 2) (f 16 2) (f 5 1)).noteSecurity else d.raise Ev.PERT_AUTH_REJECTED why
  (why, d.drawNonce)

-- Commands.

/-- A write of 1 to PERT_CTRL.close (13 R437). -/
def Device.pertClose (d : Device) : Device := if d.pertIsOpen then (d.closePert 3).noteSecurity else d

/-- PERT_CLOSE (13 R437). -/
def execPertClose (s : State) : Host.Outcome State Fault Refusal := nextD s s.dev.pertClose

/-- PERT_SLOT_ENABLE: a write to PERT_SLOTi_CFG (13 R438). -/
def execPertSlotEnable (slot : Fin 16) (value : Word) (s : State) : Host.Outcome State Fault Refusal :=
  nextD s (s.dev.writeSlot slot.val value.toNat)

/-- PERT_SLOT_END: an active slot's duration has passed (13 R438). -/
def execPertSlotEnd (slot : Fin 16) (s : State) : Host.Outcome State Fault Refusal :=
  let d := s.dev
  let i := slot.val
  if d.rd (Reg.PERT_SLOT_STATUS_state i) = 2 ∧ d.rd (Reg.PERT_SLOT_CFG_kind i) ≠ 7 then
    nextD s (d.wr (Reg.PERT_SLOT_STATUS_state i) (if d.rdB (Reg.PERT_SLOT_CFG_every_turn i) then 1 else 3))
  else nextD s d

/-- PERT_NONCE_LO_READ (13 R439). -/
def execPertNonceLoRead (s : State) : Host.Outcome State Fault Refusal :=
  let d := s.dev
  nextD s (d.readLatching (d.rd Reg.PERT_NONCE_LO_nonce) Reg.PERT_NONCE_HI_nonce.addr (d.rd Reg.PERT_NONCE_HI_nonce))

end Sys2Proof.Machine
end

