-- ==== Sys2Proof/Machine/Retire.lean ====
section
/-! DEFINITION. The end of a job, and retirement criteria taking effect (00 R4; 13 R416 to R418): the end of every meaning that can
meet one. -/

namespace Sys2Proof.Machine

/-- A job has ended, in PARKED or in RETIRED (00 R4): held transactions are discarded, the freezing of the coverage set ends, and an
authorisation counts the job (12 R395; 13 R427, R437). -/
def Device.jobEnded (d : Device) : Device :=
  { d with
    seq := { d.seq with frozen := false, items := d.seq.items.filter fun r => r.phase == Phase.abandoned }
    join := { d.join with held := [], waiting := [] } }.pertJobEnded

/-- What a device does when it enters RETIRED, except for the change of state itself (13 R418, 17 R581). -/
def Device.retire (d : Device) (cause : Nat) : Device :=
  let d := (d.abandonRunning fun _ => true).jobEnded
  let d := { d with
    seq := { d.seq with starting := none }
    pins := { d.pins with safeAlert := true }
    fo := { d.fo with cause, retiredSince := true, silent := d.fo.silent || cause == 7 } }
  d.raise Ev.DEV_RETIRED cause

/-- VID_STATUS shows the final turn of a running replay: it is ending, or its last batch is the current one (11 R375, R377). -/
def Device.showReplay (d : Device) : Device :=
  let r := d.vid.replay
  if d.rd Reg.VID_STATUS_replay = 2 ∧ (r.ending ∨ (r.epochsLeft = 0 ∧ r.current.closed ∧ ¬ r.next.closed)) then
    d.wr Reg.VID_STATUS_replay 3
  else d

/-- A criterion met in the step just made takes effect: RETIRED in TURNING, the end of the replay in REPLAY, nothing elsewhere
(13 R416 to R418, R410). -/
def Device.settleAt (d : Device) (md : Mode) : Mode × Device :=
  match d.fo.pendingCause with
  | none => (md, d)
  | some c =>
    let d := { d with fo := { d.fo with pendingCause := none } }
    match md with
    | .turning => (.retired, d.retire c)
    | .replay => (md, { d with vid := { d.vid with replay := { d.vid.replay with retireMet := true, ending := true } } }.showReplay)
    | _ => (md, d)

/-- The outcome of a meaning whose work may have met a retirement criterion. -/
def settle (s : State) (d : Device) : Host.Outcome State Fault Refusal :=
  .next { s with mode := (d.settleAt s.mode).1, dev := (d.settleAt s.mode).2 }

end Sys2Proof.Machine
end

