-- ==== Sys2Proof/Machine/Arrays.lean ====
section
/-! DEFINITION. The matrix arrays: descriptors, strips and folding (02 R71 to R85, 03 R120 to R126, 05 R182, R183), summation,
overflow replay, the residue channel and the drain decision (04 R139 to R163, R172). -/

namespace Sys2Proof.Machine

-- Operand formats (02 R77).

/-- Format code of the A operand; MX elements are marked by `OpFmt.mx`. -/
structure OpFmt where
  /-- Element format codes of 02 R78; for MXINT8 code 1. -/
  a : Nat
  b : Nat
  kpc : Nat
  group : Nat
  mx : Bool
  w4 : Bool
  deriving DecidableEq, Repr

/-- The formats of an op_format code (02 R77); none for an unlisted one. -/
def opFmt (code : Nat) : Option OpFmt :=
  match code with
  | 0x01 => some ⟨1, 1, 4, 4, false, false⟩
  | 0x02 => some ⟨2, 1, 4, 4, false, false⟩
  | 0x03 => some ⟨3, 3, 4, 4, false, false⟩
  | 0x04 => some ⟨4, 4, 4, 4, false, false⟩
  | 0x05 => some ⟨3, 4, 4, 4, false, false⟩
  | 0x06 => some ⟨1, 1, 4, 16, true, false⟩
  | 0x07 => some ⟨3, 3, 4, 16, true, false⟩
  | 0x08 => some ⟨4, 4, 4, 16, true, false⟩
  | 0x09 => some ⟨1, 1, 8, 8, false, true⟩
  | 0x0A => some ⟨2, 1, 8, 8, false, true⟩
  | 0x0B => some ⟨3, 3, 8, 8, false, true⟩
  | 0x0C => some ⟨5, 5, 1, 4, false, false⟩
  | 0x0D => some ⟨6, 6, 1, 4, false, false⟩
  | _ => none

/-- INT32 accumulation (03 R110). -/
def OpFmt.int (f : OpFmt) : Bool := !f.mx && (f.a == 1 || f.a == 2)

/-- A matrix descriptor (02 R76) with its diagonal word (05 R182). -/
structure MatDesc where
  op : Nat
  flags : Nat
  m : Nat
  n : Nat
  k : Nat
  aBase : Nat
  bBase : Nat
  cBase : Nat
  aStride : Nat
  bStride : Nat
  rowStride : Nat
  out : Nat
  quant : Nat
  table : Nat
  diag : Nat
  deriving DecidableEq, Repr

/-- Fields of a MATRIX body (02 R76). -/
def matDesc (b : List Byte) (diag : Nat) : MatDesc :=
  { op := fieldOf b 0 1, flags := fieldOf b 1 1, m := fieldOf b 2 2, n := fieldOf b 4 2, k := fieldOf b 6 2
    aBase := fieldOf b 8 4, bBase := fieldOf b 12 4, cBase := fieldOf b 16 4, aStride := fieldOf b 20 2
    bStride := fieldOf b 22 2, rowStride := fieldOf b 24 2, out := fieldOf b 26 1, quant := fieldOf b 28 2
    table := fieldOf b 30 2, diag }

/-- The operand formats of a descriptor; a listed one, since the plan was checked (02 R79). -/
def MatDesc.fmt (x : MatDesc) : OpFmt := (opFmt x.op).getD ⟨1, 1, 4, 4, false, false⟩
def MatDesc.groups (x : MatDesc) : Nat := ceilDiv x.k x.fmt.kpc
def MatDesc.rowBlocks (x : MatDesc) : Nat := ceilDiv x.m 32
def MatDesc.colBlocks (x : MatDesc) : Nat := ceilDiv x.n 32
def MatDesc.passes (x : MatDesc) : Nat := x.rowBlocks * x.colBlocks

/-- Row and column block of a pass (02 R83). -/
def MatDesc.block (x : MatDesc) (pass : Nat) : Nat × Nat :=
  if bitAt x.flags 0 then (pass / x.colBlocks, pass % x.colBlocks) else (pass % x.rowBlocks, pass / x.rowBlocks)

/-- Valid rows and columns of a pass (02 R82, R83). -/
def MatDesc.valid (x : MatDesc) (pass : Nat) : Nat × Nat :=
  let (bm, bn) := x.block pass
  (min 32 (x.m - 32 * bm), min 32 (x.n - 32 * bn))

/-- Bytes of a line of an A or a B strip (02 R80). -/
def OpFmt.lineA (f : OpFmt) : Nat := if f.w4 then 256 else if f.a = 5 ∨ f.a = 6 then 64 else 128
def OpFmt.lineB (f : OpFmt) : Nat := if f.b = 5 ∨ f.b = 6 then 64 else 128

/-- Operand lines of a strip (02 R80). -/
def MatDesc.lines (x : MatDesc) : Nat := x.groups + 31

/-- Byte of element k of row or column i within its strip (02 R81). -/
def slotByte (kpc line e i k : Nat) : Nat := (k / kpc + i) * line + (i * kpc + k % kpc) * e

/-- Byte of the scale of row or column i for K position k, after the operand lines (03 R120). -/
def scaleByte (lines i k : Nat) : Nat := lines * 128 + (k / 32 / 4) * 128 + (k / 32 % 4) * 32 + i

/-- How a descriptor uses its requantisation record (03 R110, R111). -/
def MatDesc.use (x : MatDesc) : QUse :=
  let f := x.fmt
  { int := f.int, out := x.out, aRange := if f.int then zeroRange f.a else (0, 0)
    bRange := if f.int ∧ ¬ f.w4 then zeroRange f.b else (0, 0) }

-- Operands and products (04 R151, R152).

/-- An operand at a multiplier: M × 2^X with its residue, or a NaN. -/
structure Opnd where
  nan : Bool
  m : Int
  x : Int
  r : Nat
  deriving DecidableEq, Repr

/-- The zero operand (02 R82). -/
def Opnd.zero : Opnd := ⟨false, 0, 0, 0⟩

/-- Residue modulo 31, in 0 to 30. -/
def res31 (i : Int) : Nat := (i % 31).toNat

/-- An element after zero-point subtraction, with the residue channel's form of it (03 R108, R112; 04 R151, R152). -/
def opnd (fmt : Nat) (mxint : Bool) (zero : Int) (code : Nat) : Opnd :=
  match floatOf fmt with
  | none =>
    let v := intOf fmt code - zero
    ⟨false, v, if mxint then -6 else 0, res31 v⟩
  | some f =>
    match f.decode code with
    | .fin s m x => ⟨false, if s then -(m : Int) else m, x, res31 (if s then -(m : Int) else m)⟩
    | _ => ⟨true, 0, 0, 0⟩

/-- A block scale applied to an MX element; scale code 0xFF makes it NaN (03 R109, 04 R152). -/
def Opnd.scaled (o : Opnd) (scale : Nat) : Opnd :=
  if scale = 255 then ⟨true, 0, 0, 0⟩ else { o with x := o.x + ((scale : Int) - 127) }

/-- A product with the residue channel's residue of it. -/
structure Term where
  nan : Bool
  p : Int
  x : Int
  r : Nat
  deriving DecidableEq, Repr

/-- The product of two operands (03 R109, 04 R151, R154). -/
def prod (a b : Opnd) : Term := ⟨a.nan || b.nan, a.m * b.m, a.x + b.x, a.r * b.r % 31⟩

-- What a feeder holds of a pass: strips, scales, codebook, zero points.

/-- Everything a pass's multipliers see, once its last line has been read. -/
structure Feed where
  x : MatDesc
  a : List Byte
  b : List Byte
  scaleA : List Byte
  scaleB : List Byte
  book : List Byte
  head : QHead
  entries : List QEntry
  bn : Nat
  deriving DecidableEq, Repr

/-- The zero point of B for column j of the pass (03 R115). -/
def Feed.bZero (f : Feed) (j : Nat) : Int :=
  ((f.entries.getD (if f.head.perChannel then 32 * f.bn + j else 0) ⟨0, 0, 0, 0⟩).fix f.x.use).bZero

/-- A operand of row i at K position k. -/
def Feed.opA (f : Feed) (i k : Nat) : Opnd :=
  let m := f.x.fmt
  let e := fmtBytes m.a
  let o := opnd m.a m.mx (if m.int then (f.head.fix f.x.use).aZero else 0) (fieldOf f.a (slotByte m.kpc m.lineA e i k) e)
  if m.mx then o.scaled (fieldOf f.scaleA (scaleByte 0 i k) 1) else o

/-- Whether a diagonal pass uses the stored B element (05 R183). -/
def MatDesc.onDiagonal (x : MatDesc) (j k : Nat) : Bool :=
  let cg := 2 ^ bitsOf x.diag 2 0
  let og := 2 ^ bitsOf x.diag 5 3
  !bitAt x.flags 1 || k % (32 * cg / og) / cg == j / og

/-- B operand of column j at K position k; a W4 code selects a codebook entry with its stored residue (03 R122, R125). -/
def Feed.opB (f : Feed) (j k : Nat) : Opnd :=
  let m := f.x.fmt
  if ¬ f.x.onDiagonal j k then Opnd.zero
  else if m.w4 then
    let byte := fieldOf f.b ((k / 8 + j) * 128 + (j * 8 + k % 8) / 2) 1
    let code := if k % 2 = 0 then byte % 16 else byte / 16
    { opnd m.b false 0 (fieldOf f.book code 1) with r := fieldOf f.book (16 + code) 1 % 32 % 31 }
  else
    let e := fmtBytes m.b
    let o := opnd m.b m.mx (if m.int then f.bZero j else 0) (fieldOf f.b (slotByte m.kpc m.lineB e j k) e)
    if m.mx then o.scaled (fieldOf f.scaleB (scaleByte 0 j k) 1) else o

/-- The products of dot unit (i, j) over its K positions, in ascending order (04 R140). -/
def Feed.prods (f : Feed) (i j : Nat) : List Term := (List.range f.x.k).map fun k => prod (f.opA i k) (f.opB j k)

-- Summation (04 R139 to R144, R147) and residues (R153 to R155).

/-- An INT32 dot unit fed with shift s: its sum, and what the channel finds (04 R141, R147, R153). -/
def intDot (s : Nat) (ps : List Term) : Accum × DotCheck :=
  let sum := (ps.map fun p => p.p / 2 ^ s).sum
  let disc := (ps.map fun p => (p.p % 2 ^ s).toNat).sum
  let r : Nat := (ps.map Term.r).sum
  (.int sum, ⟨some (res31 (((res31 sum * 2 ^ s + disc : Nat) : Int) - (r : Nat))), []⟩)

/-- Products in groups of n (04 R140). -/
def chunks {α : Type} (n : Nat) : Nat → List α → List (List α)
  | 0, _ => []
  | fuel + 1, l => if l.isEmpty then [] else l.take n :: chunks n fuel (l.drop n)

/-- An exact group sum as integer and exponent Xmin, and how far its residue is off; none when a product is NaN (04 R140,
R143, R154). Every product is multiplied by 2^-s (04 R147). -/
def groupSum (s : Nat) (ps : List Term) : Option (Int × Int × Nat) :=
  if ps.any Term.nan then none
  else
    let lo := ps.foldl (fun a p => min a p.x) ((ps.head?.map Term.x).getD 0)
    let sum : Int := (ps.map fun p => p.p * ((2 ^ (p.x - lo).toNat : Nat) : Int)).sum
    let r : Nat := (ps.map fun p => p.r * 2 ^ ((p.x - lo).toNat % 5)).sum
    some (sum, lo - s, res31 ((res31 sum : Int) - r))

/-- A group is added to an FP32 accumulator: one rounding, an overflow mark that only NaN changes (04 R142). -/
def fpAdd (acc : Accum) (g : Option (Int × Int × Nat)) : Accum :=
  match acc, g with
  | .fp _ _, none => .fp (BitVec.ofNat 32 fp32.nanCode) none
  | .fp w none, some (v, x, _) =>
    match (fp32.decode w.toNat).add (.fin (decide (v < 0)) v.natAbs x) with
    | .nan => .fp (BitVec.ofNat 32 fp32.nanCode) none
    | .inf neg => .fp (BitVec.ofNat 32 (fp32.infCode neg)) (some neg)
    | .fin neg m y =>
      let c := fp32.roundMag m 1 y
      if fp32.maxCode < c then .fp (BitVec.ofNat 32 (fp32.infCode neg)) (some neg)
      else .fp (BitVec.ofNat 32 (fp32.signed neg c)) none
  | a, _ => a

/-- An FP32 dot unit fed with shift s (04 R142 to R144, R154, R155). A group with a NaN product makes the accumulator NaN and
is not checked; the channel's NaN flag then agrees with the accumulator. -/
def fpDot (s group : Nat) (ps : List Term) : Accum × DotCheck :=
  let gs := (chunks group ps.length ps).map (groupSum s)
  let offs := gs.filterMap fun g => g.map fun t => t.2.2
  (gs.foldl fpAdd (.fp 0 none), ⟨offs.head?, (offs.drop 1).eraseDups⟩)

/-- One dot unit of a feeding. -/
def Feed.dot (f : Feed) (s i j : Nat) : Accum × DotCheck :=
  if f.x.fmt.int then intDot s (f.prods i j) else fpDot s f.x.fmt.group (f.prods i j)

/-- Every valid dot unit of a pass, row by row. -/
def Feed.dots (f : Feed) (s rows cols : Nat) : List (Accum × DotCheck) :=
  (List.range (rows * cols)).map fun q => f.dot s (q / cols) (q % cols)

-- Reading (02 R83, R91; 03 R121, R122; 02 R591).

/-- A read by a feeder, a drain or the vector unit, which reach their own core's memory alone (02 R68): bytes of an operand that
lies beyond its end are free (log entry 74). -/
def Device.coreRead (d : Device) (md : Mode) (core off n : Nat) : List Byte × Bool × Device :=
  let inside := min n (coreMemSize - off)
  let (bs, bad, d) := d.readChecked md .engine (coreMemBase core + off) inside
  if inside = n then (bs, bad.isSome, d)
  else
    let (free, d) := d.freeBytes (n - inside)
    (bs ++ free, bad.isSome, d)

/-- A write by a drain or the vector unit, which reach their own core's memory alone (02 R68): nothing is written beyond its end
(log entry 74). -/
def Device.coreWrite (d : Device) (md : Mode) (core off : Nat) (bs : List Byte) : Device :=
  (d.writeChecked md .engine (coreMemBase core + off) (bs.take (coreMemSize - off))).2

/-- Codewords read once each at the offsets that are used, such as those of block scales (02 R94; 03 R121). -/
def Device.coreGather (d : Device) (md : Mode) (core base : Nat) (offs : List Nat) (size : Nat) : List Byte × Bool × Device :=
  forL offs (fun o (bs, bad, d) =>
    let (b, u, d) := d.coreRead md core (base + o) 8
    (patchAt bs o b, bad || u, d)) (List.replicate size 0, false, d)

/-- Offsets, within the scale lines, of the codewords that hold scales of the valid rows or columns (03 R120, R121). -/
def scaleOffsets (k valid : Nat) : List Nat :=
  (List.range (ceilDiv k 32)).flatMap fun b => (List.range (ceilDiv valid 8)).map fun i => scaleByte 0 (8 * i) (32 * b)

/-- Header and entries of a requantisation record as an array or a vector unit reads them (03 R114, R115), and whether a word of
it was uncorrectable. An array reads the header and every entry at the feed and again at the drain of each pass, so that a bad word
counts at each (DESIGN CHOICE, log entry 74). -/
def Device.readRecord (d : Device) (md : Mode) (core off n : Nat) : QHead × List QEntry × Bool × Device :=
  let (h, u0, d) := d.coreRead md core off 64
  let head := readHead h
  let count := if head.perChannel then n else 1
  let (es, u1, d) := d.coreRead md core (off + 64) (16 * count)
  (head, (List.range count).map (fun j => readEntry (es.drop (16 * j))), u0 || u1, d)

/-- QUANT_RECORD_FIXED (03 R119, R126, R138). -/
def Device.raiseFixed (d : Device) (core array off : Nat) (vector : Bool) : Device :=
  d.raise Ev.QUANT_RECORD_FIXED (core + (if vector then 0 else array * 2 ^ 16) + b2n vector * 2 ^ 18 + off * 2 ^ 32)

/-- All that the feeders read for one pass, and whether a word of an operand line, a scale line or a codebook record was
uncorrectable (02 R591). An uncorrectable word of the requantisation record, of which R591 does not speak, has free bytes and the
pass goes on, here and in the drain. A codebook of another format raises QUANT_RECORD_FIXED at every feeding that reads it (03 R126;
both DESIGN CHOICES, log entry 74). -/
def Device.readPass (d : Device) (md : Mode) (core array : Nat) (x : MatDesc) (pass : Nat) : Feed × Bool × Device :=
  let f := x.fmt
  let (bm, bn) := x.block pass
  let (rows, cols) := x.valid pass
  let aBase := x.aBase + bm * x.aStride * 64
  let bBase := x.bBase + bn * x.bStride * 64
  let (head, entries, _, d) := d.readRecord md core (x.quant * 64) x.n
  let (book, u0, d) := if f.w4 then d.coreRead md core (x.table * 64 + bn * 64) 33 else ([], false, d)
  let d := if f.w4 ∧ fieldOf book 32 1 ≠ (if f.int then 1 else 3)
    then d.raiseFixed core array (x.table * 64 + bn * 64) false else d
  let (a, u1, d) := d.coreRead md core aBase (x.lines * f.lineA)
  let (b, u2, d) := d.coreRead md core bBase (x.lines * f.lineB)
  let size := if f.mx then ceilDiv x.k 128 * 128 else 0
  let (sa, u3, d) := d.coreGather md core (aBase + x.lines * 128) (if f.mx then scaleOffsets x.k rows else []) size
  let (sb, u4, d) := d.coreGather md core (bBase + x.lines * 128) (if f.mx then scaleOffsets x.k cols else []) size
  ({ x, a, b, scaleA := sa, scaleB := sb, book, head, entries, bn }, u0 || u1 || u2 || u3 || u4, d)

-- Feeding (02 R83, 04 R148, R160, R163).

/-- The descriptor of the item that an array runs. -/
def Device.arrayDesc (d : Device) (a : ArrayRt) : Option MatDesc :=
  match a.item with
  | none => none
  | some num => (d.findItem num a.turn).map fun r => matDesc r.item.body r.item.diag

/-- The next pass starts feeding: a granted redo first, then the next pass of the descriptor; a replay is charged and a
recompute counted as its first line is fed (04 R148, R160, R171). -/
def Device.startFeed (d : Device) (core array : Nat) : Device :=
  let a := d.array core array
  match a.feeding, d.arrayDesc a with
  | none, some x =>
    if a.abandoned then d
    else
      match a.redo with
      | p :: rest =>
        let d := d.setArray core array { a with feeding := some p, redo := rest }
        if p.recompute then d.bump (Reg.CORE_ARRAY_RESIDUE_recomputes core array) 1
        else
          let c := d.core core
          ((d.setCore core { c with replays := c.replays + 1 }).bump (Reg.CORE_OVF_COUNT_replays core) 1).wr
            (Reg.CORE_OVF_TURN_replays_this_turn core) (min (c.replays + 1) 15)
      | [] =>
        if a.nextPass < x.passes then
          d.setArray core array { a with feeding := some { num := a.nextPass }, nextPass := a.nextPass + 1 }
        else d
  | _, _ => d

/-- The item of an array is over for the array: its last decision point is behind it (06 R210), or it was abandoned and
nothing of it is left to decide (02 R85). -/
def Device.finishArray (d : Device) (md : Mode) (core array : Nat) : Device :=
  let a := d.array core array
  match a.item, d.arrayDesc a with
  | some num, some x =>
    if a.feeding.isSome ∨ ¬ a.undecided.isEmpty then d
    else if a.abandoned then
      ((d.setArray core array { a with item := none, redo := [], abandoned := false }).removeItem num a.turn).sequence md
    else if a.redo.isEmpty ∧ x.passes ≤ a.settled then
      (d.setArray core array { a with item := none, draining := a.draining ++ [(num, a.turn)] }).sequence md
    else d
  | _, _ => d

/-- Accumulator of a dot unit outside the tile, whose missing operand is zero (02 R82): zero, but NaN where the operand it does
have is a NaN or an infinity (03 R109). -/
def Feed.outside (f : Feed) (rows cols i j : Nat) : Accum :=
  let ks := List.range f.x.k
  if f.x.fmt.int then .int 0
  else if (decide (i < rows) && ks.any fun k => (f.opA i k).nan) || (decide (j < cols) && ks.any fun k => (f.opB j k).nan) then
    .fp (BitVec.ofNat 32 fp32.nanCode) none
  else .fp 0 none

/-- Accumulators of a pass as the debug window shows them: 32 × 32 (02 R82, R107; 04 R164). -/
def Feed.bank (f : Feed) (rows cols : Nat) (accs : List Accum) : List Accum :=
  (List.range 1024).map fun q =>
    let i := q / 32
    let j := q % 32
    if i < rows ∧ j < cols then accs.getD (i * cols + j) (.int 0) else f.outside rows cols i j

/-- The feed cut to its first g groups of products (04 R140). -/
def Feed.upTo (f : Feed) (g : Nat) : Feed := { f with x := { f.x with k := min f.x.k (g * f.x.fmt.group) } }

/-- PASS_FEED_COMPLETE: the last line of the pass being fed is read, its sums form, and the next pass, replay or recompute
starts feeding (02 R71 to R73, R82, R83, R85, R591; 04 R139 to R144, R147, R148, R160). -/
def execPassFeedComplete (core : Fin 32) (array : Fin 4) (s : State) : Host.Outcome State Fault Refusal :=
  let d := s.dev
  let a := d.array core.val array.val
  match a.feeding, d.arrayDesc a with
  | some p, some x =>
    let (f, bad, d) := d.readPass s.mode core.val array.val x p.num
    let (rows, cols) := x.valid p.num
    let dots := f.dots p.shift rows cols
    let accs := dots.map Prod.fst
    let p := { p with badRead := bad, accs, checks := dots.map Prod.snd }
    let bank := f.bank rows cols accs
    let a := { d.array core.val array.val with
      feeding := none, undecided := a.undecided ++ [p], passParity := (a.passParity + 1) % 2
      bank0 := if a.passParity = 0 then bank else a.bank0
      bank1 := if a.passParity = 0 then a.bank1 else bank }
    settle s ((d.setArray core.val array.val a).startFeed core.val array.val)
  | _, _ => nextD s d

-- The decision point (04 R146 to R158).

/-- A dot unit holds an overflowed sum (04 R141, R142, R146). -/
def Accum.overflowed : Accum → Bool
  | .int v => decide (v < -(2 ^ 31 : Int)) || decide ((2 ^ 31 : Int) - 1 < v)
  | .fp _ m => m.isSome

/-- What an overflowed dot unit drains when its pass may not replay, and the sign of that end (04 R149). -/
def Accum.limit : Accum → Accum × Bool
  | .int v => if v < 0 then (.int (-(2 ^ 31 : Int)), true) else (.int (2 ^ 31 - 1), false)
  | .fp _ m => let neg := m.getD false; (.fp (BitVec.ofNat 32 (fp32.signed neg fp32.maxCode)) none, neg)

/-- Whether a dot unit mismatches: its check as fed, a residue raised by an injected fault (on one group or on all), or a
fault of the unit (04 R153, R154; 13 R438 kind 4). -/
def DotCheck.fails (c : DotCheck) (one all : Bool) : Bool :=
  let raised (off : Nat) : Nat := if one || all then (off + 30) % 31 else off
  (match c.first with | some off => raised off != 0 | none => false) ||
    c.later.any fun off => (if all then (off + 30) % 31 else off) != 0

/-- Active RESIDUE_FAULT slots of an array, as (slot, row, column, persistent) (13 R438 kind 4). -/
def Device.residueSlots (d : Device) (core array : Nat) : List (Nat × Nat × Nat × Bool) :=
  (d.activeSlots 4).filterMap fun i =>
    let t := d.rd (Reg.PERT_SLOT_TARGET_target i)
    if bitsOf t 7 0 = core ∧ bitsOf t 9 8 = array then
      some (i, bitsOf t 14 10, bitsOf t 19 15, bitAt (d.rd (Reg.PERT_SLOT_PARAM_param i)) 0)
    else none

/-- Payload of an NE arithmetic event (04 R173). -/
def nePayload (core array num pass shift content : Nat) : Nat :=
  core + array * 2 ^ 8 + num * 2 ^ 16 + min pass 65535 * 2 ^ 32 + shift * 2 ^ 48 + content * 2 ^ 52

/-- Replays granted to passes of a core and not yet fed; abandonment drops an array's and they give their places back (04 R148,
R163). -/
def Device.grantedReplays (d : Device) (core : Nat) : Nat :=
  ((List.range 4).map fun k =>
    let a := d.array core k
    if a.abandoned then 0 else (a.redo.filter fun p => decide (0 < p.shift) && !p.recompute).length).sum

/-- A mismatch is recorded and counted (04 R158, R171, R172). -/
def Device.countMismatch (d : Device) (core array row col pass : Nat) : Device :=
  let a := d.array core array
  let n := a.mismatchCount + 1
  let d := (d.setArray core array { a with mismatchCount := n }).wr
    (Reg.CORE_ARRAY_RESIDUE_mismatches_this_turn core array) (min n 4)
  if d.rdB (Reg.CORE_RESIDUE_LAST_valid core) then d
  else
    ((((d.wr (Reg.CORE_RESIDUE_LAST_array core) array).wr (Reg.CORE_RESIDUE_LAST_row core) row).wr
      (Reg.CORE_RESIDUE_LAST_column core) col).wr (Reg.CORE_RESIDUE_LAST_pass core) (min pass 65535)).wr
      (Reg.CORE_RESIDUE_LAST_valid core) 1

/-- The drain of a pass: every valid result requantised, counted and written, row by row (02 R83, R84; 03 R117, R131). Units
that drain a limit count as clipped at its end. -/
def Device.drain (d : Device) (md : Mode) (core array : Nat) (x : MatDesc) (p : PassRt) (saturate : Bool) : Device :=
  let (bm, bn) := x.block p.num
  let (rows, cols) := x.valid p.num
  let (head, entries, _, d) := d.readRecord md core (x.quant * 64) x.n
  let u := x.use
  let legal := head.legal u && entries.all fun e => e.legal u
  let a := d.array core array
  let d := if legal ∨ a.fixedRaised then d
    else (d.setArray core array { a with fixedRaised := true }).raiseFixed core array (x.quant * 64) false
  let head := head.fix u
  let e := fmtBytes x.out
  let d := forN rows (fun i d =>
    let (bs, d) := forN cols (fun j (bs, d) =>
      let en := (entries.getD (if head.perChannel then 32 * bn + j else 0) ⟨0, 0, 0, 0⟩).fix u
      let acc := p.accs.getD (i * cols + j) (.int 0)
      let q := if saturate ∧ acc.overflowed then
          let (lim, neg) := acc.limit
          { requantise head en x.out lim p.shift with low := neg, high := !neg }
        else requantise head en x.out acc p.shift
      (bs ++ leBytes e q.code, d.countRequant head q)) (([] : List Byte), d)
    d.coreWrite md core (x.cBase + (32 * bm + i) * x.rowStride + 32 * bn * e) bs) d
  d.bump (Reg.CORE_ARRAY_PASSES_passes core array) 1

/-- A pass is decided for good; the array may be done with its item. -/
def Device.settlePass (d : Device) (md : Mode) (core array : Nat) : Device :=
  let a := d.array core array
  ((d.setArray core array { a with settled := a.settled + 1 }).startFeed core array).finishArray md core array

/-- A replay or recompute is granted; it starts feeding at once when no pass is being fed (04 R160). -/
def Device.grantRedo (d : Device) (md : Mode) (core array : Nat) (p : PassRt) : Device :=
  let a := d.array core array
  ((d.setArray core array { a with redo := a.redo ++ [p] }).startFeed core array).finishArray md core array

/-- The residue check has failed at (row, col): a recompute, or a repeated mismatch that retires the part (04 R157, R158). -/
def Device.mismatched (d : Device) (md : Mode) (core array num : Nat) (p : PassRt) (row col : Nat) : Device :=
  let d := d.countMismatch core array row col p.num
  let fourth := decide (4 ≤ (d.array core array).mismatchCount)
  if p.recompute ∨ fourth then
    ((d.raise Ev.RESIDUE_REPEATED (nePayload core array num p.num p.shift
      (row + col * 2 ^ 5 + (b2n p.recompute + 2 * b2n fourth) * 2 ^ 10))).meet 1).settlePass md core array
  else if (d.array core array).abandoned then d.settlePass md core array
  else d.grantRedo md core array { num := p.num, shift := p.shift, recompute := true, place := (row, col) }

/-- The check has passed: the overflow test, and drain, replay or saturation (04 R146 to R150, R156). -/
def Device.overflowTest (d : Device) (md : Mode) (core array num : Nat) (x : MatDesc) (p : PassRt) : Device :=
  let spilt := (p.accs.filter Accum.overflowed).length
  if spilt = 0 then (d.drain md core array x p false).settlePass md core array
  else
    let c := d.core core
    let budget := decide (8 ≤ c.replays + d.grantedReplays core)
    if p.shift < 6 ∧ ¬ budget then
      (d.raise Ev.ACC_REPLAY (nePayload core array num p.num (p.shift + 2) 0)).grantRedo md core array
        { num := p.num, shift := p.shift + 2 }
    else
      let d := if p.shift < 6 ∧ ¬ c.spent then
          ((d.setCore core { c with spent := true }).wr (Reg.CORE_OVF_TURN_budget_spent core) 1).raise
            Ev.REPLAY_BUDGET_SPENT (nePayload core array num p.num p.shift 0)
        else d
      let d := d.bump (Reg.CORE_OVF_COUNT_saturated_passes core) 1
      let d := d.raise Ev.ACC_SATURATED (nePayload core array num p.num p.shift (min spilt 1023))
      let d := d.updItem num (d.array core array).turn fun r => { r with marks := r.marks ||| markSaturated }
      (d.drain md core array x p true).settlePass md core array

/-- PASS_DECISION_POINT: the oldest pass fed and undecided reaches its decision point (02 R82 to R85, R591; 04 R146 to R163;
13 R438). faults are dot units whose arithmetic failed in the feeding. -/
def execPassDecisionPoint (core : Fin 32) (array : Fin 4) (faults : List (Fin 32 × Fin 32)) (s : State) :
    Host.Outcome State Fault Refusal :=
  let d := s.dev
  let c := core.val
  let k := array.val
  let a := d.array c k
  match a.undecided, a.item, d.arrayDesc a with
  | p :: rest, some num, some x =>
    let d := d.setArray c k { a with undecided := rest }
    if p.badRead then settle s (d.settlePass s.mode c k)
    else
      let (rows, cols) := x.valid p.num
      let slots := d.residueSlots c k
      let used := slots.filter fun (_, i, j, _) => decide (i < rows) && decide (j < cols) &&
        (p.checks.getD (i * cols + j) ⟨none, []⟩).first.isSome
      let d := forL used (fun (i, _) d => d.slotUsed i) d
      let bad := (List.range (rows * cols)).find? fun q =>
        (p.checks.getD q ⟨none, []⟩).fails (used.any fun t => t.2.1 == q / cols && t.2.2.1 == q % cols)
          (used.any fun t => t.2.1 == q / cols && t.2.2.1 == q % cols && t.2.2.2) ||
        faults.any fun t => t.1.val == q / cols && t.2.val == q % cols
      match bad with
      | some q => settle s (d.mismatched s.mode c k num p (q / cols) (q % cols))
      | none =>
        if a.abandoned then settle s (d.settlePass s.mode c k)
        else
          let d := if p.recompute then
              d.raise Ev.RESIDUE_RECOMPUTED (nePayload c k num p.num p.shift (p.place.1 + p.place.2 * 2 ^ 5))
            else d
          settle s (d.overflowTest s.mode c k num x p)
  | _, _, _ => nextD s d

/-- DESCRIPTOR_COMPLETE: the last row of the last pass has been written, and the MATRIX item completes (02 R84, 06 R209, R211,
R215). -/
def execDescriptorComplete (core : Fin 32) (array : Fin 4) (s : State) : Host.Outcome State Fault Refusal :=
  let d := s.dev
  let a := d.array core.val array.val
  match a.draining with
  | (num, turn) :: rest =>
    settle s (((d.setArray core.val array.val { a with draining := rest }).completeItem num turn 0).sequence s.mode)
  | [] => nextD s d

/-- Replay and mismatch counts of a turn return to zero at index 0 (04 R148, R150, R158; step 1 of 01 R50). -/
def Device.resetBudgets (d : Device) : Device :=
  let d := forL d.cores (fun (c, x) d =>
    ((d.setCore c { x with replays := 0, spent := false }).wr (Reg.CORE_OVF_TURN_replays_this_turn c) 0).wr
      (Reg.CORE_OVF_TURN_budget_spent c) 0) d
  forL d.arrays (fun (k, x) d =>
    (d.setArray (k / 4) (k % 4) { x with mismatchCount := 0 }).wr
      (Reg.CORE_ARRAY_RESIDUE_mismatches_this_turn (k / 4) (k % 4)) 0) d

end Sys2Proof.Machine
end

