-- ==== Sys2Proof/Machine/Commit.lean ====
section
/-! DEFINITION. Blocks with shadow copies, the ranges of register fields, the commits of blocks and their deferral
(00 R9, R10; 01 R51 to R56, R64; the register tables). -/

namespace Sys2Proof.Machine

/-- Blocks with RWS fields, by source number (13 R412); core n is 16 + n. -/
def shadowBlocks : List Nat := [0, 1] ++ (List.range 32).map (16 + ·) ++ [3, 4, 5, 6, 7, 8, 9, 10]

/-- Base address of a block's registers (08 'Register regions'). -/
def blockBase (b : Nat) : Nat :=
  match b with
  | 0 => 0x10000000
  | 1 => 0x10100000
  | 3 => 0x14000000
  | 4 => 0x15000000
  | 5 => 0x16000000
  | 6 => 0x16100000
  | 7 => 0x16200000
  | 8 => 0x17000000
  | 9 => 0x17100000
  | 10 => 0x18000000
  | n => 0x11000000 + (n - 16) * 0x100000

/-- Source number of a block (13 R412): every core counts as source 2. -/
def blockSource (b : Nat) : Nat := if 16 ≤ b then 2 else b

/-- The address belongs to the block. -/
def inBlock (b a : Nat) : Bool := a / 0x100000 == blockBase b / 0x100000

/-- Fields of block_SHADOW_CTRL (01 R51). -/
def holdFld (b : Nat) : Fld := ⟨blockBase b + 0xF0, 0, 0, 0⟩
/-- commit_deferred of a block. -/
def deferredFld (b : Nat) : Fld := ⟨blockBase b + 0xF0, 2, 2, 0⟩
/-- deferred_turns of a block. -/
def deferredTurnsFld (b : Nat) : Fld := ⟨blockBase b + 0xF0, 15, 8, 0⟩

/-- Offset of an address into an array of registers, without search: each dimension by division, largest stride first. -/
def regHit (off : Nat) : List (Nat × Nat) → Bool
  | [] => off == 0
  | (n, s) :: ds => decide (off / s < n) && regHit (off % s) ds

/-- The register at a word address (08 'Register regions'); none for an unassigned offset. -/
def regAt (a : Nat) : Option RegDef :=
  (tableOf a).find? fun r => decide (r.base ≤ a) && regHit (a - r.base) r.dims

/-- Reset value of the field with a key. -/
def rstOfKey (k : Nat) : Nat :=
  match regAt (k / 32) with
  | some r => ((r.fields.find? (fun f => f.lo == k % 32)).map FldDef.rst).getD 0
  | none => 0

/-- A field value brought into its range, as its register's table says; o is the offset in the block or unit. -/
def clampField (a lo v : Nat) : Nat :=
  let k := a / 0x100000
  let o := a % 0x100000
  let base := v - v % 64
  if a = 0x10000038 ∧ lo = 0 then max v 64
  else if a = 0x10000010 then v &&& 0x87878787
  else if 0x10000200 ≤ a ∧ a < 0x10000300 ∧ a % 8 = 0 ∧ lo = 0 then v % 4096
  else if a = 0x10100100 ∧ lo = 24 then max v 1
  else if 0x110 ≤ k ∧ k < 0x130 then
    if o = 0x50 then max v 4 else if o = 0x1020 ∨ o = 0x1120 then max v 1 else v
  else if a = 0x14000004 then max v 1024
  else if k = 0x140 ∧ o % 0x100 = 0x20 then max v 1
  else if a = 0x15000008 ∧ lo = 4 then max v 1
  else if k = 0x160 then
    if 0x2000 ≤ o ∧ o < 0x2800 then (if o % 0x40 = 0x14 ∨ o % 0x40 = 0x20 then base else v)
    else if 0x3000 ≤ o ∧ o < 0x3200 then (if o % 0x40 = 0 ∧ lo = 16 then max v 1 else if o % 0x40 = 4 then base else v)
    else if 0x1000 ≤ o ∧ o < 0x2000 ∧ o % 0x200 = 4 then v &&& 0xBBBB
    else v
  else if k = 0x161 ∧ 0x1000 ≤ o then
    let r := o % 0x100
    if r = 0x08 ∨ r = 0x0C then max v 0x100
    else if (r = 0x10 ∨ r = 0x14 ∨ r = 0x18) ∧ lo = 24 then min v 20
    else if r = 0x28 ∧ lo = 8 then max v 1
    else if r = 0x20 ∨ r = 0x2C then base
    else if 0x40 ≤ r ∧ r < 0x80 ∧ r % 0x10 = 0 then base
    else if 0x80 ≤ r ∧ (r % 0x20 = 0x04 ∨ r % 0x20 = 0x0C) then base
    else v
  else if k = 0x162 then
    if o = 0x100 ∧ lo = 16 then max v 1
    else if o = 0x104 ∨ o = 0x118 ∨ o = 0x124 then base
    else if 0x200 ≤ o ∧ o < 0x400 then (if o % 0x20 = 4 ∧ lo = 24 then min v 51 else if o % 0x20 = 8 then base else v)
    else v
  else if a = 0x17000014 then max v 10
  else if k = 0x170 ∧ 0x100 ≤ o ∧ o < 0x200 ∧ o % 0x20 = 0 then max v 1
  else if a = 0x18000004 then min 450 (max 100 v)
  else if a = 0x18000010 then min 120 (max 85 v)
  else if a = 0x18000024 then base
  else if k = 0x180 ∧ 0x100 ≤ o ∧ o < 0x180 ∧ o % 0x20 = 0 then min 125 (max 40 v)
  else if k = 0x180 ∧ 0x100 ≤ o ∧ o < 0x180 ∧ o % 0x20 = 4 ∧ lo = 24 then min v 16
  else if k = 0x1A0 ∧ 0x100 ≤ o ∧ o % 0x40 = 0 then v - v % 4096
  else if k = 0x1B0 ∧ 0x100 ≤ o ∧ o % 0x20 = 8 then v % 4096
  else v

/-- Shadow copies of the fields whose word address satisfies p move to the active copies in one step (01 R52). -/
def Device.commitWhere (d : Device) (p : Nat → Bool) : Device :=
  let (mine, rest) := d.regs.shd.partition fun e => p (e.1 / 32)
  { d with regs := {
      act := forL mine (fun e m => mset (rstOfKey e.1) m e.1 e.2) d.regs.act
      shd := rest } }

/-- Deferral state of a block. -/
def Device.deferOf (d : Device) (b : Nat) : Defer := mget {} d.defer b

/-- Deferral state of a block replaced. -/
def Device.setDefer (d : Device) (b : Nat) (x : Defer) : Device := { d with defer := mset {} d.defer b x }

/-- A commit point of a block passes for the fields at addresses p (01 R52, R55). With the hold set nothing moves. -/
def Device.commitPoint (d : Device) (b : Nat) (p : Nat → Bool) : Device :=
  if d.rdB (holdFld b) then
    (d.wr (deferredFld b) 1).setDefer b { d.deferOf b with active := true }
  else
    let d := d.commitWhere p
    if (d.deferOf b).active then (d.setDefer b {}).wr (deferredTurnsFld b) 0 else d

/-- Index 0 is counted in a block's period of deferral, and SHADOW_HOLD_LONG is raised when the count becomes 2 (01 R56). -/
def Device.countDeferral (d : Device) (b : Nat) : Device :=
  let f := d.deferOf b
  if f.active then
    let d := d.bump (deferredTurnsFld b) 1
    let n := d.rd (deferredTurnsFld b)
    if n = 2 ∧ ¬ f.longRaised then
      (d.setDefer b { f with longRaised := true }).raiseFrom (blockSource b) Ev.SHADOW_HOLD_LONG
        ((if 16 ≤ b then b - 16 else 0xFF) + 256 * n)
    else d
  else d

end Sys2Proof.Machine
end

