-- ==== Sys2Proof/Machine/Faceplate.lean ====
section
/-! DEFINITION. Reading the faceplate in use (15 R508, R509, R511; 16 R533). -/

namespace Sys2Proof.Machine

/-- Section of a payload by type, from the directory at byte 64 (15 R508); empty when absent. -/
def fpSectionOf (payload : List Byte) (type : Nat) : List Byte :=
  match (List.range (fieldOf payload 8 2)).find? (fun k => fieldOf payload (64 + 16 * k) 2 == type) with
  | some k => sliceOf payload (fieldOf payload (64 + 16 * k + 4) 4) (fieldOf payload (64 + 16 * k + 8) 4)
  | none => []

/-- Section of the faceplate in use. -/
def Device.fpSection (d : Device) (type : Nat) : List Byte := fpSectionOf d.boot.faceplate type

/-- Field of the system section (15 R509). -/
def Device.fpSys (d : Device) (o n : Nat) : Nat := fieldOf (d.fpSection 1) o n

/-- Default quantisation threshold (15 R509, 03 R134). -/
def Device.fpThreshold (d : Device) : Nat := d.fpSys 28 4

/-- Entry of a port in the network section (16 R533); none when the faceplate does not name the port. -/
def Device.fpPort (d : Device) (p : Nat) : Option (List Byte) :=
  let net := d.fpSection 3
  ((List.range (fieldOf net 1 1)).map fun k => sliceOf net (32 + 192 * k) 192).find? fun e => fieldOf e 0 1 == p

/-- Flag bit of a port entry; false for an unnamed port. -/
def Device.portFlag (d : Device) (p k : Nat) : Bool :=
  match d.fpPort p with | some e => bitAt (fieldOf e 1 1) k | none => false

/-- A port's carries flag includes a kind of traffic: 0 sessions, 1 outputs, 2 model fetch, 3 logs (16 R533). -/
def Device.carries (d : Device) (p k : Nat) : Bool :=
  match d.fpPort p with | some e => bitAt (fieldOf e 4 1) k | none => false

/-- Lowest-numbered port that carries a kind of traffic (16 R543, R545, R546). -/
def Device.portFor (d : Device) (k : Nat) : Option Nat := (List.range 3).find? fun p => d.carries p k

/-- The part's UDP port (16 R530, R533). -/
def Device.udpPort (d : Device) : Nat :=
  let u := fieldOf (d.fpSection 3) 20 4 / 2 ^ 16
  if u = 0 then 48020 else u

/-- Destination of a kind of traffic on a port: the entry's output_dest or log_dest, or the model server, with its UDP port (16
R533, R543, R545, R546). TURN_END goes where OUTPUT goes (DEDUCED, log entry 77). -/
def Device.destinationOf (d : Device) (p k : Nat) : Nat × Nat × Nat :=
  let e := (d.fpPort p).getD []
  if k = 1 then (p, fieldOf e 84 16, fieldOf e 100 2)
  else if k = 3 then (p, fieldOf e 102 16, fieldOf e 118 2)
  else (p, fieldOf (d.fpSection 3) 4 16, fieldOf (d.fpSection 3) 20 2)

/-- An IPv4 address of four bytes as an IPv4-mapped one (16 R533). -/
def mappedV4 (v4 : Nat) : Nat := 0xFFFF * 2 ^ 80 + v4 % 2 ^ 32 * 2 ^ 96

/-- The IPv6 link-local address formed from a MAC address (16 R530; 15 R491): fe80::/64 with the modified EUI-64 (PRESUMED, log
entry 77). -/
def linkLocalOf (mac : Nat) : Nat :=
  let m := leBytes 6 mac
  leNat ([0xFE, 0x80, 0, 0, 0, 0, 0, 0] ++ [m.getD 0 0 ^^^ 2] ++ sliceOf m 1 2 ++ [0xFF, 0xFE] ++ sliceOf m 3 3)

/-- The IPv4 and IPv6 addresses that the faceplate gives a port (16 R530, R533). -/
def Device.givenAddresses (d : Device) (p : Nat) : List Nat :=
  match d.fpPort p with
  | some e =>
    (if fieldOf e 8 4 = 0 then [] else [mappedV4 (fieldOf e 8 4)]) ++ (if fieldOf e 16 16 = 0 then [] else [fieldOf e 16 16])
  | none => []

/-- A message is sent: it enters the messages sent (16 R534). -/
def Device.post (d : Device) (m : Message) : Device := { d with proto := { d.proto with tx := m :: d.proto.tx } }

/-- Class of a message, which is also its PCP and its queue (16 R531). -/
def classOf (msgType : Nat) : Nat :=
  if msgType = 0x30 ∨ msgType = 0x31 then 6 else if msgType = 0x38 then 2 else if msgType = 0x40 then 1 else 5

/-- Size of the output queue of a port (16 R559). -/
def txqCap : Nat := 4 * 2 ^ 20

/-- Bytes that a list of queued messages holds: of each its header and the payload that has not left (16 R534, R535). -/
def queuedBytes (q : List TxEntry) : Nat := (q.map fun e => 32 + e.left).sum

/-- Bytes in the output queue of a port (16 R559). -/
def Device.txUsed (d : Device) (p : Nat) : Nat := queuedBytes (d.proto.txq.getD p [])

/-- The output queue of a port has become longer: its messages, and the greatest use (16 R559). -/
def Device.setQueue (d : Device) (p : Nat) (q : List TxEntry) : Device :=
  let d := { d with proto := { d.proto with txq := lset d.proto.txq p q } }
  let used := d.txUsed p
  if d.rd (Reg.ETH_PORT_TXQ_peak_kib p) < used / 1024 then d.wr (Reg.ETH_PORT_TXQ_peak_kib p) (min (used / 1024) 65535) else d

/-- A message enters the output queue of its port, header and payload (16 R531, R534). What is no EMIT always enters: the rules
give a full queue an effect for EMIT and LOG_DATA alone (DESIGN CHOICE, log entry 77). -/
def Device.queueMessage (d : Device) (p : Nat) (m : Message) : Device :=
  d.setQueue p (d.proto.txq.getD p [] ++ [{ cls := classOf m.msgType, left := m.payload.length }])

/-- The entry is the one that an EMIT fills. -/
def TxEntry.fills (e : TxEntry) (src : Nat × Nat × Nat) : Bool := e.source == some src && e.more != 0

/-- n bytes of an EMIT's data enter the output queue of a port; with the first ones the message begins, its head of 32 bytes before
them (16 R543). -/
def Device.queueOutput (d : Device) (p : Nat) (src : Nat × Nat × Nat) (total n : Nat) : Device :=
  let q := d.proto.txq.getD p []
  if q.any fun e => e.fills src then
    d.setQueue p (q.map fun e => if e.fills src then { e with left := e.left + n, more := e.more - n } else e)
  else d.setQueue p (q ++ [{ cls := classOf 0x30, left := 32 + n, more := total - n, source := some src }])

/-- Entries of a port's gate list (16 R533). -/
def Device.gateCount (d : Device) (p : Nat) : Nat :=
  match d.fpPort p with | some e => fieldOf e 120 1 | none => 0

/-- Open classes of entry k of a port's gate list (16 R533). -/
def Device.gateClasses (d : Device) (p k : Nat) : Nat :=
  match d.fpPort p with | some e => fieldOf e (128 + 4 * k) 1 | none => 255

/-- The gate of a class is open: without gate_en every gate is, as it is while the list holds no entry (16 R531, ETH_PORTp_CTRL;
the empty list DESIGN CHOICE, log entry 77). -/
def Device.gateOpen (d : Device) (p cls : Nat) : Bool :=
  !(d.rdB (Reg.ETH_PORT_CTRL_gate_en p)) || d.gateCount p == 0 || bitAt (d.gateClasses p (d.proto.gate.getD p 0)) cls

/-- A port carries more than gPTP and MKA: it has no MACsec, or a live peer (16 R532). -/
def Device.portSecure (d : Device) (p : Nat) : Bool := !d.portFlag p 2 || d.proto.macsec.getD p false

/-- F of a port: the most payload bytes of a fragment, by the port's MTU, which its jumbo flag makes 9000 (16 R530, R533, R535). -/
def Device.fragmentMax (d : Device) (p : Nat) : Nat := if d.portFlag p 3 then 8896 else 1408

/-- The EMIT that fills an entry goes on (07 R256; 06 R212). -/
def Device.emitting (d : Device) (e : TxEntry) : Bool :=
  match e.source with
  | some (ch, item, turn) =>
    let c := d.chan ch
    e.more != 0 && c.cause.isNone && c.active.any fun x => x.item == item && x.turn == turn
  | none => false

/-- An entry has a fragment to send: one of F bytes, or what its message ends with (16 R535). -/
def Device.sendable (d : Device) (p : Nat) (e : TxEntry) : Bool := !d.emitting e || decide (d.fragmentMax p ≤ e.left)

/-- The output queue of a port without what an EMIT that has ended early left with nothing to send (06 R212, 07 R256). -/
def Device.sendQueue (d : Device) (p : Nat) : List TxEntry :=
  (d.proto.txq.getD p []).filter fun e => d.emitting e || e.more == 0 || e.left != 0

/-- The oldest message of a class that a port sends next, if a fragment of it can leave (16 R531: each queue is served first in,
first out). -/
def Device.headOf (d : Device) (p cls : Nat) : Option TxEntry :=
  ((d.sendQueue p).find? fun e => e.cls == cls).filter fun e => d.sendable p e

/-- The class that a port serves next: the highest one with a fragment to send among those whose gates are open (16 R531). -/
def Device.servedClass (d : Device) (p : Nat) : Option Nat :=
  if ¬ d.portSecure p then none
  else [7, 6, 5, 4, 3, 2, 1, 0].find? fun c => d.gateOpen p c && (d.headOf p c).isSome

/-- n payload bytes leave the oldest message of a class, which goes when none is left and none is to come. -/
def dequeue (toCome : TxEntry → Bool) (cls n : Nat) : List TxEntry → List TxEntry
  | [] => []
  | e :: rest =>
    if e.cls = cls then (if n < e.left ∨ toCome e then { e with left := e.left - n, sent := e.sent + n } :: rest else rest)
    else e :: dequeue toCome cls n rest

/-- Host entries: address and roles (16 R533). -/
def Device.fpHosts (d : Device) : List (Nat × Nat) :=
  let net := d.fpSection 3
  let base := 32 + 192 * fieldOf net 1 1
  (List.range (fieldOf net 2 1)).map fun k => (fieldOf net (base + 32 * k) 16, fieldOf net (base + 32 * k + 16) 1)

/-- Source entries (15 R511). -/
def Device.fpSources (d : Device) : List (List Byte) :=
  let s := d.fpSection 4
  (List.range (s.length / 96)).map fun k => sliceOf s (96 * k) 96

end Sys2Proof.Machine
end

