-- ==== Sys2Proof/Machine/Container.lean ====
section
/-! DEFINITION. Signed containers, image slots and faceplate copies: their checks (15 R482 to R489, R505 to R512; 12 R382, R383;
16 R533). -/

namespace Sys2Proof.Machine

-- Flash (15 R482).

/-- Bytes of a sparse store whose unlisted bytes are erased flash, 0xFF. -/
def flashRead (m : List Host.Cell) (o : Nat) : Nat → List Byte
  | 0 => []
  | n + 1 => mget 0xFF m o :: flashRead m (o + 1) n

/-- Bytes stored from an offset upward. -/
def flashWrite (m : List Host.Cell) (o : Nat) : List Byte → List Host.Cell
  | [] => m
  | b :: bs => flashWrite (mset 0xFF m o b) (o + 1) bs

/-- Bytes of a sparse store whose unlisted bytes are zero. -/
def cellsRead (m : List Host.Cell) (o : Nat) : Nat → List Byte
  | 0 => []
  | n + 1 => mget 0 m o :: cellsRead m (o + 1) n

/-- Bytes stored from an offset upward. -/
def cellsWrite (m : List Host.Cell) (o : Nat) : List Byte → List Host.Cell
  | [] => m
  | b :: bs => cellsWrite (mset 0 m o b) (o + 1) bs

/-- Size of an image slot (15 R482). -/
def slotSize : Nat := 16 * 2 ^ 20
/-- Size of a faceplate copy's area (15 R482). -/
def copySize : Nat := 65536
/-- Flash offset of slot s, 0 A and 1 B. -/
def slotBase (s : Nat) : Nat := s * slotSize
/-- Flash offset of a faceplate copy. -/
def copyBase (c : Nat) : Nat := 0x2000000 + c * copySize
/-- Flash offset of the owner area (15 R482). -/
def ownerBase : Nat := 0x2020000

-- Containers (15 R483 to R485).

/-- Header of a container. -/
def cType (h : List Byte) : Nat := fieldOf h 5 1
def cClass (h : List Byte) : Nat := fieldOf h 6 1
def cSlot (h : List Byte) : Nat := fieldOf h 7 1
def cSeq (h : List Byte) : Nat := fieldOf h 8 8
def cLength (h : List Byte) : Nat := fieldOf h 16 8
def cComponent (h : List Byte) : Nat := fieldOf h 28 2
def cDigest (h : List Byte) : List Byte := sliceOf h 32 64

/-- Offset of the signature (15 R483). -/
def cSigAt (h : List Byte) : Nat := 128 + ceilDiv (cLength h) 64 * 64

/-- Bytes of a signature (15 R483). -/
def sigBytes : Nat := 29792

/-- Bytes of a whole container. -/
def cTotal (h : List Byte) : Nat := cSigAt h + sigBytes

/-- Key class that a payload type requires in a lifecycle state (15 R484, R494). -/
def requiredClass (life type : Nat) : Option Nat :=
  if type = 1 ∨ type = 2 then some 0
  else if life = 0 then none
  else if life = 3 then some 0
  else some 1

/-- Payload of a container. -/
def containerPayload (bs : List Byte) : List Byte := sliceOf bs 128 (cLength bs)

/-- Reason FORMAT of 15 R485. -/
def containerMalformed (h : List Byte) (room : Nat) : Bool :=
  fieldOf h 0 4 != 0x43534B4E || fieldOf h 4 1 != 1 || cLength h == 0 || decide (2 ^ 40 < cLength h) ||
    fieldOf h 27 1 / 2 != 0 || (cType h != 2 && cComponent h != 0) || fieldOf h 30 2 != 0 || leNat (sliceOf h 96 32) != 0 ||
    decide (room < cTotal h)

/-- Check of a container (15 R485): 0 valid, else the reason. `get o n` reads n bytes at offset o of its storage of `room`
bytes; `seqOk` is its type's sequence rule. -/
def containerReason (o : Otp) (life type room : Nat) (seqOk : Nat → Bool) (get : Nat → Nat → List Byte) : Nat :=
  let h := get 0 128
  if containerMalformed h room then 1
  else if cType h ≠ type then 2
  else if fieldOf h 24 2 ≠ 0x3280 ∨ fieldOf h 26 1 ≠ 1 then 3
  else if some (cClass h) ≠ requiredClass life type then 4
  else if 3 < cSlot h ∨ ¬ o.present (cClass h) (cSlot h) then 5
  else if ¬ Config.slhVerify (o.key (cClass h) (cSlot h)) h (get (cSigAt h) sigBytes) then 6
  else if shake256 (get 128 (cLength h)) ≠ cDigest h then 7
  else if o.revoked (cClass h) (cSlot h) then 8
  else if bitAt (fieldOf h 27 1) 0 ∧ life ≠ 1 then 9
  else if ¬ seqOk (cSeq h) then 10
  else 0

-- The retained-state record (15 R514).

/-- What the record holds. Which bits of a flag word the two flags are is not given (DESIGN CHOICE, log entry 32). -/
def Retained.content (r : Retained) : List Byte :=
  leBytes 1 r.slot ++ leBytes 8 r.sequence ++ r.images.flatten ++ r.faceplate ++ leBytes 8 r.planAt ++ r.planDigest ++
    leBytes 1 (b2n r.pendingImage + 2 * b2n r.pendingFace)

/-- The CRC-32 over bytes 0 to 251 of the record (15 R514; the polynomial of 11 R369 PRESUMED, and the place of the CRC DEDUCED, log
entry 32). -/
def Retained.computed (r : Retained) : Nat := crc32 (sliceOf (Config.recordLayout r.content) 0 252)

/-- The record with the CRC-32 of what it holds. -/
def Retained.seal (r : Retained) : Retained := { r with crc := r.computed }

-- Image slots (15 R486, R487).

/-- Entries of the slot directory: component, offset, length, digest (15 R486). -/
def slotEntries (get : Nat → Nat → List Byte) : List (Nat × Nat × Nat × List Byte) :=
  let dir := get 128 4096
  (List.range (min (fieldOf dir 0 2) 42)).map fun k =>
    let e := sliceOf dir (16 + 96 * k) 96
    (fieldOf e 0 2, fieldOf e 8 4, fieldOf e 12 4, sliceOf e 16 64)

/-- Reason for the Headstock firmware container at the head of a slot image (15 R485, R487). -/
def slotHeadReason (o : Otp) (life : Nat) (get : Nat → Nat → List Byte) : Nat :=
  containerReason o life 1 slotSize (fun _ => true) get

/-- Reason for one listed component of a slot image: that of 15 R485, or 0xE when its container is valid but differs from its
entry (R489). -/
def componentReason (o : Otp) (life : Nat) (get : Nat → Nat → List Byte) (e : Nat × Nat × Nat × List Byte) : Nat :=
  let (id, off, len, digest) := e
  if off % 4096 ≠ 0 ∨ slotSize < off + len then 1
  else
    let sub (a n : Nat) : List Byte := get (off + a) n
    let r := containerReason o life 2 len (fun s => s == cSeq (get 0 128)) sub
    if r ≠ 0 then r
    else if cComponent (sub 0 128) ≠ id ∨ cDigest (sub 0 128) ≠ digest then 0xE
    else 0

/-- Reason of the first component that fails, in directory order; 0 when none does (15 R487, R489). -/
def componentsReason (o : Otp) (life : Nat) (get : Nat → Nat → List Byte) : Nat :=
  if 42 < fieldOf (get 128 2) 0 2 then 1
  else ((slotEntries get).map (componentReason o life get)).find? (fun r => r != 0) |>.getD 0

/-- A whole slot image under 15 R487. -/
def slotReason (o : Otp) (life : Nat) (get : Nat → Nat → List Byte) : Nat :=
  let r := slotHeadReason o life get
  if r ≠ 0 then r else componentsReason o life get

/-- Reader of slot s of the flash. -/
def Device.slotGet (d : Device) (s a n : Nat) : List Byte := flashRead d.boot.flash (slotBase s + a) n

/-- Reader of a faceplate copy in the flash. -/
def Device.copyGet (d : Device) (c a n : Nat) : List Byte := flashRead d.boot.flash (copyBase c + a) n

-- Faceplate contents (15 R508 to R512).

/-- Header and directory (15 R508, 06 R202): every known section stands once within the payload, and no unknown section is
required; reserved fields are ignored (00 R10). -/
def fpDirectoryOk (p : List Byte) : Bool :=
  let n := fieldOf p 8 2
  let entry (k : Nat) : List Byte := sliceOf p (64 + 16 * k) 16
  decide (64 ≤ p.length) && fieldOf p 0 4 == 0x50464B4E && fieldOf p 4 1 == 1 && fieldOf p 6 1 == 0 &&
    decide (1 ≤ n) && decide (n ≤ 16) && decide (64 + 16 * n ≤ p.length) &&
    (List.range n).all (fun k =>
      let e := entry k
      let known := decide (1 ≤ fieldOf e 0 2) && decide (fieldOf e 0 2 ≤ 4)
      (known || !bitAt (fieldOf e 2 2) 0) &&
        (!known || (fieldOf e 4 4 % 8 == 0 && decide (fieldOf e 4 4 + fieldOf e 8 4 ≤ p.length)))) &&
    [1, 2, 3, 4].all fun t => ((List.range n).filter fun k => fieldOf (entry k) 0 2 == t).length == 1

/-- Group size and dimensions fit the topology (12 R382). -/
def topologyFits (topo x y n : Nat) : Bool :=
  match topo with
  | 0 => n == 1 && x == 0 && y == 0
  | 1 => decide (2 ≤ n) && decide (n ≤ 8) && x == 0 && y == 0
  | 2 => decide (2 ≤ n) && decide (n ≤ 128) && x == 0 && y == 0
  | 3 => decide (1 ≤ x) && decide (x ≤ 7) && decide (1 ≤ y) && decide (y ≤ 15) && n == (x + 1) * (y + 1)
  | _ => false

/-- The system section's fields lie in their ranges, and the join role keeps 12 R383 (15 R509, R512); reserved fields are ignored
(00 R10). -/
def fpSystemOk (s : List Byte) : Bool :=
  let f := fieldOf s
  let n := f 12 2
  let dev := f 14 2 % 512
  let buddy := f 16 2
  let master := f 18 2
  let paired := bitAt buddy 15
  s.length == 64 && f 0 1 == 1 && decide (1 ≤ f 1 1) && decide (f 1 1 ≤ 5) && decide (f 2 1 ≤ 64) && decide (f 3 1 ≤ 16) &&
    decide (1 ≤ f 4 2) && decide (f 4 2 ≤ 64) && decide (1 ≤ n) && decide (n ≤ 128) && topologyFits (f 8 1) (f 9 1) (f 10 1) n &&
    decide (dev < n) && decide (master < n) &&
    (!paired || (decide (buddy % 512 < n) && buddy % 512 != dev)) && ((f 3 1 != 0) == paired) &&
    decide (f 28 4 ≤ 1000000) && decide (1 ≤ f 32 1)

/-- Fields that the system section sets (15 R509). -/
def systemField (a : Nat) (f : FldDef) : Bool :=
  a == 0x15000004 || (decide (0x15000040 ≤ a) && decide (a < 0x15000054)) || (decide (0x17000004 ≤ a) && decide (a ≤ 0x17000010)) ||
    (a == 0x10100100 && (f.lo == 24 || f.lo == 0)) || (a == 0x10000000 && f.lo == 5) || (a == 0x10100040 && f.lo == 0)

/-- A field that a register image may cover (15 R510): RW or RWS, or read-only with a value from the faceplate. -/
def imageField (a : Nat) (f : FldDef) : Bool :=
  (f.access == .rw || f.access == .rws || (f.access == .ro && f.effect == .cold)) && !systemField a f

/-- The regions that a register image may reach (15 R510). -/
def imageRegion (a : Nat) : Bool :=
  let k := a / 0x100000
  [0x100, 0x101, 0x140, 0x150, 0x160, 0x161, 0x162, 0x170, 0x171, 0x180].contains k || (decide (0x110 ≤ k) && decide (k < 0x130))

/-- A value that a register table calls reserved, for the field at bit lo of the word at an address (09 R323, 10 R351, 11
registers, 01 SP_SRC_CTRL). -/
def reservedValue (a lo v : Nat) : Bool :=
  if a = 0x10000010 then (List.range 4).any fun k => bitsOf v (8 * k + 6) (8 * k + 3) != 0
  else
    match regAt a with
    | none => false
    | some r =>
      if r.base = (Reg.CSI_RX_CFG_lanes 0).addr then lo == (Reg.CSI_RX_CFG_lanes 0).lo && v == 3
      else if r.base = (Reg.CSI_RX_LANEMAP_map 0).addr then (List.range 4).any fun k => bitAt v (4 * k + 2)
      else if r.base = (Reg.CSI_STREAM_CFG_route 0).addr then lo == (Reg.CSI_STREAM_CFG_route 0).lo && decide (4 < v)
      else if r.base = (Reg.CSI_STREAM_EMB_unpack 0).addr then lo == (Reg.CSI_STREAM_EMB_unpack 0).lo && v == 3
      else if r.base = (Reg.CSI_SCM_CFG_i2c_speed 0).addr then
        (lo == (Reg.CSI_SCM_CFG_i2c_speed 0).lo && v == 3) || (lo == (Reg.CSI_SCM_CFG_i3c_speed 0).lo && decide (4 < v))
      else if r.base = (Reg.ISP_C_CFG_exposures 0 0).addr then lo == (Reg.ISP_C_CFG_exposures 0 0).lo && v == 3
      else if r.base = (Reg.VID_ENC_CFG_src_kind 0).addr then lo == (Reg.VID_ENC_CFG_src_kind 0).lo && v == 3
      else false

/-- One entry of the register image (15 R510, R512). -/
def fpImageEntryOk (e : List Byte) : Bool :=
  let a := 0x10000000 + fieldOf e 0 4
  let mask := fieldOf e 4 4
  let value := fieldOf e 8 4
  imageRegion a && a % 4 == 0 &&
    match regAt a with
    | none => mask == 0
    | some r =>
      (List.range 32).all (fun b => !bitAt mask b || r.fields.any fun f => decide (f.lo ≤ b) && decide (b ≤ f.hi) && imageField a f) &&
        r.fields.all fun f => bitsOf mask f.hi f.lo == 0 || !reservedValue a f.lo (bitsOf (value &&& mask) f.hi f.lo)

/-- One port entry of the network section (16 R533). -/
def fpPortOk (e : List Byte) : Bool :=
  let f := fieldOf e
  decide (f 0 1 ≤ 2) && (!bitAt (f 1 1) 3 || f 0 1 != 0) && (!bitAt (f 1 1) 4 || f 0 1 == 0) &&
    (!bitAt (f 1 1) 2 || (decide (1 ≤ f 5 1) && decide (f 5 1 ≤ 3))) && decide (f 120 1 ≤ 16)

/-- The network section (16 R533); reserved fields are ignored (00 R10). -/
def fpNetworkOk (s : List Byte) : Bool :=
  let f := fieldOf s
  let p := f 1 1
  let h := f 2 1
  f 0 1 == 1 && decide (1 ≤ p) && decide (p ≤ 3) && decide (h ≤ 8) && s.length == 32 + 192 * p + 32 * h &&
    ((List.range p).map fun k => fieldOf s (32 + 192 * k) 1).Nodup &&
    (List.range p).all fun k => fpPortOk (sliceOf s (32 + 192 * k) 192)

/-- The source entries (15 R511): exactly one names the plan; reserved fields are ignored (00 R10). -/
def fpSourcesOk (s : List Byte) : Bool :=
  let es := (List.range (s.length / 96)).map fun k => sliceOf s (96 * k) 96
  s.length % 96 == 0 &&
    es.all (fun e =>
      let f := fieldOf e
      decide (1 ≤ f 4 1) && decide (f 4 1 ≤ 3) && decide (f 5 1 ≤ 1) && (f 5 1 != 0 || f 8 8 == 0) && ((f 0 4 == 0xFFFFFFFF) == (f 4 1 == 1))) &&
    (es.filter fun e => fieldOf e 4 1 == 1).length == 1

/-- GiB that the NE area keeps of an installed capacity, in units of 16 MiB (08 R267). -/
def neUnits (capacityUnits : Nat) (sys : List Byte) : Int :=
  (capacityUnits : Int) - 64 * fieldOf sys 2 1 - 64 - 64 * fieldOf sys 3 1 - fieldOf sys 4 2

/-- The content of a faceplate is valid (15 R512). The NE area is judged once the installed capacity has been detected. -/
def Device.fpContentOk (d : Device) (p : List Byte) : Bool :=
  let img := fpSectionOf p 2
  decide (p.length ≤ 32768) && fpDirectoryOk p && fpSystemOk (fpSectionOf p 1) && img.length % 12 == 0 &&
    (List.range (img.length / 12)).all (fun k => fpImageEntryOk (sliceOf img (12 * k) 12)) &&
    fpNetworkOk (fpSectionOf p 3) && fpSourcesOk (fpSectionOf p 4) &&
    (d.dramSize == 0 || decide (1024 ≤ neUnits (d.dramSize / 2 ^ 24) (fpSectionOf p 1)))

/-- Sequence rule of a faceplate container: bits 63:32 zero (15 R484). -/
def fpSeqOk (s : Nat) : Bool := decide (s < 2 ^ 32)

/-- Reason for a faceplate container in a store of `room` bytes: that of 15 R485, or 0xB for its content (R512). -/
def Device.faceplateReason (d : Device) (o : Otp) (room : Nat) (get : Nat → Nat → List Byte) : Nat :=
  let r := containerReason o d.life 5 room fpSeqOk get
  if r ≠ 0 then r
  else if d.fpContentOk (get 128 (cLength (get 0 128))) then 0 else 0xB

/-- Reason for a copy in the flash, 0xF when it is blank (15 R505, R506). -/
def Device.copyReason (d : Device) (o : Otp) (c : Nat) : Nat :=
  if d.copyGet c 0 4 = [0xFF, 0xFF, 0xFF, 0xFF] then 0xF else d.faceplateReason o copySize (d.copyGet c)

end Sys2Proof.Machine
end

