-- ==== Sys2Proof/Machine/Failover.lean ====
section
/-! DEFINITION. Lateness reports, the switch to the fallback list, takeovers, the degraded state and the evaluation of the buddy
(01 R46; 06 R225 to R227; 12 R398 to R401; 13 R419 to R430). -/

namespace Sys2Proof.Machine

/-- LATE is raised for an item, once (01 R46, R66). -/
def Device.raiseLate (d : Device) (r : ItemRt) : Device :=
  let d := d.updItem r.item.num r.turn fun x => { x with late := true }
  let d := { d with seq := { d.seq with
    lateEvents := d.seq.lateEvents + 1, critLate := d.seq.critLate || r.item.critical } }
  (d.bump Reg.SP_LATE_COUNT_late_items 1).raise Ev.LATE (r.item.num + r.item.deadline * 65536)

/-- The part enters the degraded state, once in a job (13 R430, R440). -/
def Device.degrade (d : Device) (why : Nat) : Device :=
  if d.fo.degraded then d else { d with fo := { d.fo with degraded := true } }.raise Ev.OUTPUT_DEGRADED why

-- Takeovers (12 R399 to R401).

/-- Every transaction held for one device is resent to another, with redirected set and the original kept (12 R399). -/
def Device.resendHeld (d : Device) (old new : Nat) : Device :=
  let move (h : HeldTx) : HeldTx := { h with destination := new, t := { h.t with destination := new, redirected := true } }
  let (mine, rest) := d.join.held.partition fun h => h.destination == old
  let d := { d with join := { d.join with
    held := rest, waiting := d.join.waiting.map fun h => if h.destination = old then move h else h } }
  forL mine (fun h d => d.acceptTx (move h)) d

/-- Every transaction held for a device of a pair that is lost twice is discarded (12 R401); their number. -/
def Device.discardHeld (d : Device) (ids : List Nat) : Nat × Device :=
  let keep (h : HeldTx) : Bool := !ids.contains h.destination
  let n := (d.join.held.filter fun h => !keep h).length + (d.join.waiting.filter fun h => !keep h).length
  (n, { d with join := { d.join with held := d.join.held.filter keep, waiting := d.join.waiting.filter keep } }.bump
    Reg.FX_COUNTS_lost n)

/-- Base of a device's report in the report area (14 R468). -/
def Device.reportAt (d : Device) (i : Nat) : Nat := d.rdPair Reg.PWR_REPORT_LO_report_lo Reg.PWR_REPORT_HI_report_hi + 32 * i

/-- The faceplate gives a report area: it names an address of shared memory (14 R468). -/
def Device.hasReportArea (d : Device) : Bool :=
  match d.place (d.reportAt d.self) with
  | .shared _ => true
  | _ => false

/-- The retired buddy's share of the group budget goes to this device, to its base, its allocation and one that waits for the next
tick: max(0, B - 60) W, up to 450 W (14 R471, R472). Without a report area there is no report (log entry 42). -/
def Device.takeBudget (d : Device) (md : Mode) (buddy : Nat) : Device :=
  if ¬ d.hasReportArea then d
  else
    let (base, _, d) := d.readChecked md (.component 1) (d.reportAt buddy + 16) 2
    let more (w : Nat) : Nat := min 450 (w + (leNat base - 60))
    let d := { d with pwr := { d.pwr with nextAlloc := d.pwr.nextAlloc.map more } }
    (d.wr Reg.PWR_GROUP_BASE_base_w (more (d.rd Reg.PWR_GROUP_BASE_base_w))).wr Reg.PWR_GROUP_ALLOC_alloc_w
      (more (d.rd Reg.PWR_GROUP_ALLOC_alloc_w))

/-- The sender becomes the master when the retired device was the master (12 R401); a master carries its own turn number (01
R63). -/
def Device.passMaster (d : Device) (sender retired : Nat) : Device :=
  if d.join.master = retired then
    let d := { d with join := { d.join with master := sender } }.wr Reg.SP_ALIGN_master_id sender
    if sender = d.self then { d with sp := { d.sp with masterTurnDelta := 0 } } else d
  else d

/-- The devices whose traffic has nowhere to go when the sender or the retired device already took over for another. -/
def Device.lostPair (d : Device) (sender retired : Nat) : List Nat :=
  ((d.join.redirects.filter fun p => p.2 == retired).map Prod.fst) ++
    (if (afind d.join.redirects sender).isSome then [sender] else [])

/-- What becomes of held transactions: resent under the redirection, or discarded and lost. -/
def Device.settleHeld (d : Device) (sender retired : Nat) (pair : List Nat) : Device :=
  match pair with
  | [] => d.resendHeld retired sender
  | _ =>
    let (n, d) := d.discardHeld (retired :: sender :: pair)
    (d.raiseFx Ev.FX_DELIVERY_LOST 0xFF retired n).degrade (if n = 0 then 2 else 1)

/-- The redirection itself, with its register bit. -/
def Device.redirect (d : Device) (sender retired : Nat) : Device :=
  let f := Reg.FX_REDIRECT_redirected (retired % 128 / 32)
  let d := { d with join := { d.join with redirects := aput d.join.redirects retired sender } }
  d.wr f (d.rd f ||| 2 ^ (retired % 32))

/-- A TAKEOVER is applied, by its sender included (12 R399, R401; 13 R425, R430). -/
def Device.applyTakeover (d : Device) (md : Mode) (sender retired : Nat) : Device :=
  let pair := d.lostPair sender retired
  let d := d.redirect sender retired
  let d := if pair.isEmpty then d.settleHeld sender retired pair else d
  let d := (d.raiseFx Ev.FX_TAKEOVER 0xFF retired sender).passMaster sender retired
  let d := if pair.isEmpty then d else d.settleHeld sender retired pair
  let d := if d.buddy = some retired then d.takeBudget md retired else d
  if retired = d.self then d.meet 5 else d

/-- A TAKEOVER that names this device is ignored when it has itself named the sender and its ID is lower (13 R425). -/
def Device.ignoresTakeover (d : Device) (sender retired : Nat) : Bool :=
  retired == d.self && d.fo.sentTakeover.contains sender && decide (d.self < sender)

/-- The switch's TAKEOVER to every other member of the group (12 R399; 01 R63). -/
def Device.sendTakeover (d : Device) (retired : Nat) : Device :=
  let payload := leBytes 2 retired ++ leBytes 2 d.self ++ leBytes 4 d.carriedTurn ++ leBytes 2 d.index ++ leBytes 6 0
  let d := { d with fo := { d.fo with sentTakeover := retired :: d.fo.sentTakeover } }
  forL ((List.range d.groupSize).filter fun k => k != d.self) (fun k d =>
    d.offerTx .takeover k none { emptyTx with turn := d.carriedTurn, payload }) d

-- The switch (06 R225 to R227).

/-- What the switch counts: items skipped, and items late at once. -/
structure SwitchCount where
  skipped : Nat := 0
  late : Nat := 0
  deriving DecidableEq, Repr

/-- A fallback item enters the turn of the switch: skipped when its work stands (06 R226), LATE when its deadline has passed
(06 R227). -/
def Device.admitFallback (d : Device) (released : List Nat) (i : Item) (c : SwitchCount) : SwitchCount × Device :=
  let r : ItemRt := { item := i, turn := d.turn, fallback := true }
  let add (d : Device) (r : ItemRt) : Device := { d with seq := { d.seq with items := d.seq.items ++ [r] } }
  if i.originLocal ∧ released.contains i.origin then ({ c with skipped := c.skipped + 1 }, add d { r with phase := .skipped })
  else if i.originRemote ∧ d.seq.coverage.contains i.origin then
    ({ c with skipped := c.skipped + 1 }, (add d { r with phase := .skipped }).applySignal i 0)
  else
    let d := add d r
    if i.deadline < d.index then ({ c with late := c.late + 1 }, d.raiseLate r) else (c, d)

/-- The switch to the fallback list (06 R225, R226, 13 R427): primary items dropped, and what it counts of the fallback
items. -/
def Device.switchLists (d : Device) : Nat × SwitchCount × Device :=
  let waits (r : ItemRt) : Bool := r.phase == Phase.waiting && !r.fallback
  let dropped := (d.seq.items.filter waits).length
  let released := (d.seq.items.filter (fun r => !r.fallback && r.turn == d.turn && !(r.phase == Phase.waiting || r.phase == Phase.dropped))).map
    (fun r => r.item.num)
  let d := { d with seq := { d.seq with
    items := d.seq.items.map (fun r => if waits r then { r with phase := .dropped } else r)
    fallbackActive := true, frozen := true } }
  let d := d.wr Reg.NE_PLAN_STATUS_fallback_active 1
  let fb := match d.seq.plan with | some p => p.fallback | none => []
  let (c, d) := forL fb (fun i (c, d) => d.admitFallback released i c) (({} : SwitchCount), d)
  (dropped, c, forN 80 (fun ch d =>
    let d := d.refreshLoader ch
    let k := d.chan ch
    if k.shadow.isNone ∧ k.loading.isNone then d.requestNext ch else d) d)

/-- Step 4d of 13 R420: the switch, the TAKEOVER, then BUDDY_LOST and FAILOVER_SWITCH. -/
def Device.failover (d : Device) (buddy why : Nat) : Device :=
  let d := { d with fo := { d.fo with lost := true, lostDevice := some buddy } }
  let (dropped, c, d) := d.switchLists
  let d := (d.sendTakeover buddy).applyTakeover .turning d.self buddy
  let d := d.raise Ev.BUDDY_LOST (buddy + why * 2 ^ 32)
  d.raise Ev.FAILOVER_SWITCH (min dropped 65535 + min c.skipped 65535 * 2 ^ 16 + min c.late 65535 * 2 ^ 32)

-- Boundaries of 64 indices (13 R420).

/-- Step 4a: HEARTBEAT to the buddy and ALIGN to every follower (12 R398). -/
def Device.sendRecords (d : Device) (md : Mode) : Device :=
  let d := match d.buddy with
    | some b =>
      if md = Mode.turning ∨ md = Mode.retired then
        let h := d.heartbeat md
        let d := { d with fo := { d.fo with sentCount := h.count } }
        d.transmit {
          kind := .heartbeat, destination := b
          t := { emptyTx with source := d.self, destination := b, original := b, turn := h.turn, payload := heartbeatBytes h } }
      else d
    | none => d
  if d.isMaster then
    let payload := leBytes 2 d.self ++ leBytes 2 0 ++ leBytes 4 d.turn ++ leBytes 2 d.index ++ leBytes 6 0 ++
      leBytes 8 d.sp.time ++ leBytes 8 0
    forL ((List.range d.groupSize).filter fun k => k != d.self) (fun k d =>
      d.transmit {
        kind := .align, destination := k
        t := { emptyTx with source := d.self, destination := k, original := k, turn := d.turn, payload } }) d
  else d

/-- The boundary 64 indices ago, as the buddy's heartbeats carry it (13 R419; 01 R63). -/
def Device.boundaryBefore (d : Device) : Nat × Nat :=
  if d.index = 0 then (turnPlus d.carriedTurn (2 ^ 32 - 1), 4032) else (d.carriedTurn, d.index - 64)

/-- The buddy is judged (13 R419): the new miss count, and why it is lost (1 misses, 2 retiring bit, 3 active list 2; 0 not
lost). -/
def Device.judgeBuddy (d : Device) : Nat × Nat :=
  let (t, k) := d.boundaryBefore
  let misses := if d.fo.seen.any (fun (h : Heartbeat) => h.turn == t && h.index == k) then 0 else d.fo.misses + 1
  let why := if 2 ≤ misses then 1
    else if d.fo.seen.any (fun (h : Heartbeat) => h.retiring) then 2
    else if d.fo.seen.any (fun (h : Heartbeat) => h.activeList == 2) then 3 else 0
  (misses, why)

/-- The buddy is evaluated at this boundary: a job's boundary but its first, with a buddy not yet lost (13 R419). -/
def Device.evaluates (d : Device) : Bool :=
  d.seq.jobBegun && !d.fo.lost && d.buddy.isSome && !(some d.turn == d.seq.jobFirst && d.index == 0)

/-- Steps 4c and 4d of 13 R420, for a device in TURNING. -/
def Device.evaluateBuddy (d : Device) : Device :=
  match d.buddy with
  | none => d
  | some b =>
    if ¬ d.evaluates then d
    else
      let (misses, why) := d.judgeBuddy
      let (_, k) := d.boundaryBefore
      let now := (d.carriedTurn, d.index)
      let d := { d with fo := { d.fo with
        misses, seen := d.fo.seen.filter fun (h : Heartbeat) => (h.turn, h.index) == now } }
      let d := d.raiseIf (misses == 1) Ev.HEARTBEAT_MISSED (b + k * 65536)
      if why = 0 then d else d.failover b why

/-- Step 4b of 13 R420: a device that has retired since the previous boundary enters the degraded state when its buddy is lost
at this one (13 R430). -/
def Device.judgeRetired (d : Device) : Device :=
  if ¬ d.fo.retiredSince then d
  else
    let lost := d.fo.lost || (d.evaluates && d.judgeBuddy.2 != 0)
    let d := { d with fo := { d.fo with retiredSince := false } }
    if lost ∧ d.seq.jobBegun then d.degrade 3 else d

/-- The steps of a multiple of 64 indices, between steps 4 and 5 of 01 R50 (13 R420). -/
def Device.boundary64 (d : Device) (md : Mode) : Mode × Device :=
  let d := d.sendRecords md
  let (md, d) := d.settleAt md
  let d := d.judgeRetired
  if md = .turning then (md, d.evaluateBuddy) else (md, d)

/-- At the start of a job the primary list is active and no device is lost or redirected; sequences start again (13 R426;
DESIGN CHOICE for the sequences, log entry 8). -/
def Device.resetJob (d : Device) : Device :=
  let d := { d with
    fo := { d.fo with
      misses := 0, lost := false, lostDevice := none, seen := [], sentCount := 0, degraded := false, cause := 0
      pendingCause := none, retiredSince := false, silent := false, sentTakeover := [] }
    join := { d.join with
      txSeq := [], rxSeq := [], held := [], waiting := [], fullRaised := false, redirects := [], refusals := [],
      asymmetric := false, master := d.rd Reg.FX_ROLE_master_id }
    seq := { d.seq with
      fallbackActive := false, frozen := false, coverage := [], stopping := false,
      jobBegun := false, items := d.seq.items.filter fun r => r.phase == Phase.abandoned }
    sp := { d.sp with finyxOverride := false, alignRun := 0 } }
  let d := forN 4 (fun k d => d.wr (Reg.FX_REDIRECT_redirected k) 0) d
  ((d.wr Reg.SP_ALIGN_master_id d.join.master).wr Reg.NE_PLAN_STATUS_fallback_active 0).wr Reg.SP_SLACK_min_unused 0

end Sys2Proof.Machine
end

