-- ==== Sys2Proof/Machine/Window.lean ====
section
/-! DEFINITION. Window records and their geometry, gathers into strips, sample gather, and fixed-rate feature compression (05);
strips as the skew buffer assembles them (02 R80 to R82, 03 R120, 07 R240). -/

namespace Sys2Proof.Machine

-- Window records (05 R175).

/-- A 64-byte window record. -/
structure Win where
  bytes : List Byte
  deriving DecidableEq, Repr

def Win.b (w : Win) (o : Nat) : Nat := fieldOf w.bytes o 1
def Win.h (w : Win) (o : Nat) : Nat := fieldOf w.bytes o 2
def Win.mode (w : Win) : Nat := w.b 1
def Win.fmt (w : Win) : Nat := w.b 2
def Win.flags (w : Win) : Nat := w.b 3
def Win.relative (w : Win) : Bool := bitAt w.flags 0
def Win.dense (w : Win) : Bool := bitAt w.flags 1
/-- The gather writes a dense tensor: only a sample gather does (05 R175, R191). -/
def Win.denseOut (w : Win) : Bool := w.mode == 3 && w.dense
def Win.poolOp (w : Win) : Nat := bitsOf w.flags 3 2
def Win.countPad (w : Win) : Bool := bitAt w.flags 4
def Win.inH (w : Win) : Nat := w.h 4
def Win.inW (w : Win) : Nat := w.h 6
def Win.channels (w : Win) : Nat := w.h 8
def Win.cFirst (w : Win) : Nat := w.h 10
def Win.cCount (w : Win) : Nat := w.h 12
def Win.kh (w : Win) : Nat := w.b 14
def Win.kw (w : Win) : Nat := w.b 15
def Win.sh (w : Win) : Nat := w.b 16
def Win.sw (w : Win) : Nat := w.b 17
def Win.dh (w : Win) : Nat := w.b 18
def Win.dw (w : Win) : Nat := w.b 19
def Win.padTop (w : Win) : Nat := w.b 20
def Win.padBottom (w : Win) : Nat := w.b 21
def Win.padLeft (w : Win) : Nat := w.b 22
def Win.padRight (w : Win) : Nat := w.b 23
def Win.insH (w : Win) : Nat := w.b 24
def Win.insW (w : Win) : Nat := w.b 25
def Win.pad (w : Win) : Nat := w.h 26
def Win.outH (w : Win) : Nat := w.h 28
def Win.outW (w : Win) : Nat := w.h 30
def Win.rowPitch (w : Win) : Nat := fieldOf w.bytes 32 4
def Win.pixPitch (w : Win) : Nat := w.h 36
def Win.samples (w : Win) : Nat := w.b 38
/-- Element size (05 R175). -/
def Win.e (w : Win) : Nat := fmtBytes w.fmt

/-- Virtual extent of a dimension (05 R177). -/
def virtualExtent (n ins : Nat) : Nat := (n - 1) * (ins + 1) + 1

/-- Output extent of a dimension (05 R177); 0 where the rule gives less than 1. -/
def outExtent (n ins p q k dil st : Nat) : Nat :=
  let span := virtualExtent n ins + p + q
  let reach := (k - 1) * dil + 1
  if span < reach then 0 else (span - reach) / st + 1

/-- Stored coordinate that a tap reads in one dimension; none on padding or an inserted zero (05 R178). -/
def tapCoord (o st k dil p n ins : Nat) : Option Nat :=
  let v : Int := (o * st + k * dil : Nat) - (p : Int)
  if v < 0 ∨ (virtualExtent n ins : Int) ≤ v ∨ v % ((ins + 1 : Nat) : Int) ≠ 0 then none else some (v.toNat / (ins + 1))

/-- Stored pixel of tap (ky, kx) of output pixel (oy, ox) (05 R178). -/
def Win.tap (w : Win) (oy ox ky kx : Nat) : Option (Nat × Nat) :=
  match tapCoord oy w.sh ky w.dh w.padTop w.inH w.insH, tapCoord ox w.sw kx w.dw w.padLeft w.inW w.insW with
  | some y, some x => some (y, x)
  | _, _ => none

/-- Address of the first used channel of a stored pixel (05 R178). -/
def Win.pixel (w : Win) (src y x : Nat) : Nat := src + y * w.rowPitch + x * w.pixPitch + w.cFirst * w.e

/-- Bytes of the pad code over the used channels. -/
def Win.padBytes (w : Win) : List Byte := (List.replicate w.cCount (leBytes w.e w.pad)).flatten

/-- First and last stored row that a window gather reads; the last is less than the first where every tap reads padding (05
R180). -/
def Win.rowSpan (w : Win) (first last : Nat) : Int × Int :=
  ((ceilDiv (first * w.sh - w.padTop) (w.insH + 1) : Nat),
    min ((virtualExtent w.inH w.insH : Int) - 1) ((last * w.sh + (w.kh - 1) * w.dh : Nat) - (w.padTop : Int)) / ((w.insH + 1 : Nat) : Int))

/-- Taps of an output pixel, ky outer (05 R179). -/
def Win.taps (w : Win) : List (Nat × Nat) := (List.range (w.kh * w.kw)).map fun t => (t / w.kw, t % w.kw)

/-- Reads of output pixel p counted from the first row of a gather (05 R178, R179; 07 R252). -/
def Win.pixelReads (w : Win) (src first p : Nat) : List (Nat × Nat) :=
  w.taps.flatMap fun t =>
    match w.tap (first + p / w.outW) (p % w.outW) t.1 t.2 with
    | some (y, x) => lineAccesses (w.pixel src y x) (w.cCount * w.e)
    | none => []

/-- The K vector of output pixel p from the bytes its reads returned, and the bytes left over (05 R179). -/
def Win.pixelRow (w : Win) (first p : Nat) (data : List Byte) : List Byte × List Byte :=
  forL w.taps (fun t (row, data) =>
    match w.tap (first + p / w.outW) (p % w.outW) t.1 t.2 with
    | some _ => (row ++ data.take (w.cCount * w.e), data.drop (w.cCount * w.e))
    | none => (row ++ w.padBytes, data)) (([] : List Byte), data)

-- Strips (02 R80 to R82).

/-- Shape of a strip: K elements per group, element size (07 R240). -/
structure StripShape where
  kpc : Nat
  e : Nat
  k : Nat
  deriving DecidableEq, Repr

/-- Line length: 32 rows of kpc elements (02 R80). -/
def StripShape.line (g : StripShape) : Nat := 32 * g.kpc * g.e
/-- Operand lines. -/
def StripShape.lines (g : StripShape) : Nat := ceilDiv g.k g.kpc + 31

/-- Byte b of line t of a strip over the rows of a block; unused slots are zero (02 R81, R82; 07 R240). -/
def StripShape.byteAt (g : StripShape) (rows : List (List Byte)) (t b : Nat) : Byte :=
  let slot := b / g.e
  let i := slot / g.kpc
  let pos := (t - i) * g.kpc + slot % g.kpc
  if i ≤ t ∧ pos < g.k then ((rows.getD i []).getD (pos * g.e + b % g.e) 0) else 0

/-- The operand lines of a strip. -/
def StripShape.bytes (g : StripShape) (rows : List (List Byte)) : List Byte :=
  (List.range (g.lines * g.line)).map fun q => g.byteAt rows (q / g.line) (q % g.line)

/-- The scale lines of a strip; scales holds each row's scales in block order (03 R120, 07 R240). -/
def scaleLines (k : Nat) (scales : List (List Byte)) : List Byte :=
  (List.range (ceilDiv k 128 * 128)).map fun q =>
    let blk := q / 128 * 4 + q % 128 / 32
    if blk * 32 < k then ((scales.getD (q % 32) []).getD blk 0) else 0

/-- Strip shape of a transfer: A operand of the op_format, or its B operand (07 R240). -/
def stripShape (op : Nat) (stripB : Bool) (k : Nat) : StripShape :=
  let f := (opFmt op).getD ⟨1, 1, 4, 4, false, false⟩
  ⟨f.kpc, fmtBytes (if stripB then f.b else f.a), k⟩

/-- The op_format is an MX one (02 R77). -/
def isMx (op : Nat) : Bool := match opFmt op with | some f => f.mx | none => false

-- Sample gather (05 R188 to R191).

/-- Sample coordinates in sixteenths (05 R188, R189); none for an absent sample. -/
def Win.sampleAt (w : Win) (oy ox s entry : Nat) : Option (Int × Int) :=
  if entry % 65536 = 0x8000 then none
  else
    let x := sextOf (entry % 65536) 16
    let y := sextOf (entry / 65536) 16
    if w.relative then
      some (x + 16 * (((ox * w.sw + s % w.kw * w.dw : Nat) : Int) - (w.padLeft : Nat)),
        y + 16 * (((oy * w.sh + s / w.kw * w.dh : Nat) : Int) - (w.padTop : Nat)))
    else some (x, y)

/-- The four taps of a sample with their weights (05 R190): coordinates and weight. -/
def sampleTaps (xy : Int × Int) : List (Int × Int × Nat) :=
  let x0 := xy.1 / 16
  let y0 := xy.2 / 16
  let fx := (xy.1 % 16).toNat
  let fy := (xy.2 % 16).toNat
  [(x0, y0, (16 - fx) * (16 - fy)), (x0 + 1, y0, fx * (16 - fy)), (x0, y0 + 1, (16 - fx) * fy), (x0 + 1, y0 + 1, fx * fy)]

/-- A tap lies in the stored image (05 R190). -/
def Win.inside (w : Win) (x y : Int) : Bool :=
  decide (0 ≤ x) && decide (x < w.inW) && decide (0 ≤ y) && decide (y < w.inH)

/-- One interpolated element from the codes of its four taps with their weights (05 R190). -/
def interpolate (fmt : Nat) (taps : List (Nat × Nat)) : Nat :=
  match floatOf fmt with
  | none =>
    let sum : Int := (taps.map fun t => intOf fmt t.1 * (t.2 : Nat)).sum
    tcOf (rneDiv sum 256) 8
  | some f =>
    let sum := taps.foldl (fun acc t =>
      if t.2 = 0 then acc else toFp32 (acc.add ((f.decode t.1).mul (.fin false t.2 (-8))))) (Num.fin false 0 0)
    f.encode sum

/-- Samples of the pixels p0 to p0 + n - 1, sample index inner. -/
def Win.sampleList (w : Win) (p0 n : Nat) : List (Nat × Nat) :=
  (List.range (n * w.samples)).map fun q => (p0 + q / w.samples, q % w.samples)

/-- Reads of a list of samples, as far as the bytes read so far decide them: the table entry, in one access wherever it lies, then
the taps it names (05 R188 to R190, R193). -/
def Win.sampleReads (w : Win) (src table first : Nat) : List (Nat × Nat) → List Byte → List (Nat × Nat)
  | [], _ => []
  | (p, s) :: rest, data =>
    let entry := [(table + (p * w.samples + s) * 4, 4)]
    if data.length < 4 then entry
    else
      let taps : List (Int × Int × Nat) := match w.sampleAt (first + p / w.outW) (p % w.outW) s (leNat (data.take 4)) with
        | some xy => (sampleTaps xy).filter fun t => w.inside t.1 t.2.1
        | none => []
      entry ++ taps.flatMap (fun t => lineAccesses (w.pixel src t.2.1.toNat t.1.toNat) (w.cCount * w.e)) ++
        w.sampleReads src table first rest (data.drop (4 + taps.length * (w.cCount * w.e)))

/-- The channel bytes of one sample, and the bytes left over (05 R190). -/
def Win.sampleRow (w : Win) (first p s : Nat) (data : List Byte) : List Byte × List Byte :=
  match w.sampleAt (first + p / w.outW) (p % w.outW) s (leNat (data.take 4)) with
  | none => (w.padBytes, data.drop 4)
  | some xy =>
    let n := w.cCount * w.e
    let (taps, rest) := forL (sampleTaps xy) (fun t (acc, data) =>
      if w.inside t.1 t.2.1 then (acc ++ [(data.take n, t.2.2)], data.drop n) else (acc ++ [(w.padBytes, t.2.2)], data))
      (([] : List (List Byte × Nat)), data.drop 4)
    ((List.range w.cCount).flatMap (fun c => leBytes w.e (interpolate w.fmt (taps.map fun t => (elemAt w.fmt t.1 c, t.2)))), rest)

/-- The rows of pixels p0 to p0 + n - 1: each a K vector of its samples (05 R191). -/
def Win.sampleRows (w : Win) (first p0 n : Nat) (data : List Byte) : List (List Byte) :=
  (forL (List.range n) (fun i (rows, data) =>
    let (row, data) := forL (List.range w.samples) (fun s (row, data) =>
      let (r, data) := w.sampleRow first (p0 + i) s data
      (row ++ r, data)) (([] : List Byte), data)
    (rows ++ [row], data)) (([] : List (List Byte)), data)).1

/-- The rows of pixels p0 to p0 + n - 1 of a window gather (05 R179). -/
def Win.gatherRows (w : Win) (first p0 n : Nat) (data : List Byte) : List (List Byte) :=
  (forL (List.range n) (fun i (rows, data) =>
    let (row, data) := w.pixelRow first (p0 + i) data
    (rows ++ [row], data)) (([] : List (List Byte)), data)).1

-- Compression (05 R194 to R198).

/-- Code width and block size of a rate code (05 R194). -/
def rateOf (code : Nat) : Nat × Nat :=
  match code with
  | 1 => (5, 48)
  | 2 => (3, 32)
  | _ => (2, 24)

/-- The mapped domain (05 R195). -/
def mapped (signed : Bool) (b : Byte) : Nat := if signed then (b.toNat + 128) % 256 else b.toNat

/-- Insertion into an ascending list of (value, position), ties in ascending position (05 R197). -/
def insertVal (v : Nat × Nat) : List (Nat × Nat) → List (Nat × Nat)
  | [] => [v]
  | w :: ws => if w.1 < v.1 ∨ (w.1 = v.1 ∧ w.2 < v.2) then w :: insertVal v ws else v :: w :: ws

/-- Least step exponent in 0 to 8 that reaches the range (05 R197). -/
def leastStep (range top : Nat) : Nat := ((List.range 9).find? fun s => decide (rneNat range (2 ^ s) ≤ top)).getD 8

/-- Three positions of greatest error, ties to the lower position, in ascending position (05 R197). -/
def worstThree (errs : List Nat) : List Nat :=
  let ranked := forL (errs.zipIdx) (fun (e, i) l => insertVal (255 - e, i) l) ([] : List (Nat × Nat))
  ((ranked.take 3).map Prod.snd).mergeSort

/-- A block of 64 values compressed (05 R195, R197). -/
def compressBlock (rate : Nat) (signed : Bool) (vals : List Byte) : List Byte :=
  let (w, size) := rateOf rate
  let top := 2 ^ w - 1
  let u := (List.range 64).map fun i => mapped signed (vals.getD i 0)
  let sorted := (forL (u.zipIdx) (fun v l => insertVal v l) ([] : List (Nat × Nat))).map Prod.fst
  let cand := (List.range 4).map fun j =>
    let b := sorted.getD j 0
    (leastStep (sorted.getD (60 + j) 0 - b) top, b)
  let best := cand.foldl (fun a c => if c.1 < a.1 then c else a) (cand.headD (8, 0))
  let s := best.1
  let base := best.2
  let codes := u.map fun v => if v < base then 0 else min (rneNat (v - base) (2 ^ s)) top
  let errs := (u.zip codes).map fun (v, c) => ((v : Int) - (min (base + c * 2 ^ s) 255 : Nat)).natAbs
  let exc := worstThree errs
  let bits := base + s * 2 ^ 8 + (rate + b2n signed * 8) * 2 ^ 12 +
    (codes.zipIdx.map fun (c, i) => c * 2 ^ (16 + w * i)).sum +
    (exc.zipIdx.map fun (p, x) => (p + u.getD p 0 * 64) * 2 ^ (16 + 64 * w + 14 * x)).sum
  leBytes size bits

/-- A block decompressed, and whether it breaks the format (05 R196, R198). -/
def expandBlock (rate : Nat) (signed : Bool) (block : List Byte) : List Byte × Bool :=
  let (w, size) := rateOf rate
  let v := leNat block
  let base := bitsOf v 7 0
  let s := min (bitsOf v 11 8) 8
  let e := 16 + 64 * w
  let u := (List.range 64).map fun i => min (base + bitsOf v (16 + w * i + w - 1) (16 + w * i) * 2 ^ s) 255
  let u := forN 3 (fun x u => lset u (bitsOf v (e + 14 * x + 5) (e + 14 * x)) (bitsOf v (e + 14 * x + 13) (e + 14 * x + 6))) u
  (u.map fun x => BitVec.ofNat 8 (if signed then (x + 128) % 256 else x),
    decide (8 < bitsOf v 11 8) || bitsOf v 15 12 != rate + b2n signed * 8 || bitsOf v (8 * size - 1) (e + 42) != 0)

/-- A line compressed block by block (07 R241). -/
def compressLine (rate : Nat) (signed : Bool) (bs : List Byte) : List Byte :=
  (chunks 64 bs.length bs).flatMap (compressBlock rate signed)

/-- A line decompressed block by block, with the number of blocks that break the format (07 R241, R260). -/
def expandLine (rate : Nat) (signed : Bool) (bs : List Byte) : List Byte × Nat :=
  let blocks := (chunks (rateOf rate).2 bs.length bs).map (expandBlock rate signed)
  (blocks.flatMap Prod.fst, (blocks.filter Prod.snd).length)

end Sys2Proof.Machine
end

