-- ==== Sys2Proof/Machine/Vector.lean ====
section
/-! DEFINITION. The vector unit (02 R96, R97, R591 to R594; 03 R117, R129; 04 R165 to R170; 05 R185, R186; 06 R208, R211). -/

namespace Sys2Proof.Machine

/-- Fields of a VECTOR body (06 R207). -/
structure VOp where
  vop : Nat
  inT : Nat
  outT : Nat
  src0 : Nat
  src1 : Nat
  dst : Nat
  count : Nat
  record : Nat
  window : Nat
  inner : Nat
  deriving DecidableEq, Repr

/-- A VECTOR body (06 R207). -/
def vopOf (b : List Byte) : VOp :=
  { vop := fieldOf b 0 1, inT := fieldOf b 1 1, outT := fieldOf b 2 1, src0 := fieldOf b 4 4, src1 := fieldOf b 8 4
    dst := fieldOf b 12 4, count := fieldOf b 16 4, record := fieldOf b 20 2, window := fieldOf b 22 1, inner := fieldOf b 24 4 }

-- Element-wise operations.

/-- Minimum or maximum: src0 on equality, NaN when either is NaN (02 R594). -/
def pick (max : Bool) (a b : Num) : Num :=
  if a.isNan ∨ b.isNan then .nan
  else if (if max then a.lt b else b.lt a) then b else a

/-- Result of an element-wise operation before it is stored (06 R208); dst is the old destination of a fused multiply-add. -/
def elementwise (vop : Nat) (a b dst : Num) : Num :=
  match vop with
  | 1 => a.add b
  | 2 => a.add b.neg
  | 3 => a.mul b
  | 4 => (a.mul b).add dst
  | 5 => pick false a b
  | 6 => pick true a b
  | _ => if b.lt a then .ofInt 1 else .ofInt 0

/-- Integer square root by fuel bits of bisection. -/
def isqrt (n : Nat) : Nat → Nat → Nat
  | 0, r => r
  | k + 1, r => if (r + 2 ^ k) * (r + 2 ^ k) ≤ n then isqrt n k (r + 2 ^ k) else isqrt n k r

/-- ln 2 × 2^96. -/
def ln2x96 : Nat := 54916777467707473351141471128

/-- The exponential of a finite value, as magnitude and exponent of two, to far more bits than FP32 holds. -/
def expApprox (neg : Bool) (mag : Nat) (x : Int) : Nat × Int :=
  let v : Int := if neg then -(mag : Int) else mag
  let t : Int := if 0 ≤ x + 96 then v * (2 ^ (x + 96).toNat : Nat) else v / (2 ^ (-(x + 96)).toNat : Nat)
  let k := t / (ln2x96 : Int)
  let r := (t % (ln2x96 : Int)).toNat
  let sum := forN 40 (fun i (st : Nat × Nat) =>
    let term := st.2 * r / 2 ^ 96 / (i + 1)
    (st.1 + term, term)) (2 ^ 96, 2 ^ 96)
  (sum.1, k - 96)

/-- An FP32 magnitude code lies within 2 units in the last place of the exact magnitude num / den × 2^x (02 R97). -/
def within2Ulp (c num den : Nat) (x : Int) : Bool :=
  let q : Int := max (lg2Rat num den + x) (-126) - 23
  match fp32.decode c with
  | .fin _ m e =>
    let lo := min (min e x) q
    let at_ (v : Nat) (y : Int) : Int := (v * 2 ^ (y - lo).toNat : Nat)
    decide ((at_ m e * den - at_ num x).natAbs ≤ (2 * at_ 1 q * den).natAbs)
  | _ => false

/-- The FP32 code of a result whose exact magnitude is num / den × 2^x: a code within 2 units in the last place, which one is
free (02 R97); beyond the largest finite magnitude the infinity. -/
def withError (vop w : Nat) (neg : Bool) (num den : Nat) (x : Int) : Nat :=
  let r := fp32.roundMag num den x
  let c := r + Config.ulpError vop (BitVec.ofNat 32 w) % 9 - 4
  if fp32.maxCode < r then fp32.infCode neg
  else if c ≤ fp32.maxCode ∧ within2Ulp c num den x then fp32.signed neg c
  else fp32.signed neg r

/-- Exponent, reciprocal and reciprocal square root of an FP32 value, as an FP32 code (02 R97, 06 R208); special values as IEEE
754 gives them, without error. -/
def transcend (vop : Nat) (v : Num) (w : Nat) : Nat :=
  match vop, v with
  | _, .nan => fp32.nanCode
  | 0x10, .inf s => if s then 0 else fp32.infCode false
  | 0x10, .fin s m x =>
    if m = 0 then 0x3F800000
    else if 8 ≤ lg2Rat m 1 + x then (if s then withError vop w false 1 1 (-369) else fp32.infCode false)
    else let (n, y) := expApprox s m x; withError vop w false n 1 y
  | 0x11, .inf s => fp32.signed s 0
  | 0x11, .fin s m x => if m = 0 then fp32.infCode s else withError vop w s 1 m (-x)
  | _, .inf s => if s then fp32.nanCode else 0
  | _, .fin s m x =>
    if m = 0 then fp32.infCode s
    else if s then fp32.nanCode
    else
      let (m', x') := if x % 2 = 0 then (m, x) else (2 * m, x - 1)
      withError vop w false (2 ^ 80) (isqrt (m' * 2 ^ 160) 110 0) (-(x' / 2))

/-- Result code of an element-wise operation or a conversion (06 R208). -/
def elementCode (v : VOp) (a b dst : Nat) : Nat :=
  match v.vop with
  | 0x07 => codeOf 1 (elementwise 7 (numOf v.inT a) (numOf v.inT b) .nan)
  | 0x10 | 0x11 | 0x12 => codeOf v.outT (fp32.decode (transcend v.vop (numOf v.inT a) (codeOf 8 (numOf v.inT a))))
  | 0x50 => codeOf v.outT (numOf v.inT a)
  | op => codeOf v.outT (elementwise op (numOf v.inT a) (numOf v.inT b) (numOf v.outT dst))

-- Reductions (04 R170).

/-- One level of pairwise combination: an element without a partner passes up unchanged. -/
def pairLevel (f : Num → Num → Num) : List Num → List Num
  | a :: b :: rest => f a b :: pairLevel f rest
  | l => l

/-- A chunk combined pairwise until one result is left. -/
def treeOf (f : Num → Num → Num) : Nat → List Num → Num
  | 0, l => l.headD (.fin false 0 0)
  | fuel + 1, l => match l with
    | [] => .fin false 0 0
    | [a] => a
    | l => treeOf f fuel (pairLevel f l)

/-- Row sum or row maximum: chunks of 2048 bits combined pairwise, then one after another (04 R170, 02 R594). -/
def rowReduce (max : Bool) (inT : Nat) (vals : List Num) : Num :=
  let f (a b : Num) : Num :=
    if max then pick true a b
    else if (floatOf inT).isSome then toFp32 (a.add b) else a.add b
  let parts := (chunks (2048 / fmtBits inT) vals.length vals).map fun c => treeOf f 12 c
  match parts with
  | [] => .fin false 0 0
  | p :: ps => ps.foldl f p

-- Pooling (05 R185, R186).

/-- One pooled element from the codes of the taps that read stored pixels and the number of pad taps (05 R185, R186). -/
def poolElem (w : Win) (codes : List Nat) (pads : Nat) : Nat :=
  let pads := if w.poolOp = 1 ∧ w.countPad then pads else 0
  if codes.isEmpty ∧ pads = 0 then w.pad % 2 ^ fmtBits w.fmt
  else if w.poolOp = 1 then
    let all := codes ++ List.replicate pads w.pad
    let n := all.length
    match floatOf w.fmt with
    | none => tcOf (rneDiv (all.map (intOf w.fmt)).sum n) 8
    | some f =>
      match all.foldl (fun acc c => toFp32 (acc.add (f.decode c))) (Num.fin false 0 0) with
      | .fin s m x => f.ofRat s m n x
      | v => f.encode v
  else
    let vals := codes.map (numOf w.fmt)
    codeOf w.fmt ((vals.drop 1).foldl (pick (w.poolOp == 0)) (vals.headD .nan))

-- Top-k (04 R165 to R169).

/-- Order of two values: before means that the first is listed first; NaN comes last (04 R167). -/
def topBefore (smallest : Bool) (a b : Num × Nat) : Bool :=
  if a.1.isNan then b.1.isNan && decide (a.2 < b.2)
  else if b.1.isNan then true
  else if (if smallest then a.1.lt b.1 else b.1.lt a.1) then true
  else if (if smallest then b.1.lt a.1 else a.1.lt b.1) then false
  else decide (a.2 < b.2)

/-- Insertion into a selection list in order. -/
def topInsert (smallest : Bool) (v : (Num × Nat) × Nat) : List ((Num × Nat) × Nat) → List ((Num × Nat) × Nat)
  | [] => [v]
  | w :: ws => if topBefore smallest v.1 w.1 then v :: w :: ws else w :: topInsert smallest v ws

/-- Code with which empty output slots are filled: the format minimum for largest, maximum for smallest (04 R167). -/
def topFill (fmt : Nat) (smallest : Bool) : Nat :=
  match floatOf fmt with
  | some f => f.signed (!smallest) f.maxCode
  | none => tcOf (if smallest then (intRange fmt).2 else (intRange fmt).1) (fmtBits fmt)

-- Running an operation.

/-- What a vector item is and where it runs. -/
structure VRun where
  core : Nat
  num : Nat
  op : VOp
  /-- The window record of a pooling, as the unit reads it (05 R174). -/
  window : Win
  deriving DecidableEq, Repr

/-- Results written in ascending order until a read is uncorrectable (02 R591), at most `limit` of n. -/
def runResults (n limit : Nat) (f : Nat → Device → Bool × Device) (d : Device) : Device :=
  (forN (min n limit) (fun k (stop, d) => if stop then (true, d) else f k d) (false, d)).2

/-- Elements of one 256-byte result of the widest type (02 R96). -/
def VOp.perChunk (v : VOp) : Nat := 2048 / max (fmtBits v.inT) (fmtBits v.outT)

/-- What is still written of a piece of `bs.length` bytes, number k of its kind, of an operation that stops after `limit` results
of 256 bytes (06 R212). -/
def cutResult (limit k : Nat) (bs : List Byte) : List Byte := bs.take (limit * 256 - k * bs.length)

/-- Rows of a row operation and their length (06 R208); the tokens of a cache block and their head dimension likewise (03 R127; which
fields of the item give them DESIGN CHOICE, log entry 74). -/
def VOp.rowLen (v : VOp) : Nat := if v.inner = 0 then v.count else v.inner
def VOp.rows (v : VOp) : Nat := v.count / v.rowLen

/-- Element-wise operations and conversions, one 256-byte result after another. -/
def Device.vecElementwise (d : Device) (md : Mode) (r : VRun) (limit : Nat) : Device :=
  let v := r.op
  let per := v.perChunk
  let ib := fmtBytes v.inT
  let ob := if v.vop = 7 then 1 else fmtBytes v.outT
  let two := decide (1 ≤ v.vop) && decide (v.vop ≤ 7)
  runResults (ceilDiv v.count per) limit (fun k d =>
    let n := min per (v.count - k * per)
    let (a, u0, d) := d.coreRead md r.core (v.src0 + k * per * ib) (n * ib)
    let (b, u1, d) := if two then d.coreRead md r.core (v.src1 + k * per * ib) (n * ib) else ([], false, d)
    let (c, u2, d) := if v.vop = 4 then d.coreRead md r.core (v.dst + k * per * ob) (n * ob) else ([], false, d)
    if u0 ∨ u1 ∨ u2 then (true, d)
    else
      let out := (List.range n).flatMap fun i =>
        leBytes ob (elementCode v (elemAt v.inT a i) (elemAt v.inT b i) (elemAt v.outT c i))
      (false, d.coreWrite md r.core (v.dst + k * per * ob) out)) d

/-- An element of a softmax or normalised row: NaN, as its format stores it, where a code that it depends on is a NaN (02 R97, R592,
R593; that every code of the row counts is DEDUCED, log entry 26), else w. -/
def rowElem (inT outT : Nat) (codes : List Nat) (w : Word) : Nat :=
  if codes.any fun c => (numOf inT c).isNan then codeOf outT .nan else w.toNat

/-- Row sums, row maxima, softmax and normalisation, one row after another; `limit` counts results of 256 bytes. -/
def Device.vecRows (d : Device) (md : Mode) (r : VRun) (limit : Nat) : Device :=
  let v := r.op
  let len := v.rowLen
  let ib := fmtBytes v.inT
  let ob := fmtBytes v.outT
  let size := if v.vop = 0x20 ∨ v.vop = 0x21 then ob else len * ob
  runResults v.rows (ceilDiv (limit * 256) (max 1 size)) (fun k d =>
    let (a, u0, d) := d.coreRead md r.core (v.src0 + k * len * ib) (len * ib)
    let (b, u1, d) := if v.vop = 0x32 then d.coreRead md r.core v.src1 (2 * len * ib) else ([], false, d)
    if u0 ∨ u1 then (true, d)
    else
      let codes := (List.range len).map fun i => elemAt v.inT a i
      let words := codes.map fun c => BitVec.ofNat 32 c
      let ws (from_ : Nat) : List Word := (List.range len).map fun i => BitVec.ofNat 32 (elemAt v.inT b (from_ + i))
      match v.vop with
      | 0x20 | 0x21 =>
        let q := codeOf v.outT (rowReduce (v.vop == 0x21) v.inT (codes.map (numOf v.inT)))
        (false, d.coreWrite md r.core (v.dst + k * ob) (leBytes ob q))
      | 0x31 =>
        (false, d.coreWrite md r.core (v.dst + k * len * ob) (cutResult limit k
          ((List.range len).flatMap fun i => leBytes ob (rowElem v.inT v.outT codes (Config.softmax v.inT v.outT words i)))))
      | _ =>
        (false, d.coreWrite md r.core (v.dst + k * len * ob) (cutResult limit k
          ((List.range len).flatMap fun i => leBytes ob (rowElem v.inT v.outT
            (elemAt v.inT b i :: elemAt v.inT b (len + i) :: codes) (Config.normalise v.inT v.outT words (ws 0) (ws len) i)))))) d

/-- Requantisation outside the drain (03 R114, R115, R117, R119). After an uncorrectable word of the record no result is written
(02 R591). -/
def Device.vecRequantise (d : Device) (md : Mode) (r : VRun) (limit : Nat) : Device :=
  let v := r.op
  let u : QUse := { int := v.inT == 7, out := v.outT, aRange := anyZero, bRange := if v.inT == 7 then anyZero else (0, 0) }
  let (head, entries, lost, d) := d.readRecord md r.core (v.record * 64) v.rowLen
  let legal := lost || (head.legal u && entries.all fun e => e.legal u)
  let d := if legal then d else d.raiseFixed r.core 0 (v.record * 64) true
  let head := head.fix u
  let ob := fmtBytes v.outT
  runResults (if lost then 0 else ceilDiv v.count 64) (ceilDiv (limit * 256) (64 * ob)) (fun k d =>
    let n := min 64 (v.count - k * 64)
    let (a, bad, d) := d.coreRead md r.core (v.src0 + k * 256) (n * 4)
    if bad then (true, d)
    else
      let (out, d) := forN n (fun i (out, d) =>
        let w := elemAt 8 a i
        let en := (entries.getD (if head.perChannel then (k * 64 + i) % v.rowLen else 0) ⟨0, 0, 0, 0⟩).fix u
        let q := requantise head en v.outT (if v.inT = 7 then .int (sextOf w 32) else .fp (BitVec.ofNat 32 w) none) 0
        (out ++ leBytes ob q.code, d.countRequant head q)) (([] : List Byte), d)
      (false, d.coreWrite md r.core (v.dst + k * 64 * ob) out)) d

/-- Pooling, one output pixel after another (05 R185, R186); `limit` counts results of 256 bytes. -/
def Device.vecPool (d : Device) (md : Mode) (r : VRun) (limit : Nat) : Device :=
  let v := r.op
  let w := r.window
  let n := w.cCount * w.e
  runResults (w.outH * w.outW) (ceilDiv (limit * 256) (max 1 n)) (fun p d =>
    let (rows, bad, d) := forL w.taps (fun t (rows, bad, d) =>
      match w.tap (p / w.outW) (p % w.outW) t.1 t.2 with
      | some (y, x) =>
        let (bs, u, d) := d.coreRead md r.core (w.pixel v.src0 y x) n
        (rows ++ [bs], bad || u, d)
      | none => (rows, bad, d)) (([] : List (List Byte)), false, d)
    if bad then (true, d)
    else
      let out := (List.range w.cCount).flatMap fun c =>
        leBytes w.e (poolElem w (rows.map fun row => elemAt w.fmt row c) (w.taps.length - rows.length))
      (false, d.coreWrite md r.core (v.dst + p * n) (cutResult limit p out))) d

/-- A top-k record whose fields all lie in the ranges of 04 R165. -/
def topKInRange (t : List Byte) : Bool :=
  fieldOf t 0 1 == 1 && decide (1 ≤ fieldOf t 2 1 ∧ fieldOf t 2 1 ≤ 8) &&
    decide (1 ≤ fieldOf t 3 1 ∧ fieldOf t 3 1 ≤ 64) && decide (1 ≤ fieldOf t 4 4 ∧ fieldOf t 4 4 ≤ 2 ^ 24) &&
    fieldOf t 8 4 % 64 == 0 && fieldOf t 12 4 % 64 == 0

/-- A top-k record with nothing to correct at run time: reserved bits, which count as zero, are zero too (04 R169). -/
def topKLegal (t : List Byte) : Bool :=
  topKInRange t && decide (fieldOf t 1 1 < 4) && allZero (sliceOf t 20 12)

/-- Top-k with positions (04 R165 to R169). Of an out-of-range record k, n and in_format are limited and reserved bits count as
zero; an offset that is not a multiple of 64 is used as it stands (DESIGN CHOICE, log entry 74). Values and positions are one
result of 256 bytes each. -/
def Device.vecTopK (d : Device) (md : Mode) (r : VRun) (limit : Nat) : Device :=
  let off := r.op.record * 64
  let (t, u0, d) := d.coreRead md r.core off 32
  let fmt0 := fieldOf t 2 1
  let k0 := fieldOf t 3 1
  let n0 := fieldOf t 4 4
  let fmt := if 1 ≤ fmt0 ∧ fmt0 ≤ 8 then fmt0 else 1
  let k := min (max k0 1) 64
  let n := min (max n0 1) (2 ^ 24)
  let d := if u0 ∨ topKLegal t then d
    else d.raise Ev.TOPK_RECORD_FIXED (nePayload r.core 0 r.num 0 0 0 + (off / 64 % 65536) * 2 ^ 32)
  let smallest := bitAt (fieldOf t 1 1) 0
  let merge := bitAt (fieldOf t 1 1) 1
  let e := fmtBytes fmt
  let (vals, u1, d) := d.coreRead md r.core (fieldOf t 8 4) (n * e)
  let (poss, u2, d) := if merge then d.coreRead md r.core (fieldOf t 8 4 + ceilDiv (n * e) 64 * 64) (4 * n) else ([], false, d)
  if u0 ∨ u1 ∨ u2 ∨ limit = 0 then d
  else
    let items := (List.range n).map fun i =>
      let c := elemAt fmt vals i
      ((numOf fmt c, if merge then fieldOf poss (4 * i) 4 else (fieldOf t 16 4 + i) % 2 ^ 32), c)
    let sel := (forL items (fun x l => (topInsert smallest x l).take k) ([] : List ((Num × Nat) × Nat)))
    let codes := sel.map Prod.snd ++ List.replicate (k - sel.length) (topFill fmt smallest)
    let pos := sel.map (fun x => x.1.2) ++ List.replicate (k - sel.length) 0xFFFFFFFF
    let d := d.coreWrite md r.core (fieldOf t 12 4) (codes.flatMap (leBytes e))
    if limit = 1 then d else d.coreWrite md r.core (fieldOf t 12 4 + 256) (pos.flatMap (leBytes 4))

/-- Index of a codebook entry for a value: the nearest, the lower index on a tie (03 R129); of least magnitude when the value is
not finite. The differences are compared exactly, without a rounding to FP32, and a NaN entry is never nearer than another (both
DESIGN CHOICES, log entry 74). -/
def nearestEntry (entries : List Num) (target : Option Num) : Nat :=
  let dist (e : Num) : Num := match target with
    | some t => match t.add e.neg with | .fin _ m x => .fin false m x | v => v
    | none => match e with | .fin _ m x => .fin false m x | v => v
  let step (best : Nat × Num) (p : Num × Nat) : Nat × Num := if (dist p.1).lt best.2 then (p.2, dist p.1) else best
  ((entries.zipIdx.drop 1).foldl step (0, dist (entries.headD .nan))).1

/-- Magnitude of a value. -/
def Num.abs : Num → Num
  | .fin _ m x => .fin false m x
  | .inf _ => .inf false
  | .nan => .nan

/-- A quotient in FP32 (03 R129: all division and rounding in FP32; 02 R97). -/
def fp32Div (a b : Num) : Num :=
  match a, b with
  | .fin s m x, .fin t n y =>
    if n = 0 then (if m = 0 then .nan else .inf (s != t)) else fp32.decode (fp32.ofRat (s != t) m n (x - y))
  | .fin s _ _, .inf t => .fin (s != t) 0 0
  | .inf s, .fin t _ _ => .inf (s != t)
  | _, _ => .nan

/-- Quantisation of a cache block (03 R127 to R129). The record's header, when one is named, gives the tensor that counts. A NaN entry
of the codebook makes the largest magnitude of its entries NaN, and so the scale and every code's quotient (DESIGN CHOICE, log entry
74). -/
def Device.vecCache (d : Device) (md : Mode) (r : VRun) (limit : Nat) : Device :=
  let v := r.op
  let tokens := v.rows
  let w4 := v.outT == 0
  let (src, u0, d) := d.coreRead md r.core v.src0 (4 * v.count)
  let (hd, u1, d) := d.coreRead md r.core v.dst 64
  let (qh, u2, d) := d.coreRead md r.core (v.record * 64) 64
  if u0 ∨ u1 ∨ u2 ∨ limit = 0 then d
  else
    let h := readHead qh
    let xs := (List.range v.count).map fun i => fp32.decode (elemAt 8 src i)
    let finite (x : Num) : Bool := match x with | .fin _ _ _ => true | _ => false
    let m := (xs.filter finite).foldl (fun a x => pick true a x.abs) (Num.fin false 0 0)
    let entries := (List.range 16).map fun i =>
      let c := fieldOf hd i 1
      if fieldOf hd 32 1 = 3 then e4m3.decode c else .ofInt (intOf 1 c)
    let top := if w4 then entries.foldl (fun a x => pick true a x.abs) (Num.fin false 0 0) else .ofInt 127
    let zero := match m with | .fin _ 0 _ => true | _ => false
    let s := if zero then Num.ofInt 1 else fp32Div m top
    let d := forL xs (fun x d => if finite x ∨ ¬ h.countStats then d else d.countValue h.tensor false false true false) d
    let codes := xs.map fun x =>
      if w4 then (if finite x then nearestEntry entries (some (fp32Div x s)) else nearestEntry entries none)
      else match fp32Div x s with
        | .fin g n y => tcOf (clampInt (-127) 127 (roundToInt g n y)) 8
        | .inf g => tcOf (if g then -127 else 127) 8
        | .nan => 0
    let data := if w4 then
        (List.range (v.count / 2)).map fun i => BitVec.ofNat 8 (codes.getD (2 * i) 0 + codes.getD (2 * i + 1) 0 * 16)
      else codes.map fun c => BitVec.ofNat 8 c
    let d := d.coreWrite md r.core (v.dst + 64) (cutResult limit 0 data)
    if limit * 256 ≤ data.length then d
    else
      let d := d.coreWrite md r.core (v.dst + 33) (leBytes 1 (min tokens 64))
      d.coreWrite md r.core (v.dst + 36) (leBytes 4 (fp32.encode s))

/-- The results of a vector operation, as far as `limit` of them. -/
def Device.vecRun (d : Device) (md : Mode) (r : VRun) (limit : Nat) : Device :=
  match r.op.vop with
  | 0x20 | 0x21 | 0x31 | 0x32 => d.vecRows md r limit
  | 0x30 => d.vecRequantise md r limit
  | 0x40 => d.vecPool md r limit
  | 0x41 => d.vecTopK md r limit
  | 0x42 => d.vecCache md r limit
  | _ => d.vecElementwise md r limit

/-- More results than any operation has. -/
def allResults : Nat := 2 ^ 32

/-- Results that a vector operation writes: some whole 256-byte results of an abandoned item, how many is free (06 R212), else all. -/
def Device.vecLimit (d : Device) (gone : Bool) : Nat × Device :=
  let (n, d) := d.tick
  (if gone then Config.unstated 212 n % allResults else allResults, d)

/-- The window record that the plan in use has for an operation (06 R207). -/
def Device.planWindow (d : Device) (v : VOp) : Win :=
  match d.seq.plan with
  | some p => ⟨p.windows.getD v.window []⟩
  | none => ⟨[]⟩

/-- A window record with one of its 64-bit words free, which of them is free too: that of a codeword corrected to wrong data (02
R589). -/
def Device.spoilWindow (d : Device) (w : Win) : Win × Device :=
  let (n, d) := d.tick
  let (bs, d) := d.freeBytes 8
  (⟨patchAt w.bytes (n % 8 * 8) bs⟩, d)

/-- The window record of a pooling is read from its table, in which errors may stand (13 R410, R416; 02 R589): after an uncorrectable
word nothing is written (DEDUCED, log entry 81). -/
def Device.readWindow (d : Device) (v : VOp) (limit table : Nat) : Nat × Win × Device :=
  let w := d.planWindow v
  if v.vop = 0x40 then
    match d.readInside table with
    | (.uncorrectable, d) => (0, w, d)
    | (.wrong, d) =>
      let (w, d) := d.spoilWindow w
      (limit, w, d)
    | (_, d) => (limit, w, d)
  else (limit, w, d)

/-- VECTOR_OP_COMPLETE: the last result of the operation is written and the item completes; an abandoned item leaves the unit (02
R96, R591; 06 R208, R211, R212). -/
def execVectorOpComplete (unit : VectorEnd) (s : State) : Host.Outcome State Fault Refusal :=
  let d := s.dev
  let c := unit.core.val
  match (d.core c).vec with
  | none => nextD s d
  | some (num, turn) =>
    match d.findItem num turn with
    | none => nextD s (d.setCore c { d.core c with vec := none })
    | some it =>
      let op := vopOf it.item.body
      let gone := it.phase == .abandoned
      let (limit, d) := d.vecLimit gone
      let (limit, window, d) := d.readWindow op limit unit.table
      let d := d.vecRun s.mode { core := c, num, op, window } limit
      let d := d.setCore c { d.core c with vec := none }
      let d := if gone then d.removeItem num turn else d.completeItem num turn 0
      settle s (d.sequence s.mode)

end Sys2Proof.Machine
end

