-- ==== Sys2Proof/Machine/PlanImage.lean ====
section
/-! DEFINITION. The plan image: header, directory, sections and records (06 R199 to R208, R213, R221, R223). -/

namespace Sys2Proof.Machine

-- Header (06 R199).

def pMajor (b : List Byte) : Nat := fieldOf b 4 1
def pMinor (b : List Byte) : Nat := fieldOf b 5 1
/-- The writer uses no later minor version: what this version reserves is then zero where a rule says so; a later minor version
may use it, and it is ignored (06 R202; 00 R10). -/
def pStrict (b : List Byte) : Bool := pMinor b == 0
def pReader (b : List Byte) : Nat := fieldOf b 6 1
def pUnits (b : List Byte) : Nat := fieldOf b 7 1
def pId (b : List Byte) : Nat := fieldOf b 8 8
def pMember (b : List Byte) : Nat := fieldOf b 16 2
def pCores (b : List Byte) : Nat := fieldOf b 18 1
def pGen (b : List Byte) : Nat := fieldOf b 19 1
def pDevice (b : List Byte) : Nat := fieldOf b 20 2
def pBuddy (b : List Byte) : Nat := fieldOf b 22 2
def pGroup (b : List Byte) : Nat := fieldOf b 24 2
def pSections (b : List Byte) : Nat := fieldOf b 26 2
def pPeriod (b : List Byte) : Nat := fieldOf b 28 4
def pNominal (b : List Byte) : Nat := fieldOf b 32 2
def pSlack (b : List Byte) : Nat := fieldOf b 34 2
def pFallbackEnd (b : List Byte) : Nat := fieldOf b 36 2
def pSlew (b : List Byte) : Nat := fieldOf b 38 2
def pPrimary (b : List Byte) : Nat := fieldOf b 40 2
def pFallback (b : List Byte) : Nat := fieldOf b 42 2
/-- buddy_id names a buddy. -/
def pBuddyValid (b : List Byte) : Bool := bitAt (pBuddy b) 15

-- Sections (06 R200, R201).

/-- An entry of the section directory (06 R200). -/
structure Section where
  type : Nat
  required : Bool
  off : Nat
  len : Nat
  count : Nat
  deriving DecidableEq, Repr

/-- The section directory (06 R200). -/
def pDirectory (b : List Byte) : List Section :=
  (List.range (pSections b)).map fun k =>
    let o := pUnits b * 64 + 16 * k
    { type := fieldOf b o 2, required := bitAt (fieldOf b (o + 2) 2) 0, off := fieldOf b (o + 4) 4,
      len := fieldOf b (o + 8) 4, count := fieldOf b (o + 12) 4 }

/-- The entry of a section type. -/
def pSection (b : List Byte) (type : Nat) : Option Section := (pDirectory b).find? fun s => s.type == type

/-- Bytes of a section; empty when absent. -/
def pBytes (b : List Byte) (type : Nat) : List Byte :=
  match pSection b type with | some s => sliceOf b s.off s.len | none => []

/-- Records of n bytes. -/
def recordsOf (n : Nat) (bs : List Byte) : List (List Byte) :=
  (List.range (bs.length / n)).map fun k => sliceOf bs (n * k) n

-- Items (06 R206).

/-- An item record (06 R206). -/
def parseItem (r : List Byte) : Item :=
  { opcode := fieldOf r 0 1, flags := fieldOf r 1 1, num := fieldOf r 2 2, core := fieldOf r 4 1, unit := fieldOf r 5 1
    notBefore := fieldOf r 6 2, deadline := fieldOf r 8 2, stream := fieldOf r 10 1 % 32, frame := fieldOf r 11 1 % 4
    line := fieldOf r 12 2, w0c := fieldOf r 14 2 % 512, w0v := fieldOf r 16 2, w1c := fieldOf r 18 2 % 512
    w1v := fieldOf r 20 2, sigCounter := fieldOf r 22 2, sigDevice := fieldOf r 24 2, stagger := fieldOf r 26 1
    activity := fieldOf r 27 1, diag := fieldOf r 28 2, origin := fieldOf r 30 2, body := sliceOf r 32 32 }

-- Core constants (06 R223).

/-- Entries of the core constants section, as (head, data), each on a 64-byte boundary. -/
def constantEntries : Nat → List Byte → List (List Byte × List Byte)
  | 0, _ => []
  | fuel + 1, bs =>
    if bs.length < 16 then []
    else
      let head := bs.take 16
      let len := fieldOf head 8 4
      (head, sliceOf bs 16 (min len bs.length)) :: constantEntries fuel (bs.drop (ceilDiv (16 + len) 64 * 64))

/-- A constant entry in the plan. -/
def constOf (e : List Byte × List Byte) : CoreConst :=
  { core := fieldOf e.1 0 1, kind := fieldOf e.1 1 1, offset := fieldOf e.1 4 4, data := e.2 }

/-- The constants' entries. -/
def pConstants (b : List Byte) : List (List Byte × List Byte) :=
  let bs := pBytes b 9
  constantEntries (bs.length / 64 + 1) bs

/-- The plan that an image holds; its image's digest is given. -/
def parsePlan (b digest : List Byte) : Plan :=
  let win := pBytes b 4
  let n := win.length / 66
  { header := sliceOf b 0 256
    primary := (recordsOf 64 (pBytes b 1)).map parseItem
    fallback := (recordsOf 64 (pBytes b 2)).map parseItem
    tensors := pBytes b 3
    windows := (List.range n).map fun k => sliceOf win (64 * k) 64
    windowTensor := (List.range n).map fun k => fieldOf win (64 * n + 2 * k) 2
    counters := pBytes b 5
    dma := recordsOf 64 (pBytes b 6)
    profile := pBytes b 7
    bindings := recordsOf 96 (pBytes b 8)
    constants := (pConstants b).map constOf
    digest }

/-- Items of both lists, primary first, with their records. -/
def pItems (b : List Byte) : List (Bool × List Byte × Item) :=
  (recordsOf 64 (pBytes b 1)).map (fun r => (false, r, parseItem r)) ++
    (recordsOf 64 (pBytes b 2)).map (fun r => (true, r, parseItem r))

/-- Tensor record t: format and zero point (06 R203). -/
def Plan.tensor (p : Plan) (t : Nat) : Nat × Int :=
  (fieldOf p.tensors (16 * t) 1, sextOf (fieldOf p.tensors (16 * t + 2) 2) 16)

/-- The constant entry at an offset of a core, of a kind (06 R231 reason 0x0A). -/
def Plan.const (p : Plan) (core off kind : Nat) : Option CoreConst :=
  p.constants.find? fun c => c.core == core && c.offset == off && c.kind == kind

end Sys2Proof.Machine
end

