-- ==== Sys2Proof/Machine/PlanCheck.lean ====
section
/-! DEFINITION. The load checks of a plan, one per reason code of 06 R231, in its order, with the validity rules of matrix
descriptors (02 R79, 05 R184), constants (03 R114 to R116, R122, 04 R165), windows (05 R175, R176) and transfer descriptors
(07 R242). -/

namespace Sys2Proof.Machine

/-- What a plan is checked against. -/
structure PlanCtx where
  /-- The plan is a replay plan (11 R374), not the device's working plan. -/
  replay : Bool
  deriving DecidableEq, Repr

/-- Item number reported when no item is concerned (06 NE_PLAN_REJECT). -/
def noItem : Nat := 0xFFFF

/-- Number of the first item of both lists that fails. -/
def firstBad (b : List Byte) (bad : Bool × List Byte × Item → Bool) : Option Nat :=
  ((pItems b).find? bad).map fun x => x.2.2.num

/-- Reasons 0x02 and 0x03, and PERIOD and STATE, concern no item. -/
def failIf (c : Bool) : Option Nat := if c then some noItem else none

-- 0x02 to 0x06.

/-- 0x02 FORMAT (06 R199, R202). A reserved header field counts only when no later minor version wrote the image. -/
def checkFormat (b : List Byte) : Option Nat :=
  failIf (sliceOf b 0 4 != [0x4E, 0x4B, 0x54, 0x50] || pMajor b != 1 || pReader b != 0 || decide (pUnits b < 4) ||
    (pStrict b && (pDevice b / 512 != 0 || bitsOf (pBuddy b) 14 9 != 0 || !allZero (sliceOf b 44 212))))

/-- 0x03 DEVICE (00 R3, 06 R231). -/
def Device.checkDevice (d : Device) (c : PlanCtx) (b : List Byte) : Option Nat :=
  let fits := pMember b == d.rd Reg.NE_IDENT_member_code && pGen b == d.rd Reg.NE_IDENT_arch_gen && decide (1 ≤ pCores b) &&
    decide (pCores b ≤ d.rd Reg.NE_PARAM0_core_count)
  let id := pDevice b % 512 == d.rd Reg.FX_ROLE_device_id
  let role := if c.replay then id && pGroup b == 1 && !pBuddyValid b
    else id && pGroup b == d.rd Reg.FX_TOPO_group_size + 1 && pBuddyValid b == d.rdB Reg.FX_ROLE_buddy_valid &&
      (!pBuddyValid b || pBuddy b % 512 == d.rd Reg.FX_ROLE_buddy_id)
  failIf (!(fits && role))

/-- 0x04 PERIOD. -/
def Device.checkPeriod (d : Device) (b : List Byte) : Option Nat := failIf (pPeriod b != d.rd Reg.SP_PERIOD_period_us)

/-- Record size of a section type with records of one size (06 R201). -/
def recordSize (type : Nat) : Option Nat :=
  match type with
  | 1 | 2 | 6 => some 64
  | 3 => some 16
  | 4 => some 66
  | 5 => some 1
  | 8 => some 96
  | _ => none

/-- Lengths that 06 R201, R213 and R221 fix. -/
def fixedLength (type : Nat) : Option Nat :=
  match type with
  | 3 => some 16384
  | 5 => some 512
  | 7 => some 2048
  | _ => none

/-- A section entry that keeps R200 and R201 by itself. -/
def Section.ok (s : Section) (b : List Byte) : Bool :=
  s.off % 64 == 0 && decide (s.off + s.len ≤ b.length) && (s.required == false || decide (1 ≤ s.type ∧ s.type ≤ 9)) &&
    (match recordSize s.type with | some n => s.len == n * s.count | none => true) &&
    (match fixedLength s.type with | some n => s.len == n | none => true) &&
    (s.type != 4 || decide (s.count ≤ 256)) && (s.type != 1 || s.count == pPrimary b) && (s.type != 2 || s.count == pFallback b) &&
    (s.type != 9 || s.count == (constantEntries (s.len / 64 + 1) (sliceOf b s.off s.len)).length)

/-- Two byte ranges, as offset and length, share a byte. -/
def overlaps (a b : Nat × Nat) : Bool := decide (a.1 < b.1 + b.2) && decide (b.1 < a.1 + a.2) && a.2 != 0 && b.2 != 0

/-- No two of a list of ranges overlap. -/
def disjoint : List (Nat × Nat) → Bool
  | [] => true
  | a :: rest => rest.all (fun b => !overlaps a b) && disjoint rest

/-- An item names a record of the core constants: a matrix descriptor, a requantisation or a top-k does (06 R208; 02 R76). -/
def Item.namesConstant (i : Item) : Bool :=
  i.opcode == 1 || (i.opcode == 3 && ((vopOf i.body).vop == 0x30 || (vopOf i.body).vop == 0x41))

/-- An item uses a window record: a pooling, or a transfer with a WINDOW descriptor of the section given (06 R208; 07 R238). -/
def Item.usesWindow (dma : List (List Byte)) (i : Item) : Bool :=
  (i.opcode == 3 && (vopOf i.body).vop == 0x40) ||
    (i.opcode == 2 && ((dma.drop i.first).take i.count).any fun r => fieldOf r 1 1 == 4)

/-- 0x05 SECTIONS (06 R200 to R202). Of the sections that only some plans need, the fallback list is left to the reason that
names its case, and no check knows which plans read model weights (DEDUCED, log entry 10). -/
def checkSections (b : List Byte) : Option Nat :=
  let ds := pDirectory b
  let types := ds.map fun s => s.type
  let uses (f : Item → Bool) : Bool := (pItems b).any fun x => f x.2.2
  failIf (!(decide (1 ≤ pSections b) && decide (pSections b ≤ 64) && ds.all (fun s => s.ok b) && decide types.Nodup &&
    [1, 3, 5, 7].all (fun t => types.contains t) && (types.contains 2 || pFallback b == 0) &&
    (types.contains 4 || !uses (Item.usesWindow (recordsOf 64 (pBytes b 6)))) && (types.contains 6 || !uses fun i => i.opcode == 2) &&
    (types.contains 9 || !uses Item.namesConstant) &&
    disjoint ((0, pUnits b * 64 + 16 * pSections b) :: ds.map fun s => (s.off, s.len))))

/-- 0x06 SLACK. -/
def checkSlack (b : List Byte) : Option Nat :=
  if pSlack b < 820 ∨ 4095 < pSlack b + pNominal b ∨ 4095 < pFallbackEnd b then some noItem
  else firstBad b fun x => decide ((if x.1 then pFallbackEnd b else pNominal b) < x.2.2.deadline)

-- 0x07 ITEM (06 R205 to R208, R48; 00 R9; 12 R404).

/-- Opcodes allowed on a lane (06 R205). -/
def laneAllows (core unit opcode : Nat) : Bool :=
  if core < 32 then
    if unit < 4 then opcode == 1 else if unit = 4 then opcode == 3 else if unit < 7 then opcode == 2 else false
  else if core = 255 then
    if unit < 16 then opcode == 2 || opcode == 4 || opcode == 5 else unit == 0x20 && opcode == 6
  else false

/-- Vector operations listed in 06 R208. -/
def vopListed (v : Nat) : Bool :=
  [0x01, 0x02, 0x03, 0x04, 0x05, 0x06, 0x07, 0x10, 0x11, 0x12, 0x20, 0x21, 0x30, 0x31, 0x32, 0x40, 0x41, 0x42, 0x50].contains v

/-- A VECTOR body keeps 06 R207 and R208; strict counts its reserved bytes. -/
def vectorOk (strict : Bool) (b : List Byte) : Bool :=
  let v := vopOf b
  let typed (t : Nat) : Bool := decide (1 ≤ t ∧ t ≤ 9)
  (!strict || (fieldOf b 3 1 == 0 && fieldOf b 23 1 == 0 && fieldOf b 28 4 == 0)) && vopListed v.vop &&
    (if v.vop = 0x41 then
      v.inT == 0 && v.outT == 0 && v.src0 == 0 && v.src1 == 0 && v.dst == 0 && v.count == 0 && v.window == 0 && v.inner == 0
    else
      decide (1 ≤ v.count ∧ v.count ≤ 2 ^ 24) &&
        (if v.vop = 0x30 then (v.inT == 7 || v.inT == 8) && decide (1 ≤ v.outT ∧ v.outT ≤ 6)
         else if v.vop = 0x10 ∨ v.vop = 0x11 ∨ v.vop = 0x12 then v.inT == 8 && v.outT == 8
         else if v.vop = 0x42 then v.inT == 8 && decide (v.outT ≤ 1)
         else typed v.inT && typed v.outT) &&
        (!([0x20, 0x21, 0x31, 0x32].contains v.vop) || v.inner != 0))

/-- Body of an item that is not MATRIX (06 R207, 12 R404); mirror is the size of the mirror region, and strict counts the
reserved bytes. -/
def bodyOk (strict : Bool) (mirror : Nat) (i : Item) : Bool :=
  let b := i.body
  let free (l : List Byte) : Bool := !strict || allZero l
  match i.opcode with
  | 1 => true
  | 2 => decide (1 ≤ i.count) && free (b.drop 6)
  | 3 => vectorOk strict b
  | 4 => decide (fieldOf b 0 2 ≤ 1023) && free (sliceOf b 3 1) && (!strict || decide (fieldOf b 2 1 ≤ 1)) &&
      fieldOf b 10 2 == 0 && decide (1 ≤ fieldOf b 12 4) && free (b.drop 18)
  | 5 => free (sliceOf b 2 2) && fieldOf b 10 2 == 0 && fieldOf b 16 8 % 64 == 0 &&
      decide (fieldOf b 16 8 + fieldOf b 12 4 ≤ mirror) && free (b.drop 24)
  | _ => free b

/-- The gating header of an item keeps 06 R205, R206, R48 and 00 R9; strict counts the reserved bits. -/
def gatingOk (strict fb : Bool) (cores : Nat) (r : List Byte) (i : Item) : Bool :=
  let z (flag : Bool) (l : List Nat) : Bool := flag || l.all fun v => v == 0
  laneAllows i.core i.unit i.opcode && (i.core == 255 || decide (i.core < cores)) && i.num != 0xFFFF &&
    decide (i.notBefore < 4096) && decide (i.deadline < 4096) && decide (i.notBefore ≤ i.deadline) &&
    (!strict || (!i.flag 7 && decide (fieldOf r 10 1 < 32) && decide (fieldOf r 11 1 < 4) && decide (fieldOf r 14 2 < 512) &&
      decide (fieldOf r 18 2 < 512) && bitsOf i.sigCounter 11 9 == 0 && bitsOf i.sigDevice 14 9 == 0)) &&
    decide (i.stagger < 64) && z i.lineWait [i.stream, i.frame, i.line] && z i.wait0 [i.w0c, i.w0v] && z i.wait1 [i.w1c, i.w1v] &&
    z i.signal [i.sigCounter, i.sigDevice] && z (i.wait0 || i.wait1) [i.stagger] && z (i.originLocal || i.originRemote) [i.origin] &&
    (fb || !(i.originLocal || i.originRemote)) && !(i.originLocal && i.originRemote) && (i.opcode == 1 || i.diag == 0)

/-- Region of an address for 07 R242 and 08 R268: shared memory 1, DRAM before the firmware area 2, mirror region 3, core n
4 + n; none elsewhere. -/
def Device.region (d : Device) (a : Int) : Option Nat :=
  if a < 0 then none
  else
    match d.place a.toNat with
    | .shared _ => some 1
    | .core n _ => some (4 + n)
    | .dram 0 _ | .dram 1 _ => some 2
    | .dram 3 _ => some 3
    | _ => none

/-- A span lies wholly within one region. -/
def Device.spanOk (d : Device) (s : Int × Int) : Bool := (d.region s.1).isSome && d.region s.1 == d.region s.2


/-- 0x07 ITEM: the first item that breaks its rules or repeats a number. -/
def Device.checkItem (d : Device) (b : List Byte) : Option Nat :=
  let mirror := (d.area 3).2
  (forL (pItems b) (fun x (st : List Nat × Option Nat) =>
    match st.2 with
    | some _ => st
    | none =>
      let i := x.2.2
      if st.1.contains i.num ∨ ¬ gatingOk (pStrict b) x.1 (pCores b) x.2.1 i ∨ ¬ bodyOk (pStrict b) mirror i then (st.1, some i.num)
      else (i.num :: st.1, none)) ([], none)).2

-- 0x08 DESCRIPTOR (02 R79, 05 R184).


/-- Bytes of a strip of an op_format over K (02 R80, 03 R120). -/
def stripBytes (f : OpFmt) (line k : Nat) : Nat := (ceilDiv k f.kpc + 31) * line + (if f.mx then ceilDiv k 128 * 128 else 0)

/-- The diagonal word fits the descriptor (05 R182, R184). -/
def diagOk (strict : Bool) (x : MatDesc) : Bool :=
  if ¬ bitAt x.flags 1 then x.diag == 0
  else
    let cg := bitsOf x.diag 2 0
    let og := bitsOf x.diag 5 3
    let cb := 32 * 2 ^ cg / 2 ^ og
    (!strict || decide (x.diag < 64)) && decide (cg ≤ 5) && decide (og ≤ 5) && (decide (1 ≤ x.op ∧ x.op ≤ 5) || x.op == 12 || x.op == 13) &&
      decide (x.n ≤ 32) && x.n % 2 ^ og == 0 && x.k % cb == 0 && decide (cb ≤ 1024)

/-- A matrix descriptor is valid under 02 R79; entries is the number of channel entries of the record it names. -/
def matrixOk (strict : Bool) (body : List Byte) (x : MatDesc) (entries : Nat) : Bool :=
  match opFmt x.op with
  | none => false
  | some f =>
    let sa := stripBytes f f.lineA x.k
    let sb := stripBytes f f.lineB x.k
    decide (1 ≤ x.out ∧ x.out ≤ 6) && (!strict || (decide (x.flags < 4) && fieldOf body 27 1 == 0)) &&
      decide (1 ≤ x.m ∧ x.m ≤ 4096) && decide (1 ≤ x.n ∧ x.n ≤ 4096) && decide (1 ≤ x.k) && (!f.mx || x.k % 32 == 0) &&
      x.aBase % 64 == 0 && x.bBase % 64 == 0 && x.cBase % 64 == 0 && x.rowStride % 4 == 0 && decide (4 ≤ x.rowStride) &&
      (f.w4 || x.table == 0) && decide (sa ≤ x.aStride * 64) && decide (sb ≤ x.bStride * 64) &&
      decide (x.aBase + (x.rowBlocks - 1) * x.aStride * 64 + sa ≤ coreMemSize) &&
      decide (x.bBase + (x.colBlocks - 1) * x.bStride * 64 + sb ≤ coreMemSize) &&
      decide (x.cBase + (x.m - 1) * x.rowStride + x.n * fmtBytes x.out ≤ coreMemSize) &&
      decide (x.quant * 64 + 64 + 16 * entries ≤ coreMemSize) &&
      (!f.w4 || decide ((x.table + x.colBlocks) * 64 ≤ coreMemSize)) && diagOk strict x

/-- Channel entries that a record needs for n columns (03 R114): n when it is per channel, one otherwise. -/
def entriesOf (data : List Byte) (n : Nat) : Nat := if bitAt (fieldOf data 1 1) 0 then n else 1

/-- 0x08 DESCRIPTOR. -/
def checkDescriptor (p : Plan) (b : List Byte) : Option Nat :=
  firstBad b fun x =>
    let i := x.2.2
    let m := matDesc i.body i.diag
    let entries := match p.const i.core (m.quant * 64) 1 with | some c => entriesOf c.data m.n | none => 1
    i.opcode == 1 && !matrixOk (pStrict b) i.body m entries

-- 0x09 CONSTANT.

/-- Core constants keep 06 R223; their reserved bytes are ignored (00 R10). -/
def constantsOk (es : List (List Byte × List Byte)) : Bool :=
  es.all (fun e =>
    let len := fieldOf e.1 8 4
    decide (fieldOf e.1 0 1 < 32) && decide (1 ≤ fieldOf e.1 1 1 ∧ fieldOf e.1 1 1 ≤ 4) &&
      fieldOf e.1 4 4 % 64 == 0 && len % 64 == 0 && e.2.length == len &&
      decide (fieldOf e.1 4 4 + len ≤ coreMemSize)) &&
    (List.range 32).all fun core =>
      let mine := (es.filter fun e => fieldOf e.1 0 1 == core).map fun e => (fieldOf e.1 4 4, fieldOf e.1 8 4)
      disjoint mine && decide ((mine.map Prod.snd).sum ≤ 512 * 1024)

/-- What 03 R114 asks of every requantisation record: version, flags and reserved fields of the header. -/
def headOk (strict : Bool) (data : List Byte) : Bool :=
  decide (80 ≤ data.length) && fieldOf data 0 1 == 1 &&
    (!strict || (decide (fieldOf data 1 1 < 8) && decide (fieldOf data 2 2 < 1024) && allZero (sliceOf data 12 52)))

/-- A requantisation record for a use with n columns (03 R111, R114 to R116). -/
def quantOk (strict : Bool) (data : List Byte) (u : QUse) (n : Nat) : Bool :=
  let h := readHead data
  let k := entriesOf data n
  headOk strict data && decide (64 + 16 * k ≤ data.length) && h.legal u && (!h.relu || !(u.out == 1 || u.out == 2)) &&
    (List.range k).all fun j =>
      let e := sliceOf data (64 + 16 * j) 16
      (readEntry e).legal u && (!strict || (fieldOf e 9 1 == 0 && fieldOf e 12 4 == 0))

/-- A requantisation record that no item names: some use finds it legal, with every entry that its length holds (DESIGN CHOICE,
log entry 10). -/
def quantUnnamedOk (strict : Bool) (data : List Byte) : Bool :=
  [true, false].any fun int => [1, 2, 3, 4, 5, 6].any fun out =>
    quantOk strict data { int, out, aRange := anyZero, bRange := if int then anyZero else (0, 0) } ((data.length - 64) / 16)

/-- Codebook records of an entry for an op_format (03 R122). -/
def codebookOk (data : List Byte) (op n : Nat) : Bool :=
  (List.range (min (ceilDiv n 32) (data.length / 64))).all fun j =>
    fieldOf data (64 * j + 32) 1 == (if op = 0x0B then 3 else 1)

/-- Codebook records that no item names: each holds a listed entry format (03 R122). -/
def codebookUnnamedOk (data : List Byte) : Bool :=
  (List.range (data.length / 64)).all fun j => fieldOf data (64 * j + 32) 1 == 1 || fieldOf data (64 * j + 32) 1 == 3

/-- A top-k record (04 R165, R169); its reserved bits are ignored (00 R10). -/
def topKOk (data : List Byte) : Bool := decide (32 ≤ data.length) && topKInRange data

/-- The records that an item names: offset, kind, and the check of a record's data that its use asks for (06 R231). -/
def Item.records (strict : Bool) (i : Item) : List (Nat × Nat × (List Byte → Bool)) :=
  match i.opcode with
  | 1 =>
    let x := matDesc i.body i.diag
    (x.quant * 64, 1, fun data => quantOk strict data x.use x.n) ::
      (if x.fmt.w4 then [(x.table * 64, 2, fun data => codebookOk data x.op x.n)] else [])
  | 3 =>
    let v := vopOf i.body
    if v.vop = 0x30 then
      [(v.record * 64, 1, fun data => quantOk strict data
        { int := v.inT == 7, out := v.outT, aRange := anyZero, bRange := if v.inT == 7 then anyZero else (0, 0) }
        (if v.inner = 0 then v.count else v.inner))]
    else if v.vop = 0x41 then [(v.record * 64, 3, topKOk)]
    else []
  | _ => []

/-- 0x09 CONSTANT: the entries themselves, then each record as its items use it, then those that no item names, which are
reported with no item. -/
def checkConstant (p : Plan) (b : List Byte) : Option Nat :=
  let named (c : CoreConst) : Bool := (pItems b).any fun x =>
    x.2.2.core == c.core && (x.2.2.records (pStrict b)).any fun r => r.1 == c.offset && r.2.1 == c.kind
  if ¬ constantsOk (pConstants b) then some noItem
  else
    match firstBad b fun x => (x.2.2.records (pStrict b)).any fun r =>
      match p.const x.2.2.core r.1 r.2.1 with | some c => !r.2.2 c.data | none => false with
    | some n => some n
    | none => failIf (p.constants.any fun c => !named c && !(match c.kind with
        | 1 => quantUnnamedOk (pStrict b) c.data
        | 2 => codebookUnnamedOk c.data
        | 3 => topKOk c.data
        | _ => true))

/-- 0x0A REFERENCE. -/
def checkReference (p : Plan) (b : List Byte) : Option Nat :=
  firstBad b fun x =>
    let i := x.2.2
    let outOf : Nat := if i.opcode = 1 then (matDesc i.body i.diag).out else (vopOf i.body).outT
    (i.records (pStrict b)).any fun r =>
      match p.const i.core r.1 r.2.1 with
      | none => true
      | some c =>
        match r.2.1 with
        | 1 =>
          let h := readHead c.data
          let t := p.tensor h.tensor
          t.1 != outOf || t.2 != h.outZero
        | 2 => decide (c.data.length < ceilDiv (matDesc i.body i.diag).n 32 * 64)
        | _ => false

-- 0x0B WINDOW (05 R175 to R177).

/-- A window record is valid; t is its tensor record. Its reserved fields are ignored (00 R10). A zero point that has no code in
the format gives no pad code that could match. -/
def windowOk (w : Win) (t : Nat × Int) : Bool :=
  let r (lo hi v : Nat) : Bool := decide (lo ≤ v ∧ v ≤ hi)
  let float := w.fmt == 3 || w.fmt == 4 || w.fmt == 5 || w.fmt == 6
  w.b 0 == 1 && r 1 3 w.mode && r 1 6 w.fmt && w.poolOp != 3 && r 1 16384 w.inH && r 1 16384 w.inW &&
    r 1 4096 w.channels && r 1 4096 w.cCount && decide (w.cFirst + w.cCount ≤ w.channels) && r 1 255 w.kh && r 1 255 w.kw &&
    r 1 255 w.sh && r 1 255 w.sw && r 1 255 w.dh && r 1 255 w.dw && decide (w.insH ≤ 15) && decide (w.insW ≤ 15) &&
    r 1 16384 w.outH && r 1 16384 w.outW && decide ((w.cFirst + w.cCount) * w.e ≤ w.pixPitch) &&
    (if w.mode = 3 then r 1 64 w.samples else w.samples == 0) &&
    (if float then w.pad == 0 else t.1 != 0 && within (zeroRange w.fmt) t.2 && w.pad == tcOf t.2 8) &&
    (w.mode == 3 || (w.outH == outExtent w.inH w.insH w.padTop w.padBottom w.kh w.dh w.sh &&
      w.outW == outExtent w.inW w.insW w.padLeft w.padRight w.kw w.dw w.sw)) &&
    (w.mode != 2 || (w.insH == 0 && w.insW == 0)) &&
    (w.mode != 3 || w.relative || ([w.kh, w.kw, w.sh, w.sw, w.dh, w.dw].all (fun v => v == 1) &&
      [w.padTop, w.padBottom, w.padLeft, w.padRight].all fun v => v == 0)) &&
    (w.mode != 3 || !w.relative || w.samples == w.kh * w.kw) && (w.mode != 1 || decide (w.kh * w.kw * w.cCount ≤ 65535)) &&
    (w.mode != 3 || decide (w.samples * w.cCount ≤ 65535))

/-- 0x0B WINDOW. -/
def checkWindow (p : Plan) (b : List Byte) : Option Nat :=
  if (p.windows.zip p.windowTensor).any fun (w, t) => !windowOk ⟨w⟩ (p.tensor t) then some noItem
  else firstBad b fun x =>
    let v := vopOf x.2.2.body
    x.2.2.opcode == 3 && v.vop == 0x40 && (match p.windows[v.window]? with | some w => (Win.mk w).mode != 2 | none => true)

-- 0x0C to 0x0F.

/-- 0x0C LINE_WAIT (01 R43). -/
def Device.checkLineWait (d : Device) (b : List Byte) : Option Nat :=
  firstBad b fun x =>
    let i := x.2.2
    i.lineWait && (!d.rdB (Reg.CSI_STREAM_CFG_enable i.stream) || decide (d.rd (Reg.CSI_STREAM_SIZE_height i.stream) ≤ i.line))

/-- 0x0D COUNTER (06 R206, R213, R228). -/
def checkCounter (p : Plan) (b : List Byte) : Option Nat :=
  firstBad b fun x =>
    let i := x.2.2
    let rec_ (c : Nat) : Nat := (p.counters.getD c 0).toNat
    let bad (c : Nat) : Bool := !bitAt (rec_ c) 0 || (decide (256 ≤ c) && (!x.1 || !bitAt (rec_ c) 1))
    let here := i.signal && !bitAt i.sigDevice 15
    let c := i.sigCounter % 512
    (i.wait0 && (bad i.w0c || i.w0v == 0)) || (i.wait1 && (bad i.w1c || i.w1v == 0)) ||
      (here && (bad c || i.sigDevice % 512 != 0 || (!bitAt (rec_ c) 1 && decide (4096 ≤ i.sigCounter)))) ||
      (i.originLocal && (p.primary.any fun o => o.num == i.origin && !(o.sigCounter == i.sigCounter && o.sigDevice == i.sigDevice)))

/-- Item of a list that stands before its predecessor's not_before. -/
def outOfOrder : List Item → Option Nat
  | a :: b :: rest => if b.notBefore < a.notBefore then some b.num else outOfOrder (b :: rest)
  | _ => none

/-- 0x0E ORDER. -/
def checkOrder (p : Plan) : Option Nat :=
  match outOfOrder p.primary with | some n => some n | none => outOfOrder p.fallback

/-- 0x0F FALLBACK. -/
def checkFallback (p : Plan) (b : List Byte) : Option Nat :=
  if (pSection b 2).isSome != pBuddyValid b then some noItem
  else (p.fallback.find? fun i => i.originLocal && !(p.primary.any fun o => o.num == i.origin)).map fun i => i.num

/-- A bound model lies in the NE area and its bytes there, as Headstock reads them, have the digest bound (06 R204; 08 R268, R276,
R279). -/
def Device.modelOk (d : Device) (md : Mode) (r : List Byte) : Bool × Device :=
  let ne := d.area 0
  let a := dramBase + fieldOf r 8 8
  let n := fieldOf r 16 8
  if ne.1 ≤ a ∧ a + n ≤ ne.1 + ne.2 then
    let (bs, bad, d) := d.readChecked md .headstock a n
    (bad.isNone && shake256 bs == sliceOf r 24 64, d)
  else (false, d)

/-- 0x10 MODEL (06 R204, 08 R268). -/
def Device.checkModel (d : Device) (md : Mode) (p : Plan) : Option Nat × Device :=
  let (ok, d) := forL p.bindings (fun r (ok, d) => let (k, d) := d.modelOk md r; (ok && k, d)) (true, d)
  (failIf (!ok), d)

-- 0x11 DMA (07 R242).

/-- Span of the bytes that lines and planes touch: first and last byte. -/
def spanOf (base : Nat) (len n1 : Nat) (s1 : Int) (n2 : Nat) (s2 : Int) : Int × Int :=
  let a := ((n1 : Int) - 1) * s1
  let c := ((n2 : Int) - 1) * s2
  ((base : Int) + min 0 a + min 0 c, (base : Int) + max 0 a + max 0 c + len - 1)

/-- Two spans share a byte. -/
def spansMeet (a b : Int × Int) : Bool := decide (a.1 ≤ b.2) && decide (b.1 ≤ a.2)

/-- Unused fields of a descriptor are zero: by op, offsets and lengths that op does not use (07 R238); strict counts the reserved
bytes too. -/
def unusedZero (strict : Bool) (x : DescRt) (sample mx : Bool) : Bool :=
  let z (l : List (Nat × Nat)) : Bool := l.all fun f => x.fd f.1 f.2 == 0
  (!strict || z [(43, 1), (54, 8), (62, 2)]) &&
    (match x.op with
     | 1 => z [(3, 1), (40, 2), (42, 1), (44, 2), (46, 2), (48, 6)]
     | 2 => z [(40, 2), (42, 1), (44, 2), (46, 2), (48, 6)]
     | 3 => z [(28, 4), (32, 4), (36, 4), (42, 1), (44, 2), (46, 2)] && (mx || z [(48, 6)])
     | 4 => z [(16, 4), (20, 2), (24, 4), (28, 4), (32, 4), (36, 4)] && (sample || z [(48, 6)])
     | _ => z [(4, 6), (24, 4), (28, 4), (40, 2), (42, 1), (44, 2), (46, 2), (48, 6)])

/-- Source spans and the destination span of a descriptor whose fields are in range, or none when they are not (07 R238 to
R242). -/
def descSpans (p : Plan) (x : DescRt) : Option (List (Int × Int) × (Int × Int)) :=
  let strict := pStrict p.header
  let flags := if strict then x.flags else x.flags % 128
  let c := bitAt x.flags 0
  let dec := bitAt x.flags 1
  let rate := bitsOf x.flags 3 2
  let blk (n : Nat) : Nat := n / 64 * (rateOf rate).2
  let okCounts (top : Nat) : Bool := decide (1 ≤ x.count0 ∧ x.count0 ≤ top) && decide (1 ≤ x.count1) && decide (1 ≤ x.count2)
  match x.op with
  | 1 =>
    let src := spanOf x.src (if dec then blk x.count0 else x.count0) x.count1 x.srcStride1 x.count2 x.srcStride2
    let dst := spanOf x.dst (if c then blk x.count0 else x.count0) x.count1 x.dstStride1 x.count2 x.dstStride2
    let side (a : Nat) (s1 s2 : Int) : Bool :=
      decide (dramBase ≤ a) && a % 8 == 0 && decide (s1 % 8 = 0) && decide (s2 % 8 = 0)
    if okCounts (2 ^ 24) && decide (flags < 32) && !(c && dec) && ((c || dec) == (rate != 0)) && (c || dec || !bitAt x.flags 4) &&
        (!(c || dec) || x.count0 % 64 == 0) && (!c || side x.dst x.dstStride1 x.dstStride2) &&
        (!dec || side x.src x.srcStride1 x.srcStride2) && unusedZero strict x false false
    then some ([src], dst) else none
  | 2 =>
    let e := x.format
    if okCounts 65535 && flags == 0 && (e == 1 || e == 2 || e == 4) && unusedZero strict x false false then
      some ([spanOf x.src (x.count0 * e) x.count1 x.srcStride1 x.count2 x.srcStride2],
        spanOf x.dst (x.count1 * e) x.count0 x.dstStride1 x.count2 x.dstStride2)
    else none
  | 3 =>
    match opFmt x.format with
    | none => none
    | some f =>
      let stripB := bitAt x.flags 5
      let e := fmtBytes (if stripB then f.b else f.a)
      let size := stripBytes f (if stripB then f.lineB else f.lineA) x.count0
      let src := if bitAt x.flags 6 then spanOf x.src (x.count1 * e) x.count0 x.srcStride1 1 0
        else spanOf x.src (x.count0 * e) x.count1 x.srcStride1 1 0
      let scales := spanOf x.table (x.count1 * ceilDiv x.count0 32) 1 0 1 0
      let whole := if f.mx then (min src.1 scales.1, max src.2 scales.2) else src
      if decide (1 ≤ x.count0 ∧ x.count0 ≤ 65535) && decide (1 ≤ x.count1 ∧ x.count1 ≤ 4096) && x.count2 == 1 &&
          decide (flags % 32 = 0) && decide (flags < 128) && !(f.w4 && stripB) && (!f.mx || x.count0 % 32 == 0) &&
          decide (size ≤ x.stripStride * 64) && unusedZero strict x false f.mx
      then some ([whole], spanOf x.dst size (ceilDiv x.count1 32) (x.stripStride * 64) 1 0) else none
  | 4 =>
    match p.windows[x.window]? with
    | none => none
    | some bytes =>
      let w : Win := ⟨bytes⟩
      let sample := w.mode == 3
      let dense := w.denseOut
      let rows := (x.lastRow - x.firstRow + 1) * w.outW
      let kk := if sample then w.samples * w.cCount else w.kh * w.kw * w.cCount
      let (rlo, rhi) := if sample then ((0 : Int), (w.inH : Int) - 1) else w.rowSpan x.firstRow x.lastRow
      let stripB := bitAt x.flags 5
      let reach : Int := min ((virtualExtent w.inW w.insW : Int) - 1) (((w.outW - 1) * w.sw + (w.kw - 1) * w.dw : Nat) - (w.padLeft : Int))
      let last : Int := if sample then (w.inW : Int) - 1 else reach / (w.insW + 1 : Nat)
      let first := x.src + w.cFirst * w.e
      let src : Int × Int := (first + rlo * w.rowPitch, first + rhi * w.rowPitch + last * w.pixPitch + w.cCount * w.e - 1)
      let table := if sample then [spanOf x.table (rows * w.samples * 4) 1 0 1 0] else []
      let shape : Option (Int × Int) :=
        if dense then (if x.format = 0 ∧ x.stripStride = 0 then some (spanOf x.dst (rows * kk * w.e) 1 0 1 0) else none)
        else
          match opFmt x.format with
          | none => none
          | some f =>
            let size := stripBytes f (if stripB then f.lineB else f.lineA) kk
            if ¬ f.mx ∧ f.a = w.fmt ∧ size ≤ x.stripStride * 64 then
              some (spanOf x.dst size (ceilDiv rows 32) (x.stripStride * 64) 1 0) else none
      if w.mode != 2 && (flags == 0 || (flags == 32 && !dense)) && (!w.dense || (x.format == 0 && x.stripStride == 0)) &&
          x.count2 == 1 && decide (x.firstRow ≤ x.lastRow) && decide (x.lastRow < w.outH) && unusedZero strict x sample false
      then shape.map fun dst => ((if rlo ≤ rhi ∧ 0 ≤ last then [src] else []) ++ table, dst)
      else none
  | 5 =>
    if okCounts (2 ^ 24) && flags == 0 && unusedZero strict x false false then
      some ([], spanOf x.dst x.count0 x.count1 x.dstStride1 x.count2 x.dstStride2)
    else none
  | _ => none

/-- A transfer descriptor is valid under 07 R242. -/
def Device.descOk (d : Device) (p : Plan) (bytes : List Byte) : Bool :=
  let x : DescRt := { item := 0, turn := 0, record := 0, bytes }
  let store := d.area 4
  let kept := ((store.1 : Int), (store.1 : Int) + store.2 - 1) ::
    p.bindings.map fun r => ((dramBase : Int) + fieldOf r 8 8, (dramBase : Int) + fieldOf r 8 8 + fieldOf r 16 8 - 1)
  fieldOf bytes 0 1 == 1 &&
    match descSpans p x with
    | none => false
    | some (srcs, dst) =>
      d.spanOk dst && srcs.all (fun s => d.spanOk s && !spansMeet s dst) && !(kept.any fun k => decide (k.1 ≤ k.2) && spansMeet k dst)

/-- 0x11 DMA. -/
def Device.checkDma (d : Device) (p : Plan) (b : List Byte) : Option Nat :=
  let bad := p.dma.map fun r => !d.descOk p r
  match firstBad b fun x =>
      let i := x.2.2
      i.opcode == 2 && (decide (p.dma.length < i.first + i.count) || ((bad.drop i.first).take i.count).any id) with
  | some n => some n
  | none => failIf (bad.any id)

-- The whole check (06 R229, R231).

/-- The checks before that of the models, in their order. -/
def Device.rejectEarly (d : Device) (c : PlanCtx) (p : Plan) (b : List Byte) : Option (Nat × Nat) :=
    let checks : List (Nat × (Unit → Option Nat)) :=
      [(0x02, fun _ => checkFormat b), (0x03, fun _ => d.checkDevice c b), (0x04, fun _ => d.checkPeriod b),
       (0x05, fun _ => checkSections b), (0x06, fun _ => checkSlack b), (0x07, fun _ => d.checkItem b),
       (0x08, fun _ => checkDescriptor p b), (0x09, fun _ => checkConstant p b), (0x0A, fun _ => checkReference p b),
       (0x0B, fun _ => checkWindow p b), (0x0C, fun _ => d.checkLineWait b), (0x0D, fun _ => checkCounter p b),
       (0x0E, fun _ => checkOrder p), (0x0F, fun _ => checkFallback p b)]
    checks.findSome? fun k => (k.2 ()).map fun i => (k.1, i)

/-- First applicable reason and its item; none when every check passes; the models are read for theirs. containerOk says that the
container and its signature pass (reason 0x01). -/
def Device.planReject (d : Device) (md : Mode) (c : PlanCtx) (containerOk : Bool) (b : List Byte) : Option (Nat × Nat) × Device :=
  if ¬ (md = .coldStart ∨ md = .warmStart ∨ md = .parked) then (some (0x12, noItem), d)
  else if ¬ containerOk then (some (0x01, noItem), d)
  else
    let p := parsePlan b []
    match d.rejectEarly c p b with
    | some r => (some r, d)
    | none =>
      match d.checkModel md p with
      | (some i, d) => (some (0x10, i), d)
      | (none, d) => ((d.checkDma p b).map fun i => (0x11, i), d)

end Sys2Proof.Machine
end

