-- ==== Sys2Proof/Machine/Spindle.lean ====
section
/-! DEFINITION. The spindle (01): sources and lock states, steps, measurements, FSYNC and PPS outputs, and the writes that have
rows of their own. -/

namespace Sys2Proof.Machine

-- Sources (01 R14, R15).

/-- Code of a source (01 'Reference sources and lock'). -/
def srcCode : TimeSource → Nat
  | .gptpT1 => 1
  | .gptp0 => 2
  | .gptp1 => 3
  | .pps => 4
  | .finyx => 5

/-- State of the source with a code. -/
def Spindle.src (sp : Spindle) (code : Nat) : SourceSt := sp.sources.getD (code - 1) {}

/-- State of the source with a code replaced. -/
def Spindle.setSrc (sp : Spindle) (code : Nat) (x : SourceSt) : Spindle :=
  { sp with sources := lset sp.sources (code - 1) x }

/-- The enabled slots of SP_SRC_CTRL as (slot, code), highest priority first; Finyx first under 01 R62. Finyx that is in no slot
then reports slot 0, and while it is unhealthy the other slots stand in for it in their order (DESIGN CHOICE, log entry 72). -/
def Device.candidates (d : Device) : List (Nat × Nat) :=
  let w := d.rd Reg.SP_SRC_CTRL_slots
  let l := (List.range 4).filterMap fun k =>
    let b := bitsOf w (8 * k + 7) (8 * k)
    let c := b % 8
    if bitAt b 7 && decide (1 ≤ c) && decide (c ≤ 5) then some (k, c) else none
  if d.sp.finyxOverride then
    ((l.find? (fun p => p.2 == 5)).getD (0, 5)) :: l.filter (fun p => p.2 != 5)
  else l

/-- Payload of the lock events: active code and slot (01 R66). -/
def Spindle.srcPayload (sp : Spindle) : Nat :=
  match sp.active with
  | some (c, k) => c + 256 * k
  | none => 0

/-- The part follows a spindle master whose records it uses (01 R62, R63). -/
def Device.hearsMaster (d : Device) : Bool :=
  d.rdB Reg.SP_ALIGN_master_valid && d.join.master != d.rd Reg.FX_ROLE_device_id

/-- What a follower adds to its turn number for its master's, once its spindle time becomes t: the master's does not move with
it (01 R63). While no alignment records arrive the last turn difference stands (DESIGN CHOICE, log entry 73). -/
def Device.deltaAt (d : Device) (t : Nat) : Int :=
  if d.hearsMaster then d.sp.masterTurnDelta - (d.sp.turnCount t - d.sp.turnCount d.sp.time) else d.sp.masterTurnDelta

/-- A step (01 R19): spindle time becomes the reference, marks on the time scale move with it, the offset clears. -/
def Device.stepTo (d : Device) (ref : Nat) : Device :=
  let delta : Int := (ref : Int) - d.sp.time
  let mv (t : Nat) : Nat := ((t : Int) + delta).toNat
  let sp := d.sp
  let d := { d with
   cam := { d.cam with streams := d.cam.streams.map fun (e : Nat × StreamSt) => (e.1, e.2.shifted mv) }
   sp := { sp with
    time := ref, turnOffset := 0, masterTurnDelta := d.deltaAt ref,
    sources := sp.sources.map (fun (x : SourceSt) => ({ x with lastAt := x.lastAt.map mv } : SourceSt)),
    lockedAt := sp.lockedAt.map mv, holdoverFrom := mv sp.holdoverFrom,
    fsyncPulse := sp.fsyncPulse.map fun (t, p) => (mv t, p), ppsPulse := (mv sp.ppsPulse.1, sp.ppsPulse.2) } }
  d.raiseIf (decide (1000 < delta.natAbs)) Ev.PHASE_STEP (tcOf delta 64)

/-- The reference's time now, from the active source's last measurement; none when it has none. A PPS source's is not known
before its first edge (01 R22). -/
def Device.referenceNow (d : Device) : Option Nat :=
  match d.sp.active with
  | some (c, _) =>
    let s := d.sp.src c
    if c = 4 ∧ d.sp.ppsFirst then none else s.lastAt.map fun t => s.lastRef + (d.sp.time - t)
  | none => none

/-- A step that waits is made from the last measurement, where no measurement is at hand; it goes on waiting where the
reference's time is not known. In TURNING no step is made (01 R20). -/
def Device.applyStep (d : Device) (md : Mode) : Device :=
  if d.sp.stepPending then
    if md = .turning then { d with sp := { d.sp with stepPending := false } }
    else
      match d.referenceNow with
      | some r => { d with sp := { d.sp with stepPending := false } }.stepTo r
      | none => d
  else d

/-- A source becomes active (01 R14, R16, R19). -/
def Device.activate (d : Device) (slot code : Nat) : Device :=
  let d := match d.sp.lastActive with
    | some p => d.raiseIf (p != code) Ev.SOURCE_SWITCH (code + 256 * slot + 65536 * p)
    | none => d
  let lockedAt := if d.sp.lock = LockState.locked then some d.sp.time else d.sp.lockedAt
  { d with sp := { d.sp with
    active := some (code, slot), lastActive := some code, lock := .acquiring, goodRun := 0, badRun := 0,
    lockedAt, stepPending := true, ppsFirst := code == 4 } }

/-- No enabled source is healthy any more (01 R16, R17). The mean of the corrections is taken in whole ppb, rounded down; of fewer
than 8 it is the mean of those set, and with none the correction stays (DESIGN CHOICE, log entry 72). -/
def Device.loseSources (d : Device) : Device :=
  let sp := d.sp
  let recent : Bool := sp.lock == LockState.locked ||
    (match sp.lockedAt with | some t => decide (sp.time - t ≤ 10000000000) | none => false)
  if recent then
    let mean := if sp.corrections.isEmpty then sp.adjPpb else sp.corrections.sum / (sp.corrections.length : Int)
    let d := { d with sp := { sp with
      active := none, lock := .holdover, holdoverFrom := sp.time, adjPpb := mean, stepPending := false,
      lockedAt := if sp.lock = LockState.locked then some sp.time else sp.lockedAt } }
    d.raise Ev.HOLDOVER_ENTERED (sp.lastActive.getD 0)
  else { d with sp := { sp with active := none, lock := .free, stepPending := false } }

/-- The choice of the active source (01 R14). A source of higher priority than the active one takes over once it has been
healthy for 8 consecutive measurements; Finyx under 01 R62 at once. -/
def Device.reselect (d : Device) : Device :=
  let hs := d.candidates.filter fun p => (d.sp.src p.2).healthy
  match d.sp.active with
  | some (c, _) =>
    match hs.find? (fun p => p.2 == c) with
    | some (k, _) =>
      let higher := hs.takeWhile (fun p => p.2 != c)
      match higher.find? (fun p => decide (8 ≤ (d.sp.src p.2).streak) || (d.sp.finyxOverride && p.2 == 5)) with
      | some (k', c') => d.activate k' c'
      | none => { d with sp := { d.sp with active := some (c, k) } }
    | none =>
      match hs with
      | (k', c') :: _ => d.activate k' c'
      | [] => d.loseSources
  | none =>
    match hs with
    | (k', c') :: _ => d.activate k' c'
    | [] => d

/-- Interval after which the next measurement of a source is expected, ns; none when none is known yet (01 R595). -/
def Device.nextInterval (d : Device) (code : Nat) (gap : Option Nat) : Option Nat :=
  if code = 4 then some 1000000000
  else if code = 5 then some (64 * d.sp.period / 4096)
  else gap

/-- The measured error as the spindle corrects it: modulo one period in TURNING (01 R20), past the standing offset otherwise
(01 R21). The second part is the number of whole periods k by which spindle time leads, however large. -/
def Device.effectiveError (d : Device) (md : Mode) (e : Int) : Int × Int :=
  let p : Int := d.sp.period
  if md = .turning then
    let m := (e + p / 2) / p
    (e - m * p, -m)
  else (e + d.sp.turnOffset * p, d.sp.turnOffset)

/-- The lock state after a measurement with corrected error e (01 R16). -/
def Device.lockStep (d : Device) (e : Int) : Device :=
  let sp := d.sp
  match sp.lock with
  | .acquiring =>
    let g := if e.natAbs ≤ 100 then sp.goodRun + 1 else 0
    if 8 ≤ g then
      { d with sp := { sp with lock := .locked, goodRun := 0, badRun := 0 } }.raise Ev.LOCK_ACQUIRED sp.srcPayload
    else { d with sp := { sp with goodRun := g } }
  | .locked =>
    let b := if 1000 < e.natAbs then sp.badRun + 1 else 0
    if 3 ≤ b then
      { d with sp := { sp with lock := .acquiring, goodRun := 0, badRun := 0, lockedAt := some sp.time } }.raise
        Ev.LOCK_DEGRADED sp.srcPayload
    else { d with sp := { sp with badRun := b } }
  | _ => d

/-- The rate of the source, in ppb against the uncorrected clock, as its last two measurements show it, unfiltered: `refs` and
`gap` are the times between them by the reference and by the spindle (01 R595; rounding DESIGN CHOICE, log entry 16). -/
def Device.noteRate (d : Device) (refs : Int) (gap : Nat) : Device :=
  { d with sp := { d.sp with srcRate := refs * (1000000000 + d.sp.adjPpb) / (gap : Int) - 1000000000 } }

/-- A measurement of the active source: step, error, frequency correction, lock state and turn offset (01 R19 to R21, R595).
prev is the spindle time of the source's measurement before this one and the reference time that has passed since. A measurement at
which the spindle steps leaves no error, so it counts as the first of the 8 of R16 (DESIGN CHOICE, log entry 72). A slew in TURNING
that ends k turns from the reference sets the offset to that k, 0 among them (DEDUCED, log entry 17). -/
def Device.servo (d : Device) (md : Mode) (code ref : Nat) (prev : Option (Nat × Int)) : Device :=
  let e : Int := (ref : Int) - d.sp.time
  let steps := d.sp.stepPending && decide (md ≠ .turning)
  let gap := prev.bind fun (t, _) => if t < d.sp.time then some (d.sp.time - t) else none
  let d := match prev, gap with
    | some (_, passed), some g => d.noteRate passed g
    | _, _ => d
  let d := { d with sp := { d.sp with phaseErr := clampInt (-2147483648) 2147483647 e } }
  let d := if steps then d.stepTo ref else d
  let (e', k) := if steps then ((0 : Int), (0 : Int)) else d.effectiveError md e
  let lim : Int := d.rd Reg.SP_SLEW_max_ppm * 1000
  let pull : Int := match d.nextInterval code gap with
    | some t => if t = 0 then 0 else clampInt (-lim) lim (e' * 1000000000 / (t : Int))
    | none => 0
  let corr := d.sp.srcRate + pull
  let d := { d with sp := { d.sp with
    stepPending := false, adjPpb := corr, corrections := (corr :: d.sp.corrections).take 8 } }
  let d := d.lockStep e'
  if md = .turning ∧ e'.natAbs ≤ 100 ∧ k ≠ d.sp.turnOffset then
    { d with sp := { d.sp with turnOffset := k } }.raise Ev.TURN_OFFSET (tcOf (clampInt (-127) 127 k) 8)
  else d

/-- A measurement of a source arrives at the present spindle time (01 R14, R15, R16, R595). -/
def Device.measure (d : Device) (md : Mode) (code ref : Nat) : Device :=
  if ¬ d.sp.counting then d
  else
    let s := d.sp.src code
    let prev := s.lastAt.map fun t => (t, (ref : Int) - s.lastRef)
    let s := { s with healthy := true, streak := s.streak + 1, lastAt := some d.sp.time, lastRef := ref, anomalies := 0 }
    let d := ({ d with sp := d.sp.setSrc code s }).reselect
    if (d.sp.active.map Prod.fst) = some code then d.servo md code ref prev
    else d.applyStep md

/-- The gPTP domain that the faceplate names (01 R13; 15 R509). -/
def Device.gptpDomain (d : Device) : Nat := d.fpSys 6 1

/-- A gPTP Sync message on a port: that of the faceplate's domain is used when the port's gptp flag is set and it is asCapable (01
R13, R15; 16 R530, R533). -/
def execGptpSync (sync : SyncMessage) (reference at_ : Nat) (s : State) : Host.Outcome State Fault Refusal :=
  let d := s.dev.stamp at_
  let code := sync.port.val + 1
  nextD s (if d.portFlag sync.port.val 1 && (d.sp.src code).capable && sync.domain.toNat == d.gptpDomain then
    d.measure s.mode code reference else d)

/-- The whole seconds between two edges (01 R15, R22). -/
def edgesApart (last now : Nat) : Nat := max 1 ((now - last + 500000000) / 1000000000)

/-- Deviation of an edge from the nearest whole second after the previous accepted edge (01 R15). -/
def edgeDeviation (last now : Nat) : Int := (now - last : Nat) - (edgesApart last now : Int) * 1000000000

/-- The seconds value that an edge takes (01 R22). -/
def Device.edgeSeconds (d : Device) (first : Bool) (last : Option Nat) : Nat :=
  match d.sp.ppsArmed with
  | some v => v
  | none =>
    if first then 0
    else d.sp.ppsSeconds + (match last with
      | some t => edgesApart t d.sp.time
      | none => 1)

/-- A rising edge on PPS_IN (01 R15, R22, R66; 17 R584). A single edge off its expected time, which is ignored, begins the count of
healthy measurements of R14 anew; after two of them in a row the source has no expected time, and the next edge is taken as healthy
wherever it lies (DESIGN CHOICES, log entry 72). The rate that edges show is that of the seconds between them, whatever values they
take (R595). -/
def execPpsEdge (at_ : Nat) (s : State) : Host.Outcome State Fault Refusal :=
  let d := s.dev.stamp at_
  if ¬ d.sp.counting then nextD s d
  else
    let src := d.sp.src 4
    let dev := match src.lastAt with | some t => edgeDeviation t d.sp.time | none => 0
    if 10000 < dev.natAbs then
      let d := d.raise Ev.PPS_ANOMALY (tcOf (clampInt (-2147483648) 2147483647 dev) 32)
      let n := src.anomalies + 1
      if 2 ≤ n then
        -- Two consecutive edges off: the source is unhealthy, and the next edge has no expected time.
        let d := { d with sp := d.sp.setSrc 4 { src with healthy := false, streak := 0, anomalies := 0, lastAt := none } }
        nextD s ((d.reselect).applyStep s.mode)
      else nextD s { d with sp := d.sp.setSrc 4 { src with anomalies := n, streak := 0 } }
    else
      let prev := src.lastAt.map fun t => (t, (edgesApart t d.sp.time : Int) * 1000000000)
      let src' := { src with healthy := true, streak := src.streak + 1, lastAt := some d.sp.time, anomalies := 0 }
      let d := ({ d with sp := d.sp.setSrc 4 src' }).reselect
      if (d.sp.active.map Prod.fst) = some 4 then
        let first := d.sp.ppsFirst
        let v := d.edgeSeconds first src.lastAt
        let d := { d with sp := { (d.sp.setSrc 4 { src' with lastRef := v * 1000000000 }) with
          ppsSeconds := v, ppsArmed := none, ppsFirst := false } }
        nextD s (d.servo s.mode 4 (v * 1000000000) prev)
      else nextD s (d.applyStep s.mode)

/-- A source becomes unhealthy (01 R15). -/
def Device.sourceDown (d : Device) (md : Mode) (code : Nat) : Device :=
  let src := d.sp.src code
  let d := { d with sp := d.sp.setSrc code { src with healthy := false, streak := 0, anomalies := 0, lastAt := none } }
  let d := if code = 5 then d.wr Reg.SP_ALIGN_master_valid 0 else d
  if d.sp.counting then d.reselect.applyStep md else d

/-- A source stays without a measurement past its limit (01 R15, R16, R17). -/
def execSourceTimeout (source : TimeSource) (s : State) : Host.Outcome State Fault Refusal :=
  nextD s (s.dev.sourceDown s.mode (srcCode source))

/-- Link and asCapable of an Ethernet port change (01 R15, 16 R559). A port that is asCapable again is healthy while its last Sync
message has not timed out. A port whose gptp flag is clear runs no gPTP (16 R530, R533). -/
def execAsCapableChange (port : Fin 3) (linkUp asCapable : Bool) (s : State) : Host.Outcome State Fault Refusal :=
  let code := port.val + 1
  let cap := linkUp && asCapable && s.dev.portFlag port.val 1
  let src := s.dev.sp.src code
  let d := { s.dev with sp := s.dev.sp.setSrc code { src with
    capable := cap, healthy := cap && (src.healthy || src.lastAt.isSome), streak := if cap then src.streak else 0 } }
  let d := (d.wr (Reg.ETH_PORT_STATUS_speed port.val) (if linkUp then (if port.val = 0 then 1 else 2) else 0)).wr
    (Reg.ETH_PORT_STATUS_as_capable port.val) (b2n cap)
  nextD s (if d.sp.counting then d.reselect.applyStep s.mode else d)

/-- Holdover has lasted 10 s (01 R18). -/
def execHoldoverExpired (at_ : Nat) (s : State) : Host.Outcome State Fault Refusal :=
  let d := s.dev.stamp at_
  if d.sp.lock = LockState.holdover then
    nextD s ({ d with sp := { d.sp with lock := .holdoverExpired } }.raise Ev.HOLDOVER_EXPIRED (d.sp.lastActive.getD 0))
  else nextD s d

-- Writes with rows of their own.

/-- WRITE_REJECTED with the register's offset from the SP base (01 R66). -/
def Device.spReject (d : Device) (offset : Nat) : Device := d.raise Ev.WRITE_REJECTED offset

/-- A write of 1 to SP_CTRL.step_request, accepted outside TURNING with a source active (01 R19, R64). Where the active source's
time is not known yet, the step is made at its next measurement. -/
def Device.stepRequest (d : Device) (md : Mode) : Device :=
  if md = .turning ∨ ¬ d.sp.counting ∨ d.sp.active = none then d.spReject 0
  else
    match d.referenceNow with
    | some r => { d with sp := { d.sp with stepPending := false } }.stepTo r
    | none => { d with sp := { d.sp with stepPending := true } }

/-- STEP_REQUEST (01 R19). -/
def execStepRequest (s : State) : Host.Outcome State Fault Refusal := nextD s (s.dev.stepRequest s.mode)

/-- A write to SP_PERIOD (01 R65). -/
def Device.writePeriod (d : Device) (md : Mode) (v : Nat) : Device :=
  let p := v % 2 ^ 20
  if md = .turning ∨ p < 1000 ∨ 1000000 < p then d.spReject 0x008 else d.wr Reg.SP_PERIOD_period_us p

/-- SP_PERIOD_WRITE (01 R65). -/
def execSpPeriodWrite (value : Word) (s : State) : Host.Outcome State Fault Refusal :=
  nextD s (s.dev.writePeriod s.mode value.toNat)

/-- A write to SP_PHASE (01 R65). -/
def Device.writePhase (d : Device) (md : Mode) (v : Nat) : Device :=
  let p := v % 2 ^ 30
  if md = .turning ∨ 999999999 < p then d.spReject 0x00C else d.wr Reg.SP_PHASE_phase_ns p

/-- SP_PHASE_WRITE (01 R65). -/
def execSpPhaseWrite (value : Word) (s : State) : Host.Outcome State Fault Refusal :=
  nextD s (s.dev.writePhase s.mode value.toNat)

/-- A write to SP_SLEW (01 R64). -/
def Device.writeSlew (d : Device) (v : Nat) : Device :=
  let p := v % 2 ^ 10
  if p < 10 ∨ 500 < p then d.spReject 0x014 else d.wr Reg.SP_SLEW_max_ppm p

/-- SP_SLEW_WRITE (01 R64). -/
def execSpSlewWrite (value : Word) (s : State) : Host.Outcome State Fault Refusal := nextD s (s.dev.writeSlew value.toNat)

/-- A write to SP_FSYNCf_OFFSET (01 R36). -/
def Device.writeFsyncOffset (d : Device) (f v : Nat) : Device :=
  let n := v % 2 ^ 18
  if d.sp.period / 4096 ≤ n then d.spReject (0x104 + 8 * f) else d.wrShadow (Reg.SP_FSYNC_OFFSET_fine_ns f) n

/-- FSYNC_OFFSET_WRITE (01 R36). -/
def execFsyncOffsetWrite (f : Fin 8) (value : Word) (s : State) : Host.Outcome State Fault Refusal :=
  nextD s (s.dev.writeFsyncOffset f.val value.toNat)

/-- The shadow_hold fields that bit b of SP_HOLD_RELEASE.mask names (01 'Hold registers'). -/
def holdFields (b : Nat) : List Fld :=
  match b with
  | 0 => [Reg.SP_SHADOW_CTRL_shadow_hold]
  | 1 => [Reg.NE_SHADOW_CTRL_shadow_hold]
  | 2 => (List.range 32).map fun n => Reg.CORE_SHADOW_CTRL_shadow_hold n
  | 3 => [Reg.DMA_SHADOW_CTRL_shadow_hold]
  | 4 => [Reg.MEM_SHADOW_CTRL_shadow_hold]
  | 5 => [Reg.CSI_SHADOW_CTRL_shadow_hold]
  | 6 => [Reg.ISP_SHADOW_CTRL_shadow_hold]
  | 7 => [Reg.VID_SHADOW_CTRL_shadow_hold]
  | 8 => [Reg.FX_SHADOW_CTRL_shadow_hold]
  | 9 => [Reg.ETH_SHADOW_CTRL_shadow_hold]
  | 10 => [Reg.PWR_SHADOW_CTRL_shadow_hold]
  | _ => []

/-- The named holds clear (01 R59). -/
def Device.clearHolds (d : Device) (mask : Nat) : Device :=
  forL ((List.range 11).filter (fun b => bitAt mask b)) (fun b d => forL (holdFields b) (fun f d => d.wr f 0) d) d

/-- A write of SP_HOLD_RELEASE with at_turn set (01 R59, R60). The turn is that which SP_HOLD_TURN has at the write, and releases
already armed stay armed (DESIGN CHOICE, log entry 72). -/
def Device.armRelease (d : Device) (mask : Nat) : Device :=
  let t := d.rd Reg.SP_HOLD_TURN_turn
  if turnAhead t d.turn then { d with sp := { d.sp with releases := d.sp.releases ++ [(mask % 2 ^ 11, t)] } }
  else d.spReject 0x0E0

/-- HOLD_RELEASE_NOW (01 R59). -/
def execHoldReleaseNow (mask : BitVec 11) (s : State) : Host.Outcome State Fault Refusal :=
  nextD s (s.dev.clearHolds mask.toNat)

/-- HOLD_RELEASE_AT_TURN (01 R59, R60). -/
def execHoldReleaseAtTurn (mask : BitVec 11) (s : State) : Host.Outcome State Fault Refusal :=
  nextD s (s.dev.armRelease mask.toNat)

/-- A write to SP_PPS_SECONDS_LO (01 R22). -/
def Device.armSeconds (d : Device) (low : Nat) : Device :=
  let d := d.wr Reg.SP_PPS_SECONDS_LO_seconds_lo low
  { d with sp := { d.sp with ppsArmed := some (low % 2 ^ 32 + 2 ^ 32 * d.rd Reg.SP_PPS_SECONDS_HI_seconds_hi) } }

/-- PPS_SECONDS_ARM (01 R22). -/
def execPpsSecondsArm (low : Word) (s : State) : Host.Outcome State Fault Refusal := nextD s (s.dev.armSeconds low.toNat)

-- FSYNC and PPS outputs (01 R23, R33 to R36).

/-- The FSYNC outputs pulse: in a job, after retirement (13 R418), and outside TURNING with fsync_free_run set. -/
def Device.fsyncRuns (d : Device) (md : Mode) : Bool :=
  d.sp.counting && (md == .turning || md == .retired || d.rdB Reg.SP_CTRL_fsync_free_run)

/-- An index at which output f asserts in a turn (01 R33). -/
def Device.fsyncPlaced (d : Device) (f turn index : Nat) : Bool :=
  let n := 2 ^ d.rd (Reg.SP_FSYNC_CTRL_ppt f)
  d.rdB (Reg.SP_FSYNC_CTRL_enable f) && turn % (d.rd (Reg.SP_FSYNC_CTRL_turn_div f) + 1) == 0 &&
    (List.range n).any fun p => index == (d.rd (Reg.SP_FSYNC_CTRL_start_index f) + p * 4096 / n) % 4096

/-- The fine offset in use: a committed value that the period in use no longer allows is replaced (01 R36). -/
def Device.fineOffset (d : Device) (f : Nat) : Nat :=
  let n := d.rd (Reg.SP_FSYNC_OFFSET_fine_ns f)
  let short := d.sp.period / 4096
  if short ≤ n then short - 1 else n

/-- The spindle time at which output f asserts in the present index: fine_ns after the index begins (01 R33). -/
def Device.fsyncEdge (d : Device) (f : Nat) : Nat :=
  d.sp.time + d.sp.indexStart d.index - d.sp.offsetAt d.sp.time + d.fineOffset f

/-- A moment has passed or lies in the present index; the next boundary is a step of its own (log entry 6). -/
def Spindle.reaches (sp : Spindle) (t : Nat) : Bool := decide (t < sp.nextBoundary sp.time)

/-- FSYNC_ASSERT: output f asserts fine_ns after the start of the present index, for width_us (01 R33). -/
def execFsyncAssert (f : Fin 8) (s : State) : Host.Outcome State Fault Refusal :=
  let d := s.dev
  if d.fsyncRuns s.mode && d.fsyncPlaced f.val d.turn d.index then
    let edge := d.fsyncEdge f.val
    let d := d.stamp edge
    nextD s { d with sp := { d.sp with
      fsync := lset d.sp.fsync f.val true,
      fsyncPulse := lset d.sp.fsyncPulse f.val
        (edge + 1000 * d.rd (Reg.SP_FSYNC_CTRL_width_us f.val), d.rd (Reg.SP_FSYNC_CTRL_polarity f.val)) } }
  else nextD s d

/-- FSYNC_DEASSERT: a pulse ends with the width with which it began (01 R33, R35), in the index in which that end lies. -/
def execFsyncDeassert (f : Fin 8) (s : State) : Host.Outcome State Fault Refusal :=
  let d := s.dev
  let stop := (d.sp.fsyncPulse.getD f.val (0, 0)).1
  if d.sp.fsync.getD f.val false && d.sp.reaches stop then
    let d := d.stamp stop
    nextD s { d with sp := { d.sp with fsync := lset d.sp.fsync f.val false } }
  else nextD s d

/-- The next whole second of spindle time, the present moment included (01 R23). -/
def Spindle.nextSecond (sp : Spindle) : Nat := ceilDiv sp.time 1000000000 * 1000000000

/-- PPS_OUT_ASSERT: with pps_out_en set the output asserts at a whole second of spindle time, for width_us and with the polarity
that stand then (01 R23). No second that lies in this index: nothing happens. -/
def execPpsOutAssert (s : State) : Host.Outcome State Fault Refusal :=
  let d := s.dev
  let edge := d.sp.nextSecond
  if d.sp.counting && d.rdB Reg.SP_CTRL_pps_out_en && d.sp.reaches edge then
    let d := d.stamp edge
    nextD s { d with sp := { d.sp with
      ppsOut := true, ppsPulse := (edge + 1000 * d.rd Reg.SP_PPS_OUT_width_us, d.rd Reg.SP_PPS_OUT_polarity) } }
  else nextD s d

/-- PPS_OUT_DEASSERT: the pulse ends after the width_us with which it began (01 R23), in the index in which that end lies. -/
def execPpsOutDeassert (s : State) : Host.Outcome State Fault Refusal :=
  let d := s.dev
  if d.sp.ppsOut && d.sp.reaches d.sp.ppsPulse.1 then
    let d := d.stamp d.sp.ppsPulse.1
    nextD s { d with sp := { d.sp with ppsOut := false } }
  else nextD s d

end Sys2Proof.Machine
end

