-- ==== Sys2Proof/Machine/Plan.lean ====
section
/-! DEFINITION. Plans offered to the part: check, activation, core constants, and the acceptance of a start (06 R224, R229 to
R232; 01 R30, R31; 08 R286; 14 R475), with the plan registers that latch. -/

namespace Sys2Proof.Machine

/-- The check's verdict is recorded (06 NE_PLAN_STATUS, NE_PLAN_REJECT). -/
def Device.recordVerdict (d : Device) (v : Option (Nat × Nat)) : Device :=
  match v with
  | none => d.wr Reg.NE_PLAN_STATUS_last_rejected 0
  | some (reason, item) =>
    ((d.wr Reg.NE_PLAN_STATUS_last_rejected 1).wr Reg.NE_PLAN_REJECT_reason reason).wr Reg.NE_PLAN_REJECT_item item

/-- The descriptors of a plan stand in the descriptor store (07 R238, 08 R267). A warm start that finds the plan whose descriptors
were stored last writes nothing (08 R285). -/
def Device.storeDescriptors (d : Device) (md : Mode) (p : Plan) : Device :=
  if md = .warmStart ∧ d.memc.inStore = p.dma then d
  else
    let d := (d.writeChecked md .headstock (d.area 4).1 p.dma.flatten).2
    { d with memc := { d.memc with inStore := p.dma } }

/-- Activation (06 R230): the plan becomes active with its window table, thresholds and registers; M3 and M4 are extended (15
R502). -/
def Device.activatePlan (d : Device) (md : Mode) (p : Plan) : Device :=
  let d := { d with seq := { d.seq with plan := some p, items := d.seq.items.filter fun r => r.phase == Phase.abandoned } }
  let d := d.storeDescriptors md p
  let d := d.loadThresholds p.tensors d.fpThreshold
  let d := (((d.wr Reg.NE_PLAN_STATUS_version_major (pMajor p.header)).wr Reg.NE_PLAN_STATUS_version_minor (pMinor p.header)).wr
    Reg.NE_PLAN_STATUS_plan_valid 1).wr Reg.NE_PLAN_STATUS_fallback_active 0
  let d := d.wrPair Reg.NE_PLAN_ACTIVE_LO_plan_id_lo Reg.NE_PLAN_ACTIVE_HI_plan_id_hi (pId p.header)
  forL p.bindings (fun b d => d.extend 4 (sliceOf b 24 64)) (d.extend 3 p.digest)

/-- A plan is offered: every check, then activation or discard (06 R229 to R231). The digest is that of its payload. -/
def Device.offerPlan (d : Device) (md : Mode) (c : PlanCtx) (containerOk : Bool) (image digest : List Byte) :
    Option (Nat × Nat) × Device :=
  let (v, d) := d.planReject md c containerOk image
  let d := d.recordVerdict v
  match v with
  | none => (none, d.activatePlan md (parsePlan image digest))
  | some r => (some r, d)

/-- Every constant entry is written into core memory (06 R224). -/
def Device.writeConstants (d : Device) (md : Mode) : Device :=
  match d.seq.plan with
  | none => d
  | some p => forL p.constants (fun c d => (d.writeChecked md .engine (coreMemBase c.core + c.offset) c.data).2) d

/-- The first turn of a job started now (01 R30). lead_index counts from the present index as a whole, however much of it has
passed: DESIGN CHOICE, log entry 72. -/
def Device.firstTurn (d : Device) : Nat :=
  if d.rdB Reg.SP_START_LEAD_use_start_turn then d.rd Reg.SP_START_TURN_start_turn
  else
    -- Indices before the first index 0 that lies at least lead_index indices ahead.
    turnPlus d.turn (ceilDiv (d.index + d.rd Reg.SP_START_LEAD_lead_index) 4096)

/-- Some VDD_NE rail has been lost (14 R475). -/
def Device.railLost (d : Device) : Bool := d.pwr.startBlocked

/-- Result of a start command (16 R542): the hardware's conditions first, then those of 01 R31 in their order. -/
def Device.startResult (d : Device) : Nat :=
  if d.rd Reg.MEM_STATUS_offline ≠ 0 then 4
  else if d.railLost then 5
  else if d.rdB Reg.SP_START_LEAD_use_start_turn ∧ ¬ turnAhead (d.rd Reg.SP_START_TURN_start_turn) d.turn then 1
  else if (d.sp.lock = LockState.free ∨ d.sp.lock = LockState.acquiring ∨ d.sp.lock = LockState.holdoverExpired) ∧
      ¬ d.rdB Reg.SP_CTRL_free_run_permit then 2
  else
    match d.seq.plan with
    | some p => if pSlew p.header < d.rd Reg.SP_SLEW_max_ppm then 3 else 0
    | none => 0

/-- A start is accepted: the job begins, and TURNING with it (00 R4; 01 R30, R62; 13 R426). -/
def Device.acceptStart (d : Device) : Device :=
  let first := d.firstTurn
  let forced := d.sp.finyxOverride
  let d := d.resetJob
  let d := if forced then d.reselect.applyStep .turning else d
  let d := { d with
    seq := { d.seq with jobFirst := some first, starting := none, runs := d.seq.runs + 1 } }
  forN 80 (fun ch d => d.requestNext ch) d

-- Latching registers of the plan.

/-- A counter's state is latched into NE_CTR_VALUE (06 R233). -/
def Device.latchCounter (d : Device) (v : Nat) : Device :=
  let c := v % 512
  let x := d.ctr c
  ((d.wr Reg.NE_CTR_SEL_counter c).wr Reg.NE_CTR_VALUE_marks x.marks).wr Reg.NE_CTR_VALUE_value x.value

/-- NE_CTR_SEL_WRITE: the selected counter is latched (06 R233). -/
def execNeCtrSelWrite (value : Word) (s : State) : Host.Outcome State Fault Refusal :=
  nextD s (s.dev.latchCounter value.toNat)

/-- NE_PLAN_ACTIVE_LO_READ: the low word is read and the high word stands still (06 R233). -/
def execNePlanActiveLoRead (s : State) : Host.Outcome State Fault Refusal :=
  let d := s.dev
  nextD s (d.readLatching (d.rd Reg.NE_PLAN_ACTIVE_LO_plan_id_lo) Reg.NE_PLAN_ACTIVE_HI_plan_id_hi.addr
    (d.rd Reg.NE_PLAN_ACTIVE_HI_plan_id_hi))

end Sys2Proof.Machine
end

