-- ==== Sys2Proof/Machine/Fetch.lean ====
section
/-! DEFINITION. Fetching plan, models and application images from their sources (15 R511, R513 C8, R517, R519; 16 R546, R547). -/

namespace Sys2Proof.Machine

-- Source entries (15 R511).

def srcModelId (e : List Byte) : Nat := fieldOf e 0 4
def srcKind (e : List Byte) : Nat := fieldOf e 4 1
def srcFrom (e : List Byte) : Nat := fieldOf e 5 1
def srcOffset (e : List Byte) : Nat := fieldOf e 8 8
def srcLength (e : List Byte) : Nat := fieldOf e 16 8
def srcDigest (e : List Byte) : List Byte := sliceOf e 24 64

/-- Source entry k of the faceplate in use. -/
def Device.source (d : Device) (k : Nat) : List Byte := d.fpSources.getD k []

/-- Payload type of a kind of source (15 R484, R511). -/
def kindType (kind : Nat) : Nat := if kind = 1 then 3 else if kind = 2 then 4 else 6

/-- Fetch record of a source entry. -/
def Device.fetchOf (d : Device) (k : Nat) : Option Fetch := d.fetch.find? fun f => f.entry == k

/-- Fetch record of a source entry replaced. -/
def Device.setFetch (d : Device) (x : Fetch) : Device :=
  { d with fetch := d.fetch.map fun f => if f.entry = x.entry then x else f }

/-- The entry that names the plan. -/
def Device.planEntry (d : Device) : Option Fetch := d.fetch.find? fun f => srcKind (d.source f.entry) == 1

/-- Payload of a container held for an entry. -/
def Fetch.payload (f : Fetch) : List Byte :=
  cellsRead f.data 128 (cLength (cellsRead f.data 0 128))

/-- Place and room of the plan's container in the firmware area (16 R547; where in the area DESIGN CHOICE, log entry 21). -/
def Device.planBase (d : Device) : Nat := (d.area 2).1 + 0x8000000
def planRoom : Nat := 0x10000000

/-- The plan's container as its bytes stand in memory. -/
def Device.planHeld (d : Device) (f : Fetch) : List Byte := d.bytes d.planBase f.got

/-- The plan's container as Headstock reads it (16 R547; 15 R515 W7; 08 R276). -/
def Device.readPlan (d : Device) (md : Mode) (f : Fetch) : List Byte × Device :=
  let (bs, _, d) := d.readChecked md .headstock d.planBase f.got
  (bs, d)

/-- The plan's container is placed in the firmware area (16 R547). -/
def Device.placePlan (d : Device) (md : Mode) (bs : List Byte) : Device := (d.writeChecked md .headstock d.planBase bs).2

/-- The plan has been fetched and its container accepted. -/
def Device.planFetched (d : Device) : Bool :=
  match d.planEntry with | some f => f.accepted | none => false

/-- Bindings of the fetched plan (06 R204). -/
def Device.fetchedBindings (d : Device) : List (List Byte) :=
  match d.planEntry with
  | some f => if f.accepted then recordsOf 96 (pBytes (containerPayload (d.planHeld f)) 8) else []
  | none => []

/-- DRAM offset that the fetched plan binds to a model_id (16 R547). -/
def Device.boundAt (d : Device) (modelId : Nat) : Option Nat :=
  (d.fetchedBindings.find? fun b => fieldOf b 0 4 == modelId).map fun b => fieldOf b 8 8

/-- Longest MODEL_READ (16 R546). -/
def readChunk : Nat := 2 ^ 20

/-- A MODEL_READ request leaves (16 R546). Its sequence is free: the rules give none (16 R534). -/
def Device.sendModelRead (d : Device) (k off len : Nat) : Device :=
  let payload := leBytes 4 k ++ leBytes 4 (srcModelId (d.source k)) ++ leBytes 8 off ++ leBytes 4 len
  let (n, d) := d.tick
  let m : Message := {
    msgType := 0x40, status := 0, session := 0, sequence := Config.unstated 534 n % 2 ^ 32, push := false, payload, request := true
    sentTo := (d.portFor 2).map fun p => d.destinationOf p 2 }
  let d := d.post m
  match d.portFor 2 with | some p => d.queueMessage p m | none => d

/-- Requests outstanding. -/
def Device.outstandingReads (d : Device) : Nat := (d.fetch.map fun f => f.outstanding.length).sum

/-- The entry whose next request is due: the plan before the others (16 R546). -/
def Device.nextFetch (d : Device) : Option Fetch :=
  d.fetch.find? fun f =>
    let e := d.source f.entry
    srcFrom e == 0 && !f.complete && decide (f.nextOff < srcLength e) && (d.planFetched || srcKind e == 1)

/-- Requests are issued while fewer than 16 are outstanding and data is missing (16 R546). -/
def Device.pumpFetch (d : Device) : Nat → Device
  | 0 => d
  | fuel + 1 =>
    if 16 ≤ d.outstandingReads ∨ (d.portFor 2).isNone then d
    else
      match d.nextFetch with
      | none => d
      | some f =>
        let len := min readChunk (srcLength (d.source f.entry) - f.nextOff)
        ((d.setFetch { f with nextOff := f.nextOff + len, outstanding := f.outstanding ++ [(f.nextOff, len, 0)] }).sendModelRead
          f.entry f.nextOff len).pumpFetch fuel

/-- Verdict on a complete container (15 R485, R511): 0, or the reason; a digest other than the one the entry expects is
DIGEST. A plan longer than its place runs past its storage. -/
def Device.sourceReason (d : Device) (o : Otp) (f : Fetch) : Nat :=
  let e := d.source f.entry
  let get (a n : Nat) : List Byte := cellsRead f.data a n
  let room := if srcKind e = 1 then min (srcLength e) planRoom else srcLength e
  let r := containerReason o d.life (kindType (srcKind e)) room (fun _ => true) get
  if r ≠ 0 then r else if cDigest (get 0 128) ≠ srcDigest e then 7 else 0

/-- CONTAINER_REJECTED (15 R522). -/
def Device.rejectContainer (d : Device) (reason type modelId : Nat) : Device :=
  d.raise Ev.CONTAINER_REJECTED (reason + type * 2 ^ 8 + modelId * 2 ^ 16)

/-- A model's payload is placed where the plan binds it (16 R547). Models are placed in the starts only. -/
def Device.placeModel (d : Device) (off : Nat) (payload : List Byte) : Device :=
  (d.writeChecked .coldStart .headstock (dramBase + off) payload).2

/-- A complete container of an entry is judged (15 R511, R519; 16 R547). A model without a binding is refused. -/
def Device.judgeSource (d : Device) (o : Otp) (k : Nat) : Device :=
  match d.fetchOf k with
  | none => d
  | some f =>
    let e := d.source k
    let f := { f with complete := true, outstanding := [] }
    let r := d.sourceReason o f
    let d := d.setFetch f
    if r ≠ 0 then d.rejectContainer r (kindType (srcKind e)) (srcModelId e)
    else
      match srcKind e with
      | 2 =>
        match d.boundAt (srcModelId e) with
        | none => d.rejectContainer 0 4 (srcModelId e)
        | some off => (d.setFetch { f with accepted := true }).placeModel off f.payload
      | 1 => (d.setFetch { f with accepted := true, data := [] }).placePlan .coldStart (cellsRead f.data 0 f.got)
      | _ => d.setFetch { f with accepted := true }

/-- Entries of the owner area are read and judged at once (15 R482, R511). -/
def Device.readOwner (d : Device) (o : Otp) (k : Nat) : Device :=
  let e := d.source k
  match d.fetchOf k with
  | some f =>
    if srcFrom e = 1 ∧ ¬ f.complete ∧ (srcKind e = 1 ∨ d.planFetched) then
      let bytes := flashRead d.boot.flash (ownerBase + srcOffset e) (srcLength e)
      (d.setFetch { f with data := cellsWrite [] 0 bytes, got := srcLength e }).judgeSource o k
    else d
  | none => d

/-- Fetching goes on: the owner area's entries, the plan first, and requests for the rest. -/
def Device.goFetch (d : Device) (o : Otp) : Device :=
  let d := match d.planEntry with | some f => d.readOwner o f.entry | none => d
  (forL (List.range d.fetch.length) (fun k d => d.readOwner o k) d).pumpFetch 16

/-- Fetch begins with every entry unread (15 R513 C8). -/
def Device.startFetch (d : Device) (o : Otp) : Device :=
  ({ d with fetch := (List.range d.fpSources.length).map fun k => { entry := k } }).goFetch o

/-- An entry is fetched again from its start (15 R517, R519; 16 R547). -/
def Device.refetch (d : Device) (o : Otp) (k : Nat) : Device :=
  match d.fetchOf k with
  | some f => (d.setFetch { entry := k, stalledRaised := f.stalledRaised }).goFetch o
  | none => d

/-- The part fetches: in the starts only (16 R541 MODEL_READ, R546). -/
def fetching (md : Mode) : Bool := md == .coldStart || md == .warmStart

/-- MODEL_READ_RESPONSE: data of an outstanding request; others are ignored (16 R546, R547). -/
def execModelReadResponse (entry modelId offset length : Nat) (data : List Byte) (s : State) :
    Host.Outcome State Fault Refusal :=
  let d := s.dev
  match d.fetchOf entry with
  | some f =>
    if fetching s.mode ∧ srcModelId (d.source entry) = modelId ∧ f.outstanding.any (fun r => r.1 == offset && r.2.1 == length) then
      let f := { f with
        outstanding := f.outstanding.filter fun r => !(r.1 == offset && r.2.1 == length)
        data := cellsWrite f.data offset (sliceOf data 0 length), got := f.got + length }
      let d := d.setFetch f
      let d := if srcLength (d.source entry) ≤ f.got then d.judgeSource s.otp entry else d
      nextD s (d.goFetch s.otp)
    else nextD s d
  | none => nextD s d

/-- MODEL_READ_TIMEOUT: the request is issued again; the eighth reissue in a row reports a stall, once for the entry in a start
(16 R547). -/
def execModelReadTimeout (entry offset : Nat) (s : State) : Host.Outcome State Fault Refusal :=
  let d := s.dev
  match d.fetchOf entry with
  | some f =>
    match f.outstanding.find? (fun r => r.1 == offset) with
    | some (_, len, n) =>
      if ¬ fetching s.mode then nextD s d
      else
        let stalls := decide (8 ≤ n + 1) && !f.stalledRaised
        let f := { f with
          outstanding := f.outstanding.map fun r => if r.1 = offset then (r.1, r.2.1, n + 1) else r
          stalledRaised := f.stalledRaised || stalls }
        let d := (d.setFetch f).sendModelRead entry offset len
        nextD s (d.raiseIf stalls Ev.FETCH_STALLED (fwPayload ((d.portFor 2).getD 0xFF) 5 (entry % 2 ^ 16)))
    | none => nextD s d
  | none => nextD s d

/-- FETCH_RETRY: a container that was refused is fetched again whole (15 R519, 16 R547). -/
def execFetchRetry (entry : Nat) (s : State) : Host.Outcome State Fault Refusal :=
  match s.dev.fetchOf entry with
  | some f => nextD s (if fetching s.mode ∧ f.complete ∧ ¬ f.accepted then s.dev.refetch s.otp entry else s.dev)
  | none => nextD s s.dev

end Sys2Proof.Machine
end

