-- ==== Sys2Proof/Machine/Power.lean ====
section
/-! DEFINITION. Power and thermal control: operating points, the fast limiters, ballast, temperatures, Steady's loop, the group
budget and the loss of a rail (14 R441 to R476; 17 R570, R572). Currents are in mA, voltages in mV; products stand in uW. -/

namespace Sys2Proof.Machine

-- Operating points (14 R441, R442).

/-- Clock of a step in MHz. -/
def stepMhz (s : Nat) : Nat := 1000 + 100 * s

/-- Set point of a step in mV. -/
def stepMv (s : Nat) : Nat := 550 + ceilDiv (125 * s) 8

/-- Current step of a quadrant. -/
def Device.stepOf (d : Device) (q : Nat) : Nat := d.rd (Reg.PWR_RAIL_POINT_step q)

/-- Duty of a quadrant's limiter. -/
def Device.duty (d : Device) (q : Nat) : Nat := d.rd (Reg.PWR_RAIL_LIMITER_duty q)

/-- NE_QUADq_OP reports the clock after limiter action (14 R446). -/
def Device.showClock (d : Device) (q : Nat) : Device := d.wr (Reg.NE_QUAD_OP_mhz q) (stepMhz (d.stepOf q) * d.duty q / 16)

/-- The limiter's duty is set, with the bits that show it. -/
def Device.setDuty (d : Device) (q duty : Nat) : Device :=
  ((d.wr (Reg.PWR_RAIL_LIMITER_duty q) duty).wr (Reg.PWR_RAIL_STATUS_limiter_active q) (b2n (decide (duty < 16)))).showClock q

/-- Step that a quadrant's set point stands for: the step whose voltage is awaited, else the current one (14 R442). -/
def Device.setPoint (d : Device) (q : Nat) : Nat := ((d.rail q).target).getD (d.stepOf q)

/-- A quadrant is lowered: the clock first, then the voltage (14 R442). -/
def Device.lowerTo (d : Device) (q s : Nat) : Device :=
  let d := d.setRail q { d.rail q with target := none }
  ((d.wr (Reg.PWR_RAIL_POINT_step q) s).showClock q).wr (Reg.NE_QUAD_OP_mv q) (stepMv s)

/-- A quadrant is raised: the voltage first; the clock follows when the regulator reports it (14 R442). -/
def Device.raiseTo (d : Device) (q s : Nat) : Device :=
  (d.wr (Reg.NE_QUAD_OP_mv q) (stepMv s)).setRail q { d.rail q with target := some s }

/-- First of a list with the greatest key; none of an empty list. -/
def firstAt {α : Type} (key : α → Int) (xs : List α) : Option α := xs.find? fun x => xs.all fun y => decide (key y ≤ key x)

/-- The next waiting rise begins once no voltage is awaited, that of the lowest set point; a quadrant that recovers begins its
10 ms (14 R457, R459, R460; 'lowest' is by set point, ties to the lower number: DEDUCED, log entry 42). -/
def Device.raiseNext (d : Device) : Device :=
  if (List.range 4).any fun q => (d.rail q).target.isSome then d
  else
    match firstAt (fun x : Nat × Nat => -(d.setPoint x.1 : Int)) d.pwr.rises with
    | none => d
    | some (q, t) =>
      let d := { d with pwr := { d.pwr with rises := d.pwr.rises.filter fun x => x.1 != q } }.raiseTo q t
      let r := d.rail q
      if r.recovering then d.setRail q { r with holdUntil := d.pwr.ticks + 10 } else d

/-- VOLTAGE_REACHED: the clock follows, and the next quadrant begins to rise (14 R442, R457). -/
def execVoltageReached (quadrant : Fin 4) (s : State) : Host.Outcome State Fault Refusal :=
  let d := s.dev
  let q := quadrant.val
  match (d.rail q).target with
  | none => .next s
  | some t =>
    nextD s (((d.setRail q { d.rail q with target := none }).wr (Reg.PWR_RAIL_POINT_step q) t).showClock q).raiseNext

/-- The ballast shift registers are seeded at a start (14 R451). -/
def Device.seedBallast (d : Device) : Device :=
  let n := d.pwr.starts + 1
  let lfsr := (List.range 128).map fun a => Config.ballastSeed a n
  { d with pwr := { d.pwr with starts := n, lfsr := lfsr } }

/-- Arrays of a quadrant that feed no descriptor, as (core, array). -/
def Device.idleArrays (d : Device) (q : Nat) : List (Nat × Nat) :=
  ((List.range 32).map fun k => (8 * q + k / 4, k % 4)).filter fun c => (d.array c.1 c.2).feeding.isNone

/-- A rail at a start, with the arrays that are idle then. -/
def RailSt.started (r : RailSt) (idle : List (Nat × Nat)) : RailSt :=
  { r with mismatchRun := 0, means := [], ballastHeld := false, prevMean := 0, idle := idle }

/-- A quadrant at a start: step 0, full duty unless a trip stands, gain 1.0, ballast off (14 R444, R461, R463). -/
def Device.startRail (q : Nat) (d : Device) : Device :=
  let d := d.setRail q ((d.rail q).started (d.idleArrays q))
  let d := d.wr (Reg.PWR_RAIL_GAIN_gain q) 4096
  let d := d.wr (Reg.PWR_RAIL_LIMITER_ballast q) 0
  (d.lowerTo q 0).setDuty q (if d.rdB (Reg.PWR_RAIL_STATUS_trip q) then 1 else 16)

/-- Power control as a start leaves it: step 0, full duty, gain 1.0, ballast off, shift registers seeded, and the base allocation
in force when none is (14 R444, R451, R463, R468). -/
def Device.startPower (d : Device) : Device :=
  let d := forN 4 Device.startRail d.seedBallast
  let d := { d with pwr := { d.pwr with rises := [] } }
  if d.rd Reg.PWR_GROUP_ALLOC_alloc_w = 0 then d.wr Reg.PWR_GROUP_ALLOC_alloc_w (d.rd Reg.PWR_GROUP_BASE_base_w) else d

-- The fast limiter (14 R445 to R450).

/-- Current limit and ramp limit of a rail in mA. -/
def Device.limitMa (d : Device) (q : Nat) : Nat := d.rd (Reg.PWR_RAIL_LIMIT_limit_a q) * 1000
def Device.rampMa (d : Device) (q : Nat) : Nat := d.rd (Reg.PWR_RAIL_LIMIT_limit_a q) * 200

/-- The window mean of counted activity after the rail's gain (14 R463). -/
def gained (gain ma : Nat) : Nat := gain * ma / 4096

/-- The window mean projected for a duty, from the mean's static and dynamic parts at the present duty: the dynamic part follows
the duty (DEDUCED, log entry 42). -/
def projected (gain static dynamic now duty : Nat) : Nat := gained gain (static + dynamic * duty / max now 1)

/-- Greatest duty from 1 up to a bound that satisfies a condition, or 1. -/
def greatestDuty (ok : Nat → Bool) : Nat → Nat
  | 0 => 1
  | n + 1 => if ok (n + 1) then n + 1 else greatestDuty ok n

/-- The duty that the limiter sets after a window (14 R447 to R449, R461). -/
def nextDuty (trip : Bool) (limit : Nat) (ramp : Option Nat) (now : Nat) (proj : Nat → Nat) : Nat :=
  let within (k : Nat) : Bool := decide (proj k ≤ limit) && (match ramp with | some r => decide (proj k ≤ r) | none => true)
  if trip then 1
  else if within now then (if now < 16 ∧ within (now + 1) then now + 1 else now)
  else greatestDuty within (now - 1)

/-- A gated step is counted; more than 1% of the turn raises the event once for the rail and turn (14 R450). -/
def Device.noteGated (d : Device) (q : Nat) : Device :=
  if 16 ≤ d.duty q then d
  else
    let d := d.bump (Reg.PWR_RAIL_LIMITER_throttled q) 1
    let r := d.rail q
    let n := r.gated + 1
    let tooLong := decide (d.sp.period < n * 100 * 100) && !r.gatedRaised
    let d := d.setRail q { r with gated := n, gatedRaised := r.gatedRaised || tooLong }
    if tooLong then d.raise Ev.PWR_LIMITER_THROTTLE (q + (n * 100 / 1000) * 2 ^ 32) else d

/-- LIMITER_WINDOW: one step of 100 ns (14 R445 to R450). -/
def execLimiterWindow (quadrant : Fin 4) (staticMa dynamicMa : Nat) (s : State) : Host.Outcome State Fault Refusal :=
  let d := s.dev
  let q := quadrant.val
  if ¬ d.boot.applicationUp ∨ d.rdB (Reg.PWR_RAIL_STATUS_lost q) then .next s
  else
    let r := d.rail q
    let gain := d.rd (Reg.PWR_RAIL_GAIN_gain q)
    let now := d.duty q
    let mean := gained gain (staticMa + dynamicMa)
    let ramp := (r.means[9]?).map fun m => m + d.rampMa q
    let duty := nextDuty (d.rdB (Reg.PWR_RAIL_STATUS_trip q)) (d.limitMa q) ramp now (projected gain staticMa dynamicMa now)
    let d := d.setRail q { r with means := (mean :: r.means).take 10, estSum := r.estSum + mean, estCount := r.estCount + 1 }
    let d := if d.rd (Reg.PWR_RAIL_EST_peak q) < mean / 10 then d.wr (Reg.PWR_RAIL_EST_peak q) (min (mean / 10) 65535) else d
    nextD s ((d.setDuty q duty).noteGated q)

-- Ballast (14 R451 to R454).

/-- Every array of a list has an item in its lane that has not been released (14 R453). -/
def Device.awaited (d : Device) (arrays : List (Nat × Nat)) : Bool :=
  arrays.all fun c => d.seq.items.any fun r => r.phase == .waiting && r.item.core == c.1 && r.item.unit == c.2

/-- Least level up to a bound whose projected mean does not fall below a floor, or the bound (14 R452). -/
def leastLevel (real per floor bound : Nat) : Nat :=
  ((List.range (bound + 1)).find? fun b => decide (floor ≤ real + b * per)).getD bound

/-- Greatest level up to a bound whose projected mean stays at or below a top, or 0 (14 R454). -/
def greatestLevel (real per top bound : Nat) : Nat :=
  ((List.range (bound + 1)).reverse.find? fun b => decide (real + b * per ≤ top)).getD 0

/-- Ballast acts in a job and in a replay when enabled (14 R444, PWR_BALLAST). -/
def Device.ballastOn (d : Device) (md : Mode) : Bool := d.rdB Reg.PWR_BALLAST_enable && (md == .turning || md == .replay)

/-- Shift registers after ballast: those of the idle arrays are free. -/
def stirred (idle : List (Nat × Nat)) (c : Nat) (regs : List Word) : List Word :=
  ((List.range 128).zip regs).map fun p =>
    if idle.contains (p.1 / 4, p.1 % 4) then BitVec.ofNat 32 (Config.unstated 451 (c + p.1)) else p.2

/-- The shift registers of arrays in ballast have moved on: their contents are free (14 R451 names no polynomial). -/
def Device.stirBallast (d : Device) (idle : List (Nat × Nat)) : Device :=
  let c := d.freeCtr
  { d with
    freeCtr := c + 128
    pwr := { d.pwr with lfsr := stirred idle c d.pwr.lfsr } }

/-- BALLAST_WINDOW: the level at a 1 us window boundary, from the mean of the real activity and the current of one sixteenth of
ballast (14 R452 to R454). -/
def execBallastWindow (quadrant : Fin 4) (realMa perSixteenthMa : Nat) (s : State) : Host.Outcome State Fault Refusal :=
  let d := s.dev
  let q := quadrant.val
  let r := d.rail q
  let old := d.rd (Reg.PWR_RAIL_LIMITER_ballast q)
  if ¬ d.ballastOn s.mode ∨ d.rdB (Reg.PWR_RAIL_STATUS_lost q) then
    nextD s ((d.wr (Reg.PWR_RAIL_LIMITER_ballast q) 0).setRail q { r with ballastHeld := false, prevMean := realMa, idle := d.idleArrays q })
  else
    let idle := d.idleArrays q
    let share := idle.length / 2
    let top := greatestLevel realMa perSixteenthMa (min r.prevMean (d.limitMa q)) share
    let fresh := idle.filter fun c => !r.idle.contains c
    let goes := !fresh.isEmpty && d.rd Reg.PWR_BALLAST_hold_us != 0 && d.awaited fresh
    let held := (goes || (r.ballastHeld && d.awaited fresh)) && !idle.isEmpty
    let level :=
      if goes then min top (leastLevel realMa perSixteenthMa r.prevMean share)
      else if held then min top (min old share)
      else min top (leastLevel realMa perSixteenthMa (r.prevMean - d.rampMa q) share)
    let d := (d.wr (Reg.PWR_RAIL_LIMITER_ballast q) level).setRail q
      { r with ballastHeld := held, prevMean := realMa + level * perSixteenthMa, idle := idle }
    nextD s (if level = 0 then d else d.stirBallast idle)

/-- BALLAST_HOLD_EXPIRY: from the next window the level fades (14 R453). -/
def execBallastHoldExpiry (quadrant : Fin 4) (s : State) : Host.Outcome State Fault Refusal :=
  nextD s (s.dev.setRail quadrant.val { s.dev.rail quadrant.val with ballastHeld := false })

-- Temperatures (14 R458, R461).

/-- Signed temperature of a quadrant. -/
def Device.tempOf (d : Device) (q : Nat) : Int := sextOf (d.rd (Reg.PWR_RAIL_TEMP_temp_c q)) 8

/-- THERM_ALERT_N follows the trips (17 R564). -/
def Device.showTrip (d : Device) : Device :=
  { d with pins := { d.pins with thermAlert := (List.range 4).any fun q => d.rdB (Reg.PWR_RAIL_STATUS_trip q) } }

/-- THERMAL_SAMPLE: the eight sensors of a quadrant (14 R458, R461); none while the part is held in reset (17 R567). -/
def execThermalSample (quadrant : Fin 4) (temps : List Int) (s : State) : Host.Outcome State Fault Refusal :=
  let d := s.dev
  let q := quadrant.val
  let temps := (temps.take 8).map (clampInt (-128) 127)
  if s.mode = .off then .next s
  else
  match temps with
  | [] => .next s
  | t0 :: rest =>
    let top := rest.foldl max t0
    let first := !(d.rail q).peaked
    let d := d.setRail q { d.rail q with temps, peaked := true }
    let d := d.wr (Reg.PWR_RAIL_TEMP_temp_c q) (tcOf top 8)
    let d := if first ∨ sextOf (d.rd (Reg.PWR_RAIL_TEMP_peak_c q)) 8 < top then d.wr (Reg.PWR_RAIL_TEMP_peak_c q) (tcOf top 8) else d
    let tripped := d.rdB (Reg.PWR_RAIL_STATUS_trip q)
    match (List.range temps.length).find? fun k => decide (127 ≤ temps.getD k 0) with
    | some k =>
      let d := ((d.wr (Reg.PWR_RAIL_STATUS_trip q) 1).setDuty q 1).showTrip
      nextD s (if tripped then d else d.raise Ev.PWR_THERMAL_TRIP (q + k * 2 ^ 32))
    | none => nextD s (if top ≤ 120 then (d.wr (Reg.PWR_RAIL_STATUS_trip q) 0).showTrip else d)

-- Steady's loop: currents (14 R462 to R465; 17 R572).

/-- What is wrong with a rail's measurement, by the content of PWR_SENSE_FAULT; 0 when it is plausible (14 R464, R476). -/
def senseCode (m : RailReading) : Nat :=
  if ¬ m.response then 3 else if m.milliamp = 0 then 1 else if m.fullScale then 2 else 0

/-- The estimate of a rail over the tick: the mean of its window means (14 R462). -/
def Device.estimate (d : Device) (q : Nat) : Nat :=
  let r := d.rail q
  if r.estCount = 0 then d.rd (Reg.PWR_RAIL_EST_current q) * 10 else r.estSum / r.estCount

/-- One bit of a field set. -/
def setBit (w k : Nat) (b : Bool) : Nat := if b then w ||| 2 ^ k else if bitAt w k then w - 2 ^ k else w

/-- Measured and estimated current differ by more than 25% of the larger (14 R463). -/
def currentOff (m e : Nat) : Bool := decide (max m e < 4 * (max m e - min m e))

/-- The new gain: gain × m / e, limited to 0.5 to 2.0 and rounded down (14 R463; DESIGN CHOICE for the rounding, log entry 42). -/
def refit (gain m e : Nat) : Nat := if e = 0 then 0x2000 else min 0x2000 (max 0x0800 (gain * m / e))

/-- R463 for a rail whose measurement is plausible and not suspended. -/
def Device.checkCurrent (d : Device) (q m e : Nat) : Device :=
  let bad := currentOff m e
  let d := d.wr Reg.PWR_STATUS_mismatch (setBit (d.rd Reg.PWR_STATUS_mismatch) q bad)
  let r := d.rail q
  if ¬ bad then d.setRail q { r with mismatchRun := 0 }
  else if r.mismatchRun + 1 < 3 then d.setRail q { r with mismatchRun := r.mismatchRun + 1 }
  else
    let g := refit (d.rd (Reg.PWR_RAIL_GAIN_gain q)) m e
    ((d.setRail q { r with mismatchRun := 0 }).wr (Reg.PWR_RAIL_GAIN_gain q) g).raise Ev.PWR_MODEL_MISMATCH (q + g * 2 ^ 32)

/-- A rail at a tick: its voltage and the figure I_q (14 R462 to R464). Without a response the set point stands for the voltage
(DEDUCED, log entry 42). -/
def Device.readRail (d : Device) (q : Nat) (m : RailReading) : Nat × Nat × Device :=
  let e := d.estimate q
  let r := d.rail q
  let code := senseCode m
  let d := d.wr (Reg.PWR_RAIL_EST_current q) (min (e / 10) 65535)
  let d := if m.response then
      (d.wr (Reg.PWR_RAIL_MEAS_mv q) (min m.millivolt 65535)).wr (Reg.PWR_RAIL_MEAS_current q) (min (m.milliamp / 10) 65535)
    else d
  let mv := if m.response then m.millivolt else stepMv (d.stepOf q)
  if code ≠ 0 then
    let d := d.setRail q { r with senseFault := true, plausibleRun := 0, mismatchRun := 0, estSum := 0, estCount := 0 }
    let d := (d.wr Reg.PWR_STATUS_sense_fault (setBit (d.rd Reg.PWR_STATUS_sense_fault) q true)).wr Reg.PWR_STATUS_mismatch
      (setBit (d.rd Reg.PWR_STATUS_mismatch) q false)
    (mv, e * 12 / 10, if r.senseFault then d else d.raise Ev.PWR_SENSE_FAULT (q + code * 2 ^ 32))
  else
    let run := r.plausibleRun + 1
    let clear := decide (2 ≤ run)
    let d := d.setRail q { r with senseFault := r.senseFault && !clear, plausibleRun := min run 2, estSum := 0, estCount := 0 }
    let d := d.wr Reg.PWR_STATUS_sense_fault (setBit (d.rd Reg.PWR_STATUS_sense_fault) q (r.senseFault && !clear))
    (mv, max m.milliamp e, if r.senseFault && !clear then d else d.checkCurrent q m.milliamp e)

/-- Greatest power of the regulators of VDD_SOC, VDD_FX, VDDH_FX, VDD_MEMPHY and VDDQ_MEM, in mW (17 R570). -/
def otherMax : List Nat := [45000, 18000, 7200, 10800, 9000]

/-- Power of the other rails in mW, with 6 W for those without telemetry (17 R572). -/
def otherPower (other : List OtherReading) : Nat :=
  6000 + ((List.range 5).map fun k => match other.getD k none with | some mw => mw | none => otherMax.getD k 0).sum

/-- The four rails are read; answers (V, I) of each. -/
def Device.readRails (d : Device) (rails : List RailReading) : List (Nat × Nat) × Device :=
  forL (List.range 4) (fun q (acc, d) =>
    let (v, i, d) := d.readRail q (rails.getD q { response := false, milliamp := 0, millivolt := 0, fullScale := false })
    (acc ++ [(v, i)], d)) (([] : List (Nat × Nat)), d)

-- Steady's loop: throttling and ceilings (14 R459, R460, R466).

/-- The other quadrant of a neighbour pair (14 R455). -/
def neighbour (q : Nat) : Nat := if q % 2 = 0 then q + 1 else q - 1

/-- R459 and R460 at a tick: whether the throttle acts on q, with its bits, events and holds. -/
def Device.throttle (d : Device) (q : Nat) : Bool × Device :=
  let r := d.rail q
  let t := d.tempOf q
  let gap := t - d.tempOf (neighbour q)
  let limit : Int := d.rd Reg.PWR_THERM_CFG_throttle_c
  let g := decide (20 < gap)
  let h := decide (limit ≤ t)
  let gapWas := d.rdB (Reg.PWR_RAIL_STATUS_gap_throttle q)
  let hotWas := d.rdB (Reg.PWR_RAIL_STATUS_thermal_throttle q)
  let d := d.setRail q { r with
    gapHeld := g || (r.gapHeld && decide (15 < gap)), thermHeld := h || (r.thermHeld && decide (limit - 5 < t))
    recovering := r.recovering || g || h }
  let d := (d.wr (Reg.PWR_RAIL_STATUS_gap_throttle q) (b2n g)).wr (Reg.PWR_RAIL_STATUS_thermal_throttle q) (b2n h)
  let d := if g ∧ ¬ gapWas then d.raise Ev.PWR_GAP_THROTTLE (q + (gap.toNat % 256) * 2 ^ 32) else d
  let d := if h ∧ ¬ hotWas then d.raise Ev.PWR_THERMAL_THROTTLE (q + tcOf t 8 * 2 ^ 32) else d
  (g || h, d)

/-- A quadrant may not rise at this tick: a hold of R459 or R460 stands, or its 10 ms have not passed; nor may one that is held in
reset because its rail is lost (14 R475; DEDUCED, log entry 42). -/
def Device.waits (d : Device) (q : Nat) : Bool :=
  let r := d.rail q
  r.gapHeld || r.thermHeld || (r.recovering && decide (d.pwr.ticks < r.holdUntil)) || d.rdB (Reg.PWR_RAIL_STATUS_lost q)

/-- Activity slots that overlap the next 2 ms of spindle time, numbered on past 63 into the next turn: the slot in progress and
those that begin before the 2 ms end (06 R221, 14 R466). -/
def Device.profileSlots (d : Device) : List Nat :=
  let starts (k : Nat) : Nat := k / 64 * d.sp.period + d.sp.indexStart (64 * (k % 64))
  (List.range 128).filter fun k =>
    decide (d.index / 64 ≤ k) && (k == d.index / 64 || decide (starts k < d.sp.offsetAt d.sp.time + 2000000))

/-- Greatest peak of those slots of the active list, in units of 0.25 A (06 R221, 14 R466). -/
def Device.profilePeak (d : Device) (p : Plan) (q : Nat) : Nat :=
  let list := b2n d.seq.fallbackActive
  (d.profileSlots.map fun k => fieldOf p.profile (((list * 4 + q) * 64 + k % 64) * 4 + 2) 2).foldl max 0

/-- The ceiling of a quadrant (14 R466). -/
def Device.ceiling (d : Device) (q : Nat) : Nat :=
  let top := d.rd (Reg.PWR_RAIL_POINT_max_step q)
  match d.seq.plan with
  | none => top
  | some p =>
    let peak := d.profilePeak p q
    let gain := d.rd (Reg.PWR_RAIL_GAIN_gain q)
    let ok (s : Nat) : Bool :=
      decide (peak * 250 * stepMhz s * stepMv s * gain * 100 ≤ 95 * d.limitMa q * 2600 * 800 * 4096)
    ((List.range (top + 1)).reverse.find? ok).getD 0

-- Steady's loop: the new steps (14 R465, R467).

/-- Group budgeting is active (14 R468). -/
def Device.groupActive (d : Device) (md : Mode) : Bool :=
  md == .turning && d.rdB Reg.PWR_GROUP_enable && decide (1 < d.groupSize)

/-- The effective cap in W (14 R443). -/
def Device.effectiveCap (d : Device) (md : Mode) : Nat :=
  let cap := d.rd Reg.PWR_CAP_cap_w
  if d.groupActive md then min cap (d.rd Reg.PWR_GROUP_ALLOC_alloc_w) else cap

/-- Rises are granted in ascending order while the projected power stays within the cap: p is num / den in uW (14 R467). -/
def grantRises (steps : List Nat) (pq : List Nat) (cap : Nat) : List Nat → Nat → List Nat → Nat × Nat → List Nat
  | [], _, done, _ => done
  | t :: ts, q, done, (num, den) =>
    let s := steps.getD q 0
    if s < t then
      let new := stepMhz t * stepMv t ^ 2
      let old := stepMhz s * stepMv s ^ 2
      let num' := num * old + pq.getD q 0 * (new - old) * den
      let den' := den * old
      if num' ≤ cap * 1000000 * den' then grantRises steps pq cap ts (q + 1) (done ++ [t]) (num', den')
      else grantRises steps pq cap ts (q + 1) (done ++ [s]) (num, den)
    else grantRises steps pq cap ts (q + 1) (done ++ [t]) (num, den)

/-- The pair limit of 14 R456 on a pair's targets. -/
def pairLimit (a b : Nat) : Nat × Nat :=
  let a := if b + 6 < a then b + 6 else a
  (a, if a + 6 < b then a + 6 else b)

/-- New steps from the present ones (14 R467): throttled and waiting quadrants, ceilings, power in uW and the cap in W. -/
def newSteps (steps ceilings : List Nat) (acts waits : List Bool) (pq : List Nat) (p cap : Nat) : List Nat :=
  let t0 := (List.range 4).map fun q =>
    let s := steps.getD q 0
    let t := min (s + 1) (ceilings.getD q 0)
    if acts.getD q false then min t (s - 1) else if waits.getD q false then min t s else t
  let top := steps.foldl max 0
  let t1 := if cap * 1000000 < p then
      (List.range 4).map fun q => if steps.getD q 0 = top then min (t0.getD q 0) (steps.getD q 0 - 1) else t0.getD q 0
    else t0
  let t2 := grantRises steps pq cap t1 0 [] (p, 1)
  let (a, b) := pairLimit (t2.getD 0 0) (t2.getD 1 0)
  let (c, e) := pairLimit (t2.getD 2 0) (t2.getD 3 0)
  [a, b, c, e]


/-- One decrease of one step: of the quadrant at the highest set point among those that must fall (14 R457; 'highest' and 'lowest'
are by set point, ties to the higher number: DEDUCED, log entry 42). -/
def Device.lowerOne (d : Device) (t : List Nat) : Device :=
  match firstAt (fun q => d.setPoint q) ([3, 2, 1, 0].filter fun q => decide (t.getD q 0 < d.setPoint q)) with
  | some q => d.lowerTo q (d.setPoint q - 1)
  | none => d

/-- The quadrants that rise, each by its one step (14 R467). -/
def Device.risesTo (d : Device) (t : List Nat) : List (Nat × Nat) :=
  ((List.range 4).filter fun q => decide (d.setPoint q < t.getD q 0)).map fun q => (q, t.getD q 0)

/-- The new steps are applied one step at a time: the decreases at once, the increases one after another as their voltages are
reached (14 R457). The wait of a quadrant that recovers ends once it stands at its ceiling (14 R459, R460). -/
def Device.applySteps (d : Device) (t ceilings : List Nat) : Device :=
  let d := forN 64 (fun _ d => d.lowerOne t) d
  let d := forN 4 (fun q d =>
    let r := d.rail q
    d.setRail q { r with recovering := r.recovering && (decide (d.setPoint q < ceilings.getD q 0) || r.gapHeld || r.thermHeld) }) d
  { d with pwr := { d.pwr with rises := d.risesTo t } }.raiseNext

/-- Steady runs: its firmware is up, from C4 or W4 on, and it is not being restarted (13 R432; 16 R523; 17 R568, R582). -/
def Device.steadyRuns (d : Device) : Bool := d.boot.firmwareUp && !(d.proto.restarting.getD 1 false)

/-- PWR_SENSE_FAULT for each other regulator that begins not to respond (17 R572). -/
def Device.noteOther (d : Device) (other : List OtherReading) : Device :=
  let silent := (List.range 5).filter fun k => (other.getD k none).isNone
  let fresh := silent.filter fun k => !bitAt d.pwr.otherSilent k
  let d := forL fresh (fun _ d => d.raise Ev.PWR_SENSE_FAULT (0xF + 3 * 2 ^ 32)) d
  { d with pwr := { d.pwr with otherSilent := (silent.map fun k => 2 ^ k).sum } }

/-- The package power and its cap at a tick (14 R465). -/
def Device.noteCap (d : Device) (p cap : Nat) : Device :=
  let beyond := decide (cap * 1000000 < p)
  let d := (d.wr Reg.PWR_PKG_mw (min (p / 1000) (2 ^ 20 - 1))).wr Reg.PWR_STATUS_cap_limited (b2n beyond)
  let d := { d with pwr := { d.pwr with powerSum := d.pwr.powerSum + p / 1000, powerTicks := d.pwr.powerTicks + 1 } }
  if beyond ∧ ¬ d.pwr.capRaised then
    { d with pwr := { d.pwr with capRaised := true } }.raise Ev.PWR_CAP_LIMITED (0xF + (p / 1000 % 2 ^ 20) * 2 ^ 32)
  else d

/-- STEADY_TICK (14 R444, R459, R460, R462 to R467; 17 R572). -/
def execSteadyTick (rails : List RailReading) (other : List OtherReading) (s : State) : Host.Outcome State Fault Refusal :=
  let d := s.dev
  if ¬ d.steadyRuns then .next s
  else
    let d := { d with pwr := { d.pwr with ticks := d.pwr.ticks + 1 } }
    let d := match d.pwr.nextAlloc with
      | some a => { d with pwr := { d.pwr with nextAlloc := none } }.wr Reg.PWR_GROUP_ALLOC_alloc_w a
      | none => d
    let (vi, d) := d.readRails rails
    let d := (d.noteOther other).wr Reg.PWR_OTHER_mw (min (otherPower other) (2 ^ 20 - 1))
    let pq := vi.map fun x => x.1 * x.2
    let p := pq.sum + otherPower other * 1000
    let cap := d.effectiveCap s.mode
    let d := d.noteCap p cap
    let (acts, d) := forL (List.range 4) (fun q (acts, d) =>
      let (a, d) := d.throttle q
      (acts ++ [a], d)) (([] : List Bool), d)
    let steps := (List.range 4).map d.setPoint
    let busy := s.mode == .turning || s.mode == .replay
    let ceilings := (List.range 4).map fun q => if busy then d.ceiling q else 0
    nextD s (d.applySteps (newSteps steps ceilings acts ((List.range 4).map d.waits) pq p cap) ceilings)

-- The group budget (14 R468 to R472).


/-- GROUP_REPORT_WRITE: the report of the turn that has just ended, in every group and mode (14 R469). -/
def execGroupReportWrite (s : State) : Host.Outcome State Fault Refusal :=
  let d := s.dev
  match d.pwr.ended with
  | [turn, late, crit, last, power] =>
    if ¬ d.steadyRuns ∨ ¬ d.hasReportArea then .next s
    else
      let bytes := leBytes 1 1 ++ leBytes 1 late ++ leBytes 2 d.self ++ leBytes 4 turn ++ leBytes 2 crit ++ leBytes 2 last ++
        leBytes 2 (d.rd Reg.PWR_GROUP_ALLOC_alloc_w) ++ leBytes 2 power ++ leBytes 2 (d.rd Reg.PWR_GROUP_BASE_base_w) ++
        leBytes 2 (d.rd Reg.PWR_GROUP_BASE_floor_w) ++ leBytes 12 0
      settle s (d.writeChecked s.mode (.component 1) (d.reportAt d.self) bytes).2
  | _ => .next s

/-- What a report says that R471 reads. -/
structure BudgetReport where
  id : Nat
  turn : Nat
  crit : Nat
  last : Nat
  alloc : Nat
  base : Nat
  floor : Nat
  deriving DecidableEq, Repr

/-- The report of a device as it stands in the report area (14 R469). -/
def Device.budgetReport (d : Device) (md : Mode) (i : Nat) : BudgetReport × Device :=
  let (b, _, d) := d.readChecked md (.component 1) (d.reportAt i) 32
  ({ id := i, turn := fieldOf b 4 4, crit := fieldOf b 8 2, last := fieldOf b 10 2, alloc := fieldOf b 12 2, base := fieldOf b 16 2
     floor := fieldOf b 18 2 }, d)

/-- A device's allocation changed in a list of reports. -/
def moveWatts (rs : List BudgetReport) (id : Nat) (dw : Int) : List BudgetReport :=
  rs.map fun r => if r.id = id then { r with alloc := ((r.alloc : Int) + dw).toNat } else r

/-- The transfer of 14 R471 when every report is present. -/
def transferBudget (groupW : Nat) (rs : List BudgetReport) : List BudgetReport :=
  let above (r : BudgetReport) : Int := (r.alloc : Int) - r.base
  if groupW < (rs.map fun r => r.alloc).sum then
    match firstAt above rs with
    | some j => moveWatts rs j.id (-5)
    | none => rs
  else
    match firstAt (fun r => (r.crit : Int)) (rs.filter fun r => r.crit != 0xFFFF) with
    | some r =>
      match firstAt (fun x => -(x.last : Int)) (rs.filter fun x => x.id != r.id && decide (x.floor + 5 ≤ x.alloc)) with
      | some g => if g.last < r.crit ∧ r.alloc + 5 ≤ 450 then moveWatts (moveWatts rs r.id 5) g.id (-5) else rs
      | none => rs
    | none =>
      match firstAt above rs, firstAt (fun x => -above x) rs with
      | some g, some l => if 0 < above g ∧ above l < 0 then moveWatts (moveWatts rs g.id (-5)) l.id 5 else rs
      | _, _ => rs

/-- Members whose redirection bits are clear (14 R471). -/
def Device.participants (d : Device) : List Nat :=
  (List.range d.groupSize).filter fun i => !bitAt (d.rd (Reg.FX_REDIRECT_redirected (i / 32))) (i % 32)

/-- Steady computes its allocation at budget_index of turn n (14 R471). -/
def Device.computeBudget (d : Device) (md : Mode) : Device :=
  let (rs, d) := forL d.participants (fun i (rs, d) =>
    let (r, d) := d.budgetReport md i
    (rs ++ [r], d)) (([] : List BudgetReport), d)
  let want := turnDiff d.turn 1
  let set (d : Device) (a : Nat) : Device := { d with pwr := { d.pwr with nextAlloc := some a } }
  match rs.find? fun r => r.turn != want with
  | some r =>
    let d := set d (min (d.rd Reg.PWR_GROUP_ALLOC_alloc_w) (d.rd Reg.PWR_GROUP_BASE_base_w))
    (d.bump Reg.PWR_GROUP_ALLOC_reports_missing 1).raise Ev.PWR_REPORT_MISSING (0xF + (r.id % 512) * 2 ^ 32)
  | none =>
    match (transferBudget (d.rd Reg.PWR_GROUP_group_w) rs).find? fun r => r.id == d.self with
    | some r => set d r.alloc
    | none => d

-- Loss of a rail (14 R475; 13 R416).

/-- The rises that stay when a quadrant loses its rail: not its own, and not one that would leave its neighbour more than 6 steps above
it (14 R456, R475). -/
def Device.risesWithout (d : Device) (q : Nat) : List (Nat × Nat) :=
  d.pwr.rises.filter fun x => x.1 != q && !(x.1 == neighbour q && decide (d.setPoint q + 6 < x.2))

/-- RAIL_LOSS: the quadrant is held in reset; in TURNING the part retires with cause 4 (14 R475; 17 R576). -/
def execRailLoss (quadrant : Fin 4) (millivolt : Nat) (s : State) : Host.Outcome State Fault Refusal :=
  let d := s.dev
  let q := quadrant.val
  if s.mode = .off ∨ d.rdB (Reg.PWR_RAIL_STATUS_lost q) then .next s
  else
    let d := (d.wr (Reg.PWR_RAIL_STATUS_lost q) 1).wr (Reg.NE_STATUS_quad_in_reset) (setBit (d.rd Reg.NE_STATUS_quad_in_reset) q true)
    let d := d.wr Reg.NE_STATUS_quad_clock_on (setBit (d.rd Reg.NE_STATUS_quad_clock_on) q false)
    let d := d.setRail q { d.rail q with target := none }
    let d := { d with pwr := { d.pwr with startBlocked := true, rises := d.risesWithout q } }.raiseNext
    settle s ((d.raise Ev.PWR_RAIL_LOST (q + (millivolt % 65536) * 2 ^ 32)).meet 4)

end Sys2Proof.Machine
end

