-- ==== Sys2Proof/Machine/Pipe.lean ====
section
/-! DEFINITION. The arithmetic of the image pipe: unpacking of RAW lines (09 R300, R323), the context table (10 R329),
linearisation and merge (R332), demosaic (R333 to R335), colour and tone (R336 to R338), mesh positions and sampling (R345 to
R348, 05 R190). -/

namespace Sys2Proof.Machine

-- Unpacking (09 R291). The packing of each RAW type is that of MIPI CSI-2: PRESUMED, log entry 38.

/-- Pixels and bytes of one packing group. -/
def rawGroup (bits : Nat) : Nat × Nat :=
  match bits with
  | 10 => (4, 5)
  | 12 => (2, 3)
  | 14 => (4, 7)
  | 16 => (1, 2)
  | 20 => (2, 5)
  | 24 => (1, 3)
  | _ => (1, 1)

/-- RAW10: four high parts, then a byte of four low parts. -/
def raw10 (b : Nat → Nat) : List Nat :=
  (List.range 4).map fun i => b i * 4 + (b 4 / 4 ^ i) % 4

/-- The pixels of one packing group (log entry 38). -/
def unpackGroup (bits : Nat) (g : List Byte) : List Nat :=
  let b (i : Nat) : Nat := (g.getD i 0).toNat
  match bits with
  | 10 => raw10 b
  | 12 => [b 0 * 16 + b 2 % 16, b 1 * 16 + b 2 / 16]
  | 14 =>
    let low := b 4 + b 5 * 256 + b 6 * 65536
    (List.range 4).map fun i => b i * 64 + (low / 64 ^ i) % 64
  | 16 => [b 0 * 256 + b 1]
  | 20 =>
    let h := raw10 b
    [h.getD 0 0 * 1024 + h.getD 1 0, h.getD 2 0 * 1024 + h.getD 3 0]
  | 24 => [b 0 * 65536 + b 1 * 256 + b 2]
  | _ => [b 0]

/-- A line's pixel codes: a packet that is short leaves the missing pixels at the black level, and one that is long has its
excess discarded (09 R302). -/
def unpackLine (bits width black : Nat) (data : List Byte) : List Nat :=
  let (px, by_) := rawGroup bits
  let whole := (List.range (min (data.length / by_) (ceilDiv width px))).flatMap fun i =>
    unpackGroup bits ((data.drop (i * by_)).take by_)
  let got := whole.take width
  got ++ List.replicate (width - got.length) black

/-- A line as stored in bypass and by T0 (09 R300). -/
def packLine (bits : Nat) (codes : List Nat) : List Byte := codes.flatMap fun c => leBytes (pixelBytes bits) c

/-- Embedded bytes after unpacking: as sent, or the upper 8 bits of each RAW10 or RAW12 pixel (09 R322). -/
def unpackEmb (mode : Nat) (data : List Byte) : List Byte :=
  match mode with
  | 1 => ((List.range data.length).zip data).filterMap fun p => if p.1 % 5 = 4 then none else some p.2
  | 2 => ((List.range data.length).zip data).filterMap fun p => if p.1 % 3 = 2 then none else some p.2
  | _ => data

-- The context table (10 R329).

/-- Knees used for an exposure. -/
def tKnees (t : List Byte) (e : Nat) : Nat := fieldOf t (1 + e) 1

/-- Knee k of an exposure. -/
def tKnee (t : List Byte) (e k : Nat) : Nat × Nat :=
  (fieldOf t (64 + 128 * e + 8 * k) 4 % 2 ^ 24, fieldOf t (64 + 128 * e + 8 * k + 4) 4 % 2 ^ 24)

/-- Matrix coefficient m[c][k]. -/
def tMatrix (t : List Byte) (c k : Nat) : Int := sextOf (fieldOf t (448 + (4 * c + k) * 2) 2) 16

/-- Offset of an output channel. -/
def tOffset (t : List Byte) (c : Nat) : Int := sextOf (fieldOf t (480 + 4 * c) 4) 32

/-- A tone entry. -/
def tTone (t : List Byte) (u : Nat) : Nat := fieldOf t (512 + 2 * u) 2

/-- A table keeps 10 R329 for a context with n exposures. -/
def tableOk (t : List Byte) (n : Nat) : Bool :=
  fieldOf t 0 1 == 1 &&
  (List.range n).all (fun e =>
    decide (2 ≤ tKnees t e) && decide (tKnees t e ≤ 16) &&
    (List.range (tKnees t e - 1)).all fun k => decide ((tKnee t e k).1 < (tKnee t e (k + 1)).1)) &&
  (List.range 4).all (fun c => decide (-(2 ^ 24 : Int) ≤ tOffset t c) && decide (tOffset t c ≤ 2 ^ 24 - 1)) &&
  (List.range 641).all fun u => decide (tTone t u ≤ 4095)

-- Linearisation and merge (10 R332).

/-- Index of the last knee at or below a code, or none below the first. -/
def kneeAt (t : List Byte) (e x : Nat) : Option Nat :=
  (List.range (tKnees t e)).reverse.find? fun k => decide ((tKnee t e k).1 ≤ x)

/-- rne of the piecewise linear curve of an exposure at a code. -/
def pwl (t : List Byte) (e x : Nat) : Nat :=
  match kneeAt t e x with
  | none => (tKnee t e 0).2
  | some k =>
    let (x0, y0) := tKnee t e k
    if tKnees t e ≤ k + 1 then y0
    else
      let (x1, y1) := tKnee t e (k + 1)
      (rneDiv ((y0 : Int) * ((x1 : Int) - x0) + ((x : Int) - x0) * ((y1 : Int) - y0)) (x1 - x0)).toNat

/-- Constants of the merge: linear_black, and per exposure gain, threshold and ramp_shift. -/
structure MergeCfg where
  black : Nat
  gain : List Nat
  threshold : List Nat
  ramp : List Nat
  deriving DecidableEq, Repr

/-- One step of the merge from a higher exposure to exposure e: the value as numerator over 2^sh × 256, with its saturation. -/
def mergeStep (m : MergeCfg) (raw : List (Option Nat)) (acc : Nat × Nat × Bool) (e : Nat) : Nat × Nat × Bool :=
  match raw.getD e none with
  | none => acc
  | some v =>
    let (num, sh, sat) := acc
    let t := m.threshold.getD e 0
    let r := m.ramp.getD e 0
    let g := m.gain.getD e 256
    if v + 2 ^ r < t then (v * g, 0, false)
    else if v < t then ((t - v) * (v * g) * 2 ^ sh + (2 ^ r - (t - v)) * num, sh + r, false)
    else (num, sh, sat)

/-- T1 value of one sample from the codes of the exposures, none for a missing one: linear value and saturation. -/
def mergeSample (t : List Byte) (m : MergeCfg) (codes : List (Option Nat)) : Nat × Bool :=
  let raw := (List.range codes.length).map fun e => (codes.getD e none).map fun x => pwl t e x - m.black
  match (List.range codes.length).reverse.filter fun e => (raw.getD e none).isSome with
  | [] => (0, false)
  | last :: rest =>
    let r := (raw.getD last none).getD 0
    let start : Nat × Nat × Bool := (r * m.gain.getD last 256, 0, decide (m.threshold.getD last 0 ≤ r))
    let (num, sh, sat) := rest.foldl (mergeStep m raw) start
    let linear := rneNat num (256 * 2 ^ sh)
    if 2 ^ 24 - 1 < linear then (2 ^ 24 - 1, true) else (linear, sat)

/-- T1 sample as stored (10 R326). -/
def t1Bytes (v : Nat × Bool) : List Byte := leBytes 4 (v.1 + b2n v.2 * 2 ^ 24)

-- Demosaic (10 R333 to R335).

/-- Channel of the mosaic colour at a pattern position. -/
def mosaicColour (mosaic x y : Nat) : Nat :=
  match mosaic with
  | 0 | 1 => ([0, 1, 1, 2] : List Nat).getD (y % 2 * 2 + x % 2) 0
  | 2 => ([2, 1, 0, 1, 1, 3, 1, 3, 0, 1, 2, 1, 1, 3, 1, 3] : List Nat).getD (y % 4 * 4 + x % 4) 0
  | _ => 0

/-- Radius ρ of a mosaic (10 R333). -/
def mosaicRadius (mosaic : Nat) : Nat := match mosaic with | 0 | 1 => 1 | 2 => 2 | _ => 0

/-- Channels that a mosaic has. -/
def mosaicChannels (mosaic : Nat) : List Nat := match mosaic with | 0 | 1 => [0, 1, 2] | 2 => [0, 1, 2, 3] | _ => [0]

/-- A position reflected about the edges of 0 to w − 1 (10 R334). -/
def reflectAt (w : Nat) (x : Int) : Nat :=
  if x < 0 then (-x).toNat else if (w : Int) ≤ x then (2 * ((w : Int) - 1) - x).toNat else x.toNat

/-- Geometry of a demosaic. -/
structure MosaicCfg where
  mosaic : Nat
  phaseX : Nat
  phaseY : Nat
  width : Nat
  height : Nat
  deriving DecidableEq, Repr

/-- Colour of the pixel at (x, y). -/
def MosaicCfg.colour (m : MosaicCfg) (x y : Nat) : Nat := mosaicColour m.mosaic (x + m.phaseX) (y + m.phaseY)

/-- Offsets within Chebyshev distance ρ. -/
def chebOffsets (r : Nat) : List (Int × Int) :=
  (List.range (2 * r + 1)).flatMap fun (j : Nat) => (List.range (2 * r + 1)).map fun (i : Nat) => ((i : Int) - r, (j : Int) - r)

/-- Mean, rounded by R113, of the nearest samples of colour c around (x, y); the samples come from a lookup by (x, y). -/
def MosaicCfg.interpolate (m : MosaicCfg) (at_ : Nat → Nat → Nat) (c x y : Nat) : Nat :=
  let near := (chebOffsets (mosaicRadius m.mosaic)).filterMap fun o =>
    let px := reflectAt m.width ((x : Int) + o.1)
    let py := reflectAt m.height ((y : Int) + o.2)
    if m.colour px py = c then some ((o.1 * o.1 + o.2 * o.2).toNat, at_ px py) else none
  let least := near.foldl (fun k p => min k p.1) 99
  let chosen := near.filter fun p => p.1 == least
  if chosen.isEmpty then 0 else rneNat (chosen.map Prod.snd).sum chosen.length

/-- The four T2 values of a pixel before infrared subtraction; absent channels 0. -/
def MosaicCfg.channels (m : MosaicCfg) (at_ : Nat → Nat → Nat) (x y : Nat) : List Nat :=
  (List.range 4).map fun c =>
    if ¬ (mosaicChannels m.mosaic).contains c then 0
    else if m.colour x y = c then at_ x y
    else m.interpolate at_ c x y

/-- Infrared subtraction with coefficients k_r, k_g, k_b (10 R335). -/
def irSubtract (mosaic : Nat) (k : List Nat) (ch : List Nat) : List Nat :=
  if mosaic = 2 then
    let ir := ch.getD 3 0
    (List.range 4).map fun c => if c < 3 then ch.getD c 0 - rneNat (k.getD c 0 * ir) 256 else ir
  else ch

/-- A T2 channel as stored (10 R326). -/
def t2Half (v : Nat) : Nat := fp16.encode (.fin false v (-10))

-- Colour and tone (10 R336 to R338).

/-- Tone index u and fraction f as numerator and denominator (10 R336). -/
def toneIndex (v : Nat) : Nat × Nat × Nat :=
  if v < 64 then (v, 0, 1)
  else
    let e := lg2 v
    (64 + 32 * (e - 6) + v / 2 ^ (e - 5) - 32, v % 2 ^ (e - 5), 2 ^ (e - 5))

/-- Value of an output channel from the four T2 linear values (10 R337). -/
def toneChannel (t : List Byte) (ch : List Nat) (c : Nat) : Nat :=
  let sum : Int := ((List.range 4).map fun k => tMatrix t c k * (ch.getD k 0 : Int)).sum
  let w := (clampInt 0 (2 ^ 24 - 1) (rneDiv (sum + tOffset t c * 4096) 4096)).toNat
  let (u, fn, fd) := toneIndex w
  let a := tTone t u
  let b := tTone t (u + 1)
  min 255 (rneDiv ((a : Int) * fd + (fn : Int) * ((b : Int) - a)) (16 * fd)).toNat

/-- T3 bytes of a pixel (10 R338). -/
def t3Bytes (t : List Byte) (signed wide : Bool) (ch : List Nat) : List Byte :=
  (List.range (if wide then 4 else 1)).map fun c =>
    let q := BitVec.ofNat 8 (toneChannel t ch c)
    if signed then q ^^^ 0x80 else q

-- Warp (10 R345 to R348).

/-- Bytes of one mesh row (10 R345). -/
def meshPitch (outW : Nat) : Nat := ceilDiv ((ceilDiv outW 16 + 1) * 8) 64 * 64

/-- Source position of output pixel (x, y) in sixteenths of a pixel, from its cell's corner coordinate values in 1/256 pixel
(10 R346). -/
def meshPosition (c00 c10 c01 c11 : Int) (gx gy : Nat) : Int :=
  rneDiv (c00 * ((16 - gx) * (16 - gy) : Nat) + c10 * (gx * (16 - gy) : Nat) + c01 * ((16 - gx) * gy : Nat) + c11 * (gx * gy : Nat)) 4096

/-- One channel sampled at a position in sixteenths (05 R190); taps are looked up by source position. -/
def bilinear8 (tap : Int → Int → Nat) (px py : Int) : Nat :=
  let x0 := px / 16
  let y0 := py / 16
  let fx := (px % 16).toNat
  let fy := (py % 16).toNat
  rneNat (tap x0 y0 * ((16 - fx) * (16 - fy)) + tap (x0 + 1) y0 * (fx * (16 - fy)) + tap x0 (y0 + 1) * ((16 - fx) * fy) +
    tap (x0 + 1) (y0 + 1) * (fx * fy)) 256

end Sys2Proof.Machine
end

