-- ==== Sys2Proof/Machine/Isp.lean ====
section
/-! DEFINITION. The image pipe's contexts: lines through the stages and taps, statistics, the mesh warp, and the black values
(10 R325 to R350). -/

namespace Sys2Proof.Machine

/-- Exposures of a context (10 ISP_PpCx_CFG). -/
def Device.exposures (d : Device) (p x : Nat) : Nat := (d.ctxStreams p x).length

/-- Payload of an ISP event (10 R352). -/
def Device.ispPayload (d : Device) (p x content : Nat) : Nat := d.leadOf p x + p * 2 ^ 8 + x * 2 ^ 12 + content * 2 ^ 32

/-- An ISP event of a context. -/
def Device.raiseIsp (d : Device) (code p x content : Nat) : Device := d.raise code (d.ispPayload p x content)

-- The lead frames in a pipe (10 R326, R328).

/-- The run of a lead frame in a context. -/
def CtxSt.run (c : CtxSt) (s id : Nat) : Option PipeRun := c.runs.find? fun r => r.stream == s && r.frame == id

/-- A run replaced by its newer state. -/
def CtxSt.setRun (c : CtxSt) (r : PipeRun) : CtxSt :=
  { c with runs := c.runs.map fun q => if q.stream = r.stream ∧ q.frame = r.frame then r else q }

/-- A run of a context replaced. -/
def Device.setRun (d : Device) (p x : Nat) (r : PipeRun) : Device := d.setCtx p x ((d.ctx p x).setRun r)

/-- The contexts that a frame is in as their lead frame: pipe, context. -/
def Device.runsOf (d : Device) (s id : Nat) : List (Nat × Nat) :=
  ((List.range 32).map fun k => (k / 8, k % 8)).filter fun k => ((d.ctx k.1 k.2).run s id).isSome

/-- Something done with the run of a lead frame in a context; nothing where there is none. -/
def Device.withRun (d : Device) (p x s id : Nat) (g : PipeRun → Device) : Device :=
  match (d.ctx p x).run s id with
  | some r => g r
  | none => d

/-- The run changed, as it stands. -/
def Device.updRun (d : Device) (p x s id : Nat) (g : PipeRun → PipeRun) : Device := d.withRun p x s id fun r => d.setRun p x (g r)

/-- Bytes per pixel after tap t (10 R326); bits of the raw samples matter to T0. -/
def Device.tapBytes (d : Device) (p x t bits : Nat) : Nat :=
  match t with
  | 0 => pixelBytes bits
  | 1 => 4
  | 2 => if d.rd (Reg.ISP_C_CFG_mosaic p x) = 3 then 2 else 8
  | _ => if d.rdB (Reg.ISP_C_TAPS_t3_wide p x) then 4 else 1

/-- Constants of the merge of a context (10 R332). -/
def Device.mergeCfg (d : Device) (p x : Nat) : MergeCfg :=
  { black := d.rd (Reg.ISP_C_LIN_linear_black p x)
    gain := [256, d.rd (Reg.ISP_C_GAIN1_gain p x), d.rd (Reg.ISP_C_GAIN2_gain p x)]
    threshold := [d.rd (Reg.ISP_C_SAT0_threshold p x), d.rd (Reg.ISP_C_SAT1_threshold p x), d.rd (Reg.ISP_C_SAT2_threshold p x)]
    ramp := [d.rd (Reg.ISP_C_SAT0_ramp_shift p x), d.rd (Reg.ISP_C_SAT1_ramp_shift p x), d.rd (Reg.ISP_C_SAT2_ramp_shift p x)] }

/-- Geometry of a context's demosaic. -/
def Device.mosaicCfg (d : Device) (p x width height : Nat) : MosaicCfg :=
  { mosaic := d.rd (Reg.ISP_C_CFG_mosaic p x), phaseX := d.rd (Reg.ISP_C_CFG_phase_x p x)
    phaseY := d.rd (Reg.ISP_C_CFG_phase_y p x), width := width, height := height }

/-- Infrared coefficients of a context, R, G, B (10 R335). -/
def Device.irCoeffs (d : Device) (p x : Nat) : List Nat :=
  [d.rd (Reg.ISP_C_IRSUB_k_r p x), d.rd (Reg.ISP_C_IRSUB_k_g p x), d.rd (Reg.ISP_C_IRSUB_k_b p x)]

/-- Rows of a slot and its pitch. -/
def Device.tapPitch (d : Device) (p x t : Nat) : Nat := d.rd (Reg.ISP_T_BUF_CFG_pitch p x t) * 64

/-- Address of row y of tap t for a frame's ordinal (09 R299, 10 R326). -/
def Device.tapRow (d : Device) (p x t ordinal height y : Nat) : Nat :=
  let b := d.tapBuf p x t height
  let rows := bufRows (d.rd (Reg.ISP_T_BUF_CFG_ring_lines p x t)) height
  b.base + ordinal % b.slots * b.slotBytes + y % rows * d.tapPitch p x t

/-- A row of a tap is written when the tap is enabled; with its first row the frame takes its slot (11 R356). The fields are those
of v. -/
def Device.writeTap (d v : Device) (md : Mode) (p x t : Nat) (f : Frame) (height y : Nat) (bs : List Byte) : Device :=
  if bitAt (v.rd (Reg.ISP_C_TAPS_tap_en p x)) t then
    let d := if y = 0 then d.overwriteSlot (.tap p x t) (f.ordinal % (v.tapBuf p x t height).slots) f.id else d
    d.engineWrite md (v.tapRow p x t f.ordinal height y) bs
  else d

-- Statistics (10 R342 to R344).

/-- Address of the statistics record of an ordinal. -/
def Device.statsRecord (d : Device) (p x ordinal : Nat) : Nat :=
  d.rdPair (Reg.ISP_C_STATS_LO_stats_lo p x) (Reg.ISP_C_STATS_HI_stats_hi p x) + ordinal * 8192

/-- Histogram bin of a T1 sample (10 R343). -/
def histBin (v : Nat × Bool) : Nat := if v.2 then 255 else (toneIndex v.1).1 / 4

/-- T1 line L enters the statistics. -/
def PipeRun.countLine (c : PipeRun) (m : MosaicCfg) (mask L : Nat) (line : List (Nat × Bool)) : PipeRun :=
  let c := { c with saturated := c.saturated + (line.filter Prod.snd).length }
  forL ((List.range line.length).zip line) (fun (i, v) c =>
    if bitAt mask (m.colour i L) then
      let b := histBin v
      { c with counted := c.counted + 1, hist := mset 0 c.hist b (mget 0 c.hist b + 1) }
    else c) c

/-- Zone of a position along a dimension of n (10 R343). -/
def zoneOf (n k : Nat) : Nat :=
  ((List.range 16).find? fun i => decide (i * n / 16 ≤ k) && decide (k < (i + 1) * n / 16)).getD 15

/-- T2 row y enters the zone sums. -/
def PipeRun.sumRow (c : PipeRun) (m : MosaicCfg) (y : Nat) (row : List (List Nat)) : PipeRun :=
  let i := zoneOf m.height y
  forL ((List.range row.length).zip row) (fun (x, ch) c =>
    forN 4 (fun k c =>
      let key := (16 * i + zoneOf m.width x) * 4 + k
      { c with grid := mset 0 c.grid key (satAdd 32 (mget 0 c.grid key) (ch.getD k 0 / 256)) }) c) c

/-- Bytes 0 to 15 of a record, with a state (10 R342). -/
def statsHead (f : Frame) (state marks : Nat) : List Byte :=
  leBytes 4 f.turn ++ leBytes 1 f.ordinal ++ leBytes 1 state ++ leBytes 2 marks ++ leBytes 8 f.capture

/-- Bytes 16 to 8191 of a record (10 R342). -/
def PipeRun.statsBody (c : PipeRun) (epoch : Nat) : List Byte :=
  leBytes 2 epoch ++ leBytes 2 c.ispMarks ++ leBytes 4 c.saturated ++ leBytes 4 c.counted ++ leBytes 36 0 ++
    ((List.range 256).flatMap fun k => leBytes 4 (mget 0 c.hist k)) ++
    ((List.range 1024).flatMap fun k => leBytes 4 (mget 0 c.grid k)) ++ leBytes 3008 0

/-- The record of a frame is completed: bytes 16 to 8191, then bytes 4 to 7 (10 R344). -/
def Device.completeStats (d : Device) (md : Mode) (p x : Nat) (r : PipeRun) (f : Frame) : Device :=
  let v := d.view p x r
  if v.rdB (Reg.ISP_C_STATS_CFG_enable p x) then
    let a := v.statsRecord p x f.ordinal
    (d.engineWrite md (a + 16) (r.statsBody (f.epoch.getD 0))).engineWrite md (a + 4)
      (leBytes 1 f.ordinal ++ leBytes 1 2 ++ leBytes 2 f.marks)
  else d

-- Mesh (10 R345 to R349).

/-- Output size. -/
def Device.outW (d : Device) (p x w : Nat) : Nat := d.rd (Reg.ISP_W_SIZE_out_w p x w)
def Device.outH (d : Device) (p x w : Nat) : Nat := d.rd (Reg.ISP_W_SIZE_out_h p x w)

/-- Bands of an output (10 R348). -/
def Device.bands (d : Device) (p x w : Nat) : Nat := ceilDiv (d.outH p x w) 16

/-- Base of a mesh. -/
def Device.meshBase (d : Device) (p x w : Nat) : Nat :=
  d.rd (Reg.ISP_W_MESH_LO_mesh_lo p x w) + d.rd (Reg.ISP_W_MESH_HI_mesh_hi p x w) * 2 ^ 32

/-- A row of control points, x and y in 1/256 pixel, read by the engine (10 R330, R345). The fields are those of v. -/
def Device.meshRow (d v : Device) (md : Mode) (p x w j : Nat) : List (Int × Int) × Device :=
  let n := ceilDiv (v.outW p x w) 16 + 1
  let (bs, _, d) := d.guardedRead md .engine (v.meshBase p x w + j * meshPitch (v.outW p x w)) (8 * n)
  ((List.range n).map fun i => (sextOf (fieldOf bs (8 * i) 4) 32, sextOf (fieldOf bs (8 * i + 4) 4) 32), d)

/-- ymin and ymax of a band from its two mesh rows (10 R348); ymax lies below zero for a band that lies above the image. -/
def bandRange (height : Nat) (a b : List (Int × Int)) : Nat × Int :=
  let ys := (a ++ b).map Prod.snd
  let lo := ys.foldl min (ys.headD 0)
  let hi := ys.foldl max (ys.headD 0)
  ((max 0 (lo / 256)).toNat, min ((height : Int) - 1) (hi / 256 + 1))

/-- Control points of a row lie in the range of 10 R349. -/
def meshRowOk (width height : Nat) (row : List (Int × Int)) : Bool :=
  row.all fun q =>
    decide (-(4096 * 256 : Int) ≤ q.1) && decide (q.1 ≤ ((width : Int) + 4096) * 256) &&
    decide (-(4096 * 256 : Int) ≤ q.2) && decide (q.2 ≤ ((height : Int) + 4096) * 256)

/-- The check of 10 R349: none when it passes, else the band and whether the ring was the cause; range comes first. -/
def Device.meshCheck (d : Device) (md : Mode) (p x w width height : Nat) : Option (Nat × Bool) × Device :=
  let ring := d.rd (Reg.ISP_T_BUF_CFG_ring_lines p x 3)
  let rho := mosaicRadius (d.rd (Reg.ISP_C_CFG_mosaic p x))
  let bands := d.bands p x w
  let (rows, d) := forL (List.range (bands + 1)) (fun j (rows, d) =>
    let (row, d) := d.meshRow d md p x w j
    (rows ++ [row], d)) (([] : List (List (Int × Int))), d)
  let badRange := (List.range bands).find? fun b =>
    !(meshRowOk width height (rows.getD b []) && meshRowOk width height (rows.getD (b + 1) []))
  let badRing := (List.range bands).find? fun b =>
    let (lo, hi) := bandRange height (rows.getD b []) (rows.getD (b + 1) [])
    ring != 0 && decide ((ring : Int) < hi - lo + rho + 12)
  (match badRange, badRing with
  | some b, _ => some (b, false)
  | none, some b => some (b, true)
  | none, none => none, d)

/-- Warp output w of a run. -/
def PipeRun.warp (c : PipeRun) (w : Nat) : WarpSt := mget {} c.warps w
/-- Warp output replaced. -/
def PipeRun.setWarp (c : PipeRun) (w : Nat) (v : WarpSt) : PipeRun := { c with warps := mset {} c.warps w v }

/-- An output writes: enabled on an active context with a valid mesh (10 R349). -/
def Device.warpOn (d : Device) (p x w : Nat) : Bool :=
  d.ctxActive p x && d.rdB (Reg.ISP_W_MESH_HI_enable p x w) && d.rdB (Reg.ISP_W_STATUS_mesh_valid p x w)

/-- The next band of an output of a lead frame joins the engine's queue when its T3 lines are in memory (10 R348). -/
def Device.noteBand (d : Device) (md : Mode) (p x height w : Nat) (r : PipeRun) : Device :=
  let v := d.view p x r
  let o := r.warp w
  let job : WarpJob := { pipe := p, context := x, output := w, stream := r.stream, frame := r.frame }
  if ¬ v.warpOn p x w ∨ o.running ∨ v.bands p x w ≤ o.band ∨ d.cam.warpq.contains job then d
  else
    let (a, d) := d.meshRow v md p x w o.band
    let (b, d) := d.meshRow v md p x w (o.band + 1)
    if (bandRange height a b).2 < r.produced then { d with cam := { d.cam with warpq := d.cam.warpq ++ [job] } } else d

/-- The same for every output of a lead frame, lower outputs first. -/
def Device.noteBands (d : Device) (md : Mode) (p x s : Nat) (f : Frame) (height : Nat) : Device :=
  forL (List.range 4) (fun w d => d.withRun p x s f.id (d.noteBand md p x height w)) d

-- Black values (10 R339).

/-- The pixel that every tap makes of black input through a context table, T0 to T3, for the exposures' black levels and the raw
samples' bits. -/
def Device.blackPixels (d : Device) (t : List Byte) (codes : List Nat) (bits p x : Nat) : List (List Byte) :=
  let v := mergeSample t (d.mergeCfg p x) (codes.map some)
  let mosaic := d.rd (Reg.ISP_C_CFG_mosaic p x)
  let ch := irSubtract mosaic (d.irCoeffs p x)
    ((List.range 4).map fun c => if (mosaicChannels mosaic).contains c then v.1 else 0)
  [ leBytes (pixelBytes bits) (codes.getD (d.rd (Reg.ISP_C_CFG_t0_exposure p x)) 0),
    t1Bytes v,
    (ch.take (if mosaic = 3 then 1 else 4)).flatMap fun c => leBytes 2 (t2Half c),
    t3Bytes t (d.rdB (Reg.ISP_C_TAPS_t3_signed p x)) (d.rdB (Reg.ISP_C_TAPS_t3_wide p x)) ch ]

/-- The black slot of a buffer: rows of one pixel repeated (09 R299, R301). -/
def Device.writeBlackSlot (d : Device) (md : Mode) (b : Buf) (pitch width : Nat) (pixel : List Byte) : Device :=
  let row := (List.replicate width pixel).flatten
  forN (b.slotBytes / max pitch 1) (fun y d => d.engineWrite md (b.base + b.slots * b.slotBytes + y * pitch) row) d

/-- Black slots of a context's tap and warp buffers (09 R301). Taps after T0 need a context table: without one they have no black
value, and their slots are written with the first table that is held (DESIGN CHOICE, log entry 45). -/
def Device.writeCtxBlack (d : Device) (md : Mode) (p x width height : Nat) : Device :=
  let px := d.blackPixels (d.ctx p x).table ((d.ctxStreams p x).map fun s => (d.committed s).black) (d.committed (d.leadOf p x)).bits p x
  let held := decide ((d.ctx p x).table ≠ [])
  let d := forL (List.range 4) (fun t d =>
    if bitAt (d.rd (Reg.ISP_C_TAPS_tap_en p x)) t && (t == 0 || held) then
      d.writeBlackSlot md (d.tapBuf p x t height) (d.tapPitch p x t) width (px.getD t [])
    else d) d
  forL (List.range 4) (fun w d =>
    if d.rdB (Reg.ISP_W_MESH_HI_enable p x w) && held then
      d.writeBlackSlot md (d.warpBuf p x w) (d.rd (Reg.ISP_W_BUF_CFG_pitch p x w) * 64) (d.outW p x w) (px.getD 3 [])
    else d) d

-- Lines through the pipe (10 R326, R331 to R341).

/-- Codes of line L of the most recently started frame of an exposure's stream, when it is present (10 R331). -/
def Device.mergeLine (d : Device) (p x s L : Nat) : Option (List Nat) :=
  let newest := (d.stream s).frames.head?.map Frame.id
  ((d.ctx p x).store.find? fun k => k.stream == s && some k.frame == newest && k.line == L).map MergeLine.codes

/-- A line of a non-lead exposure enters the merge store; at a full store the oldest line of that exposure is dropped. Lines of an
earlier frame merge with nothing, and leave it. -/
def CtxSt.keepLine (c : CtxSt) (room : Nat) (k : MergeLine) : CtxSt :=
  let mine := c.store.filter fun q => q.stream == k.stream && q.frame == k.frame
  { c with store := k :: mine.take (room - 1) ++ c.store.filter fun q => q.stream != k.stream }

/-- T2 and T3 row y of a lead frame are formed and written (10 R333 to R338). -/
def Device.produceRow (d : Device) (md : Mode) (p x : Nat) (f : Frame) (m : MosaicCfg) (y : Nat) (r : PipeRun) : Device :=
  let v := d.view p x r
  let at_ (px py : Nat) : Nat := (((afind r.t1 py).getD []).getD px (0, false)).1
  let row := (List.range m.width).map fun i => irSubtract m.mosaic (v.irCoeffs p x) (m.channels at_ i y)
  let d := d.writeTap v md p x 2 f m.height y
    (row.flatMap fun ch => (ch.take (if m.mosaic = 3 then 1 else 4)).flatMap fun v => leBytes 2 (t2Half v))
  let signed := v.rdB (Reg.ISP_C_TAPS_t3_signed p x)
  let wide := v.rdB (Reg.ISP_C_TAPS_t3_wide p x)
  let d := d.writeTap v md p x 3 f m.height y (row.flatMap fun ch => t3Bytes r.table signed wide ch)
  d.setRun p x { r.sumRow m y row with produced := y + 1 }

/-- Rows that T1 line L makes ready: all that remain at the frame's last line (10 R340, R341). -/
def readyRows (rho height produced L : Nat) : List Nat :=
  let stop := if height ≤ L + 1 then height else L + 1 - rho
  (List.range stop).filter fun y => decide (produced ≤ y)

/-- A mark of a lead frame is set, with its event once per frame. -/
def Device.markIsp (d : Device) (p x s id bit code content : Nat) : Device :=
  d.withRun p x s id fun r =>
    if bitAt r.ispMarks bit then d
    else (d.setRun p x { r with ispMarks := r.ispMarks ||| 2 ^ bit }).raise code
      (s + p * 2 ^ 8 + x * 2 ^ 12 + content * 2 ^ 32)

/-- Lead line L of a frame enters the pipe with the codes of the exposures (10 R326, R331, R332, R340). -/
def Device.pipeLine (d : Device) (md : Mode) (p x s : Nat) (m : MosaicCfg) (bits : Nat) (f : Frame) (L : Nat)
    (codes : List (Option (List Nat))) (r : PipeRun) : Device :=
  let v := d.view p x r
  let d := match codes.getD (v.rd (Reg.ISP_C_CFG_t0_exposure p x)) none with
    | some q => d.writeTap v md p x 0 f m.height L (packLine bits q)
    | none => d
  if r.table = [] then d
  else
    let mc := v.mergeCfg p x
    let line := (List.range m.width).map fun i => mergeSample r.table mc (codes.map fun q => q.map fun l => l.getD i 0)
    let d := d.writeTap v md p x 1 f m.height L (line.flatMap t1Bytes)
    let rho := mosaicRadius m.mosaic
    let r := r.countLine m (v.rd (Reg.ISP_C_STATS_CFG_hist_mask p x)) L line
    let d := d.setRun p x { r with t1 := (L, line) :: r.t1.take (2 * rho) }
    forL (readyRows rho m.height r.produced L) (fun y d => d.withRun p x s f.id (d.produceRow md p x f m y)) d

/-- A lead line meets the stored lines of the other exposures, and the lines that it meets leave the store (10 R331). -/
def Device.leadLine (d : Device) (md : Mode) (p x s : Nat) (st : StreamSt) (f : Frame) (L : Nat) (codes : List Nat) (r : PipeRun) :
    Device :=
  let v := d.view p x r
  let c := d.ctx p x
  let n := v.exposures p x
  let lead := v.rd (Reg.ISP_C_CFG_lead p x)
  let ss := v.ctxStreams p x
  let all := (List.range n).map fun e => if e = lead then some codes else d.mergeLine p x (ss.getD e 0) L
  let d := d.setCtx p x { c with store := c.store.filter fun k => k.line != L }
  let d := match (List.range n).filter fun e => (all.getD e none).isNone with
    | [] => d
    | e :: es => (d.bump (Reg.ISP_C_ERR_merge_missing p x) (es.length + 1)).markIsp p x s f.id 0 Ev.ISP_MERGE_INCOMPLETE e
  let m := v.mosaicCfg p x st.width st.height
  (d.withRun p x s f.id (d.pipeLine md p x s m st.bits f L all)).noteBands md p x s f st.height

/-- Line L of a frame of stream s enters the pipe that the stream is routed to: as a lead line where the frame leads, else into
the merge store of the context that names the stream (10 R325, R331). -/
def Device.feedPipe (d : Device) (md : Mode) (s : Nat) (f : Frame) (L : Nat) (codes : List Nat) (late : Bool) : Device :=
  let st := (d.stream s).during f
  let p := st.route - 1
  let busy (d : Device) : Device := d.bump (Reg.ISP_P_LOAD_busy_cycles p) (ceilDiv st.width 2)
  match (d.runsOf s f.id).find? fun k => k.1 == p with
  | some (_, x) =>
    let d := busy d
    let d := d.withRun p x s f.id (d.leadLine md p x s st f L codes)
    if late then (d.bump (Reg.ISP_C_ERR_late_lines p x) 1).markIsp p x s f.id 1 Ev.ISP_LINE_LATE (L % 65536) else d
  | none =>
    match (List.range 8).find? fun x => d.ctxActive p x && (d.ctxStreams p x).contains s && d.leadOf p x != s with
    | none => d
    | some x =>
      let d := busy d
      let newest : Bool := match (d.stream s).frames.head? with | some g => g.id == f.id | none => false
      if newest then
        d.setCtx p x ((d.ctx p x).keepLine (d.rd (Reg.ISP_C_TAPS_merge_lines p x)) { stream := s, frame := f.id, line := L, codes })
      else d

/-- A lead stream's frame starts in the pipe with the fields and the table in force, and its statistics record opens (10 R328,
R344). -/
def Device.pipeFrame (d : Device) (md : Mode) (p x s : Nat) (f : Frame) : Device :=
  let c := d.ctx p x
  let run : PipeRun :=
    { stream := s, frame := f.id, cfg := d.ctxFields p x, table := c.table
      black := (d.ctxStreams p x).map fun s => (d.inUse s).black, bits := (d.inUse s).bits }
  let d := d.setCtx p x { c with runs := c.runs ++ [run] }
  let d := d.wr (Reg.ISP_C_STATUS_slot p x) (f.ordinal % (d.rd (Reg.ISP_T_BUF_CFG_slots p x 3) + 1))
  if d.rdB (Reg.ISP_C_STATS_CFG_enable p x) then d.engineWrite md (d.statsRecord p x f.ordinal) (statsHead f 1 0) else d

/-- Every band of every output that writes is complete; a pipe that formed no T3 line has none to write. -/
def Device.bandsDone (d : Device) (p x : Nat) (r : PipeRun) : Bool :=
  let v := d.view p x r
  r.produced == 0 || (List.range 4).all fun w => !v.warpOn p x w || decide (v.bands p x w ≤ (r.warp w).band)

/-- A completed lead frame leaves the pipe. -/
def Device.leavePipe (d : Device) (p x s id : Nat) : Device :=
  let c := d.ctx p x
  d.setCtx p x { c with runs := c.runs.filter fun r => !(r.stream == s && r.frame == id) }

-- The warp engine (10 R346 to R350).

/-- A later lead frame of the context has written its own line over place y of a slot of T3 (10 R350). -/
def Device.lineGone (d v : Device) (p x ordinal height y : Nat) (r : PipeRun) : Bool :=
  ((d.ctx p x).runs.dropWhile fun q => !(q.stream == r.stream && q.frame == r.frame)).drop 1 |>.any fun q =>
    let u := d.view p x q
    match d.frameOf q.stream q.frame with
    | none => false
    | some g =>
      let h := ((d.stream q.stream).during g).height
      bitAt (u.rd (Reg.ISP_C_TAPS_tap_en p x)) 3 && decide (u.tapBuf p x 3 h = v.tapBuf p x 3 height) &&
        decide (g.ordinal % (u.tapBuf p x 3 h).slots = ordinal % (v.tapBuf p x 3 height).slots) && decide (y < q.produced)

/-- Rows of T3 that a band reads, none for one that the ring has overwritten, with lines of its own frame or of a later one; the
engine reads them with their errors. -/
def Device.bandRows (d v : Device) (md : Mode) (p x ordinal width height lo : Nat) (hi : Int) (r : PipeRun) :
    List (Nat × Option (List Byte)) × Device :=
  let rows := bufRows (v.rd (Reg.ISP_T_BUF_CFG_ring_lines p x 3)) height
  forL (List.range (hi + 1 - lo).toNat) (fun k (acc, d) =>
    let y := lo + k
    if y + rows < r.produced ∨ d.lineGone v p x ordinal height (y % rows) r then (acc ++ [(y, none)], d)
    else
      let (bs, _, d) := d.guardedRead md .engine (v.tapRow p x 3 ordinal height y) (width * v.tapBytes p x 3 8)
      (acc ++ [(y, some bs)], d)) (([] : List (Nat × Option (List Byte))), d)

/-- Code of channel c at a source position as the engine sees it: unsigned, black outside the image and on overwritten rows
(10 R347, R350). -/
def t3Tap (rows : List (Nat × Option (List Byte))) (black : List Byte) (signed : Bool) (width height n c : Nat) (x y : Int) : Nat :=
  let fix (b : Byte) : Nat := (if signed then b ^^^ 0x80 else b).toNat
  if 0 ≤ x ∧ x < width ∧ 0 ≤ y ∧ y < height then
    match afind rows y.toNat with
    | some (some bs) => fix (bs.getD (x.toNat * n + c) 0)
    | _ => fix (black.getD c 0)
  else fix (black.getD c 0)

/-- Output row y of a band from the band's two mesh rows (10 R346, R347). -/
def warpRow (a b : List (Int × Int)) (tap : Nat → Int → Int → Nat) (signed : Bool) (n outW y : Nat) : List Byte :=
  let gy := y % 16
  (List.range outW).flatMap fun i =>
    let gx := i % 16
    let k := i / 16
    let q (f : Int × Int → Int) : Int :=
      meshPosition (f (a.getD k (0, 0))) (f (a.getD (k + 1) (0, 0))) (f (b.getD k (0, 0))) (f (b.getD (k + 1) (0, 0))) gx gy
    let px := q Prod.fst
    let py := q Prod.snd
    (List.range n).map fun c =>
      let v := BitVec.ofNat 8 (bilinear8 (tap c) px py)
      if signed then v ^^^ 0x80 else v

/-- A band of an output is written in ascending rows; one that needed an overwritten row is an overrun (10 R348, R350). With its
first band the frame takes the output's slot (11 R356). -/
def Device.writeBand (d : Device) (md : Mode) (p x w : Nat) (r : PipeRun) (f : Frame) (width height : Nat) : Device :=
  let v := d.view p x r
  let o := r.warp w
  let (a, d) := d.meshRow v md p x w o.band
  let (b, d) := d.meshRow v md p x w (o.band + 1)
  let (lo, hi) := bandRange height a b
  let (rows, d) := d.bandRows v md p x f.ordinal width height lo hi r
  let signed := v.rdB (Reg.ISP_C_TAPS_t3_signed p x)
  let n := v.tapBytes p x 3 8
  let black := (v.blackPixels r.table r.black r.bits p x).getD 3 []
  let buf := v.warpBuf p x w
  let pitch := v.rd (Reg.ISP_W_BUF_CFG_pitch p x w) * 64
  let slotRows := bufRows (v.rd (Reg.ISP_W_BUF_CFG_ring_lines p x w)) (v.outH p x w)
  let d := if o.band = 0 then d.overwriteSlot (.warp p x w) (f.ordinal % buf.slots) f.id else d
  let d := forL ((List.range 16).filter fun k => decide (16 * o.band + k < v.outH p x w)) (fun k d =>
    let y := 16 * o.band + k
    d.engineWrite md (buf.base + f.ordinal % buf.slots * buf.slotBytes + y % slotRows * pitch)
      (warpRow a b (t3Tap rows black signed width height n) signed n (v.outW p x w) y)) d
  if rows.any fun r => r.2.isNone then
    (d.bump (Reg.ISP_W_STATUS_overruns p x w) 1).markIsp p x r.stream f.id 2 Ev.ISP_WARP_OVERRUN (w + (o.band % 256) * 256)
  else d

/-- The run whose band of an output the engine is writing. -/
def CtxSt.writing (c : CtxSt) (w : Nat) : Option PipeRun := c.runs.find? fun r => (r.warp w).running

/-- The warp engine of a pipe is busy. -/
def Device.warpBusy (d : Device) (p : Nat) : Bool :=
  (List.range 8).any fun x => (List.range 4).any fun w => ((d.ctx p x).writing w).isSome

/-- WARP_BAND_START: the engine of the pipe is free, and the band is the one that became eligible first (10 R348). -/
def execWarpBandStart (pipe : Fin 4) (context : Fin 8) (output : Fin 4) (s : State) : Host.Outcome State Fault Refusal :=
  let d := s.dev
  let p := pipe.val
  let x := context.val
  let w := output.val
  match d.cam.warpq.find? fun j => j.pipe == p with
  | some j =>
    match (d.ctx p x).run j.stream j.frame with
    | some r =>
      if d.warpBusy p ∨ j.context ≠ x ∨ j.output ≠ w then .next s
      else
        let d := d.setRun p x (r.setWarp w { r.warp w with running := true })
        settle s { d with cam := { d.cam with warpq := d.cam.warpq.erase j } }
    | none => .next s
  | none => .next s

/-- WARP_BAND_COMPLETE: the band's rows are written, and its output's next band may become eligible (10 R348, R350). -/
def execWarpBandComplete (pipe : Fin 4) (context : Fin 8) (output : Fin 4) (s : State) : Host.Outcome State Fault Refusal :=
  let d := s.dev
  let p := pipe.val
  let x := context.val
  let w := output.val
  match (d.ctx p x).writing w with
  | none => .next s
  | some r =>
    match (d.stream r.stream).frames.find? fun f => f.id == r.frame with
    | none => .next s
    | some f =>
      let st := (d.stream r.stream).during f
      let d := d.writeBand s.mode p x w r f st.width st.height
      let d := d.updRun p x r.stream f.id fun r => r.setWarp w { running := false, band := (r.warp w).band + 1 }
      settle s (d.noteBands s.mode p x r.stream f st.height)

end Sys2Proof.Machine
end

