-- ==== Sys2Proof/Machine/Encode.lean ====
section
/-! DEFINITION. The encoder streams: their sources, the pictures formed from them, the queue, and the message with which every access
unit begins (11 R353 to R358). What the encoder makes of a picture is an operand of ENCODE_COMPLETE. -/

namespace Sys2Proof.Machine

-- Sources (11 R353, R354).

/-- An encoder stream is enabled. -/
def Device.encOn (d : Device) (e : Nat) : Bool := d.rdB (Reg.VID_ENC_CFG_enable e)

/-- The source that VID_ENCe_CFG selects. -/
def Device.encSource (d : Device) (e : Nat) : EncSource :=
  let p := d.rd (Reg.VID_ENC_CFG_pipe e)
  let x := d.rd (Reg.VID_ENC_CFG_context e)
  let u := d.rd (Reg.VID_ENC_CFG_unit e)
  match d.rd (Reg.VID_ENC_CFG_src_kind e) with
  | 0 => .bypass (d.rd (Reg.VID_ENC_CFG_stream e))
  | 1 => .tap p x u
  | _ => .warp p x u

/-- Stream whose frames a source holds: its own in bypass, else the lead of its context. -/
def Device.sourceStream (d : Device) : EncSource → Nat
  | .bypass s => s
  | .tap p x _ | .warp p x _ => d.leadOf p x

/-- Stream whose frames an encoder stream takes. -/
def Device.encStream (d : Device) (e : Nat) : Nat := d.sourceStream (d.encSource e)

/-- Raw sample bits that a source may have: 8, or 10 to 16 (11 R354). -/
def encBitsOk (bits : Nat) : Bool := decide (bits ≤ 16)

/-- A source is one of 11 R353 and R354: two slots or more, whole frames, a listed format. -/
def Device.sourceOk (d : Device) (st : StreamSt) : EncSource → Bool
  | .bypass _ => st.route == 0 && decide (2 ≤ st.slots) && st.ringLines == 0 && encBitsOk st.bits
  | .tap p x u =>
    d.ctxActive p x && bitAt (d.rd (Reg.ISP_C_TAPS_tap_en p x)) u && d.rdB (Reg.ISP_T_BUF_CFG_slots p x u) &&
      d.rd (Reg.ISP_T_BUF_CFG_ring_lines p x u) == 0 && (u == 3 || (u == 0 && encBitsOk st.bits))
  | .warp p x u => d.warpOn p x u && d.rdB (Reg.ISP_W_BUF_CFG_slots p x u) && d.rd (Reg.ISP_W_BUF_CFG_ring_lines p x u) == 0

/-- An encoder stream's source is valid; src_kind 3 is reserved (11 R353, R354). -/
def Device.encValid (d : Device) (e : Nat) : Bool :=
  d.rd (Reg.VID_ENC_CFG_src_kind e) != 3 && d.sourceOk (d.stream (d.encStream e)) (d.encSource e)

/-- Slots of a source. -/
def Device.sourceSlots (d : Device) (st : StreamSt) : EncSource → Nat
  | .bypass _ => st.slots
  | .tap p x u => d.rd (Reg.ISP_T_BUF_CFG_slots p x u) + 1
  | .warp p x u => d.rd (Reg.ISP_W_BUF_CFG_slots p x u) + 1

/-- A source holds raw samples: bypass or T0. -/
def EncSource.raw : EncSource → Bool
  | .bypass _ => true
  | .tap _ _ u => u == 0
  | .warp .. => false

/-- Profile of a source's pictures: true for Main 10 (11 R354). -/
def EncSource.ten (src : EncSource) (st : StreamSt) : Bool := src.raw && decide (8 < st.bits)

/-- Width and height of a source's frames. -/
def Device.sourceSize (d : Device) (st : StreamSt) : EncSource → Nat × Nat
  | .warp p x u => (d.outW p x u, d.outH p x u)
  | _ => (st.width, st.height)

/-- Bytes of a source's pixel. -/
def Device.sourceBytes (d : Device) (st : StreamSt) : EncSource → Nat
  | .bypass _ => pixelBytes st.bits
  | .tap p x u => d.tapBytes p x u st.bits
  | .warp p x _ => d.tapBytes p x 3 8

/-- Address of row y of a slot of a source. -/
def Device.sourceRow (d : Device) (st : StreamSt) (slot y : Nat) : EncSource → Nat
  | .bypass _ => st.bufBase + slot * (bufRows st.ringLines st.height * st.pitch) + y * st.pitch
  | .tap p x u => d.tapRow p x u slot st.height y
  | .warp p x u => (d.warpBuf p x u).base + slot * (d.warpBuf p x u).slotBytes + y * (d.rd (Reg.ISP_W_BUF_CFG_pitch p x u) * 64)

-- Pictures (11 R354, R355).

/-- How samples become luma and chroma: the bits that raw codes lose, and for tensors their signs and channels (11 R354). -/
structure SampleForm where
  raw : Bool
  ten : Bool
  shift : Nat
  signed : Bool
  wide : Bool
  bytes : Nat
  deriving DecidableEq, Repr

/-- Luma of pixel x of a row (11 R354). XOR 0x80 is the table's for one channel only (log entry 79). -/
def SampleForm.luma (m : SampleForm) (row : List Byte) (x : Nat) : Nat :=
  if m.raw then fieldOf row (m.bytes * x) m.bytes / 2 ^ m.shift
  else if m.wide then fieldOf row (m.bytes * x) 1
  else fieldOf row x 1 ^^^ (if m.signed then 0x80 else 0)

/-- The picture of a frame in its coded size: the extra samples repeat the last column and the last row, and a chroma sample is the
mean of its 2 × 2 block, or neutral where the source has no colour (11 R354, R355). -/
def SampleForm.picture (m : SampleForm) (w h : Nat) (rows : List (List Byte)) : Picture :=
  let cw := ceilDiv w 8 * 8
  let ch := ceilDiv h 8 * 8
  let row (y : Nat) : List Byte := rows.getD (min y (h - 1)) []
  let at_ (c x y : Nat) : Nat := fieldOf (row y) (m.bytes * min x (w - 1) + c) 1
  let chroma (c : Nat) : List Half := (List.range (ch / 2)).flatMap fun y => (List.range (cw / 2)).map fun x =>
    BitVec.ofNat 16 (if m.raw || !m.wide then (if m.ten then 512 else 128)
      else rneNat (at_ c (2 * x) (2 * y) + at_ c (2 * x + 1) (2 * y) + at_ c (2 * x) (2 * y + 1) + at_ c (2 * x + 1) (2 * y + 1)) 4)
  { ten := m.ten, width := cw, height := ch
    luma := (List.range ch).flatMap fun y => (List.range cw).map fun x => BitVec.ofNat 16 (m.luma (row y) (min x (w - 1)))
    cb := chroma 1, cr := chroma 2 }

/-- The form of a source's samples. -/
def Device.sampleForm (d : Device) (st : StreamSt) (src : EncSource) : SampleForm :=
  let (signed, wide) := match src with
    | .bypass _ => (false, false)
    | .tap p x _ | .warp p x _ => (d.rdB (Reg.ISP_C_TAPS_t3_signed p x), d.rdB (Reg.ISP_C_TAPS_t3_wide p x))
  { raw := src.raw, ten := src.ten st, shift := st.bits - 10, signed, wide, bytes := d.sourceBytes st src }

/-- The rows of a frame are read from its slot. -/
def Device.readSource (d : Device) (md : Mode) (st : StreamSt) (src : EncSource) (slot : Nat) : List (List Byte) × Device :=
  let (w, h) := d.sourceSize st src
  forL (List.range h) (fun y (rows, d) =>
    let (bs, _, d) := d.guardedRead md .engine (d.sourceRow st slot y src) (w * d.sourceBytes st src)
    (rows ++ [bs], d)) (([] : List (List Byte)), d)

-- Starting an encode (11 R356 to R358).

/-- The next frame of an encoder stream is due as IDR by its interval (VID_ENCe_CFG). -/
def Device.intervalDue (d : Device) (e : Nat) : Bool :=
  let k := d.rd (Reg.VID_ENC_CFG_idr_interval e)
  k != 0 && decide (k ≤ (d.enc e).sinceIdr)

/-- A queued frame is coded as IDR (11 R356 to R358). -/
def Device.idrDue (d : Device) (j : EncJob) : Bool := j.idr || d.intervalDue j.encoder

/-- The quantisation parameter of a frame: that of the register, or one from 0 to 51 that the encoder chooses (11 R358; free). -/
def Device.chooseQp (d : Device) (e : Nat) : Nat × Device :=
  if d.rdB (Reg.VID_ENC_RATE_mode e) then
    let (n, d) := d.tick
    (Config.unstated 358 n % 52, d)
  else (d.rd (Reg.VID_ENC_RATE_qp e), d)

/-- The frame at the head of the queue starts encoding as soon as the encoder is free (11 R356). -/
def Device.startEncode (d : Device) (md : Mode) : Device :=
  match d.vid.coding, d.vid.queue with
  | none, j :: _ =>
    let f := ((d.stream j.stream).frames.find? fun f => f.id == j.frame.id).getD j.frame
    let st := (d.stream j.stream).during f
    let (w, h) := d.sourceSize st j.source
    let form := d.sampleForm st j.source
    let (rows, d) := d.readSource md st j.source j.slot
    let (qp, d) := d.chooseQp j.encoder
    { d with vid := { d.vid with coding := some {
        picture := form.picture w h rows, width := w, height := h, idr := d.idrDue j, qp
        refs := d.rd (Reg.VID_ENC_CFG_refs j.encoder) + 1, record := f.record } } }
  | _, _ => d

/-- A completed frame joins the encode queue for an encoder stream, or is skipped at a full queue (11 R356). A frame of another
profile than the one before it is coded as IDR, as the first after a commit that changed the profile (11 R358). -/
def Device.queueEncode (d : Device) (s : Nat) (f : Frame) (e : Nat) : Device :=
  let src := d.encSource e
  let st := (d.stream s).during f
  if d.vid.queue.length < 16 then
    let x := d.enc e
    let j : EncJob := { encoder := e, stream := s, frame := f, source := src, slot := f.ordinal % d.sourceSlots st src
                        idr := x.nextIdr || x.profile != some (src.ten st) }
    { d with vid := { d.vid with queue := d.vid.queue ++ [j] } }.setEnc e { x with nextIdr := false, profile := some (src.ten st) }
  else d.skipEncode e 16 f.turn

/-- The completed frame of a stream joins the queue once for each encoder stream that it is the source of (11 R356, R359). -/
def Device.queueEncodes (d : Device) (md : Mode) (s : Nat) (f : Frame) : Device :=
  if md = .replay ∧ (d.stream s).replayed then d
  else
    (forL ((List.range 16).filter fun e => d.encOn e && d.encStream e == s && d.encValid e) (fun e d => d.queueEncode s f e) d).startEncode md

-- The SEI message (11 R355). Its framing is that of HEVC, which R355 cites: PRESUMED, log entry 79.

/-- The bytes of a NAL unit with the emulation prevention bytes of HEVC. -/
def escapeNal (zeros : Nat) : List Byte → List Byte
  | [] => []
  | b :: bs =>
    if zeros = 2 ∧ b.toNat ≤ 3 then 3 :: b :: escapeNal (if b = 0 then 1 else 0) bs
    else b :: escapeNal (if b = 0 then zeros + 1 else 0) bs

/-- The UUID of 11 R355: the ASCII text NK3280-FRAMEREC1. -/
def frameRecUuid : List Byte := [0x4E, 0x4B, 0x33, 0x32, 0x38, 0x30, 0x2D, 0x46, 0x52, 0x41, 0x4D, 0x45, 0x52, 0x45, 0x43, 0x31]

/-- The user-data-unregistered SEI message with which every access unit begins, as an Annex B byte stream (11 R355). -/
def seiMessage (record : List Byte) : List Byte :=
  [0, 0, 0, 1, 0x4E, 0x01] ++ escapeNal 0 ([0x05, 0x50] ++ frameRecUuid ++ record ++ [0x80])

end Sys2Proof.Machine
end

