-- ==== Sys2Proof/Machine/CameraPath.lean ====
section
/-! DEFINITION. The path of a stream: lines accepted, ends and completions of frames, fill lines, records, and the frames queued
for the encoders (09 R297 to R308; 10 R341; 11 R356). -/

namespace Sys2Proof.Machine

/-- A frame of a stream changed in the device. -/
def Device.updFrame (d : Device) (s : Nat) (f : Frame) (g : Frame → Frame) : Device := d.setStream s ((d.stream s).updFrame f g)


/-- Marks added to a frame (09 R302). -/
def Device.markFrame (d : Device) (s : Nat) (f : Frame) (mark : Nat) : Device :=
  d.updFrame s f fun x => { x with marks := x.marks ||| mark }

/-- The first framing condition of a frame is kept for its event (09 R302, R306). -/
def Frame.note (f : Frame) (content : Nat) : Frame := if f.framing = 0 then { f with framing := content } else f

/-- Address of row L of a bypass frame (09 R299). -/
def StreamSt.bypassRow (st : StreamSt) (ordinal L : Nat) : Nat :=
  let rows := bufRows st.ringLines st.height
  st.bufBase + ordinal % st.slots * (rows * st.pitch) + L % rows * st.pitch

/-- Line L of a frame is stored in the stream's bypass buffer, or enters the pipe behind the unpack stage (09 R298; 10 R326). -/
def Device.enterLine (d : Device) (md : Mode) (s : Nat) (f : Frame) (bypass : Bool) (L : Nat) (codes : List Nat) (late : Bool) : Device :=
  let st := (d.stream s).during f
  if bypass then
    let d := if L = 0 then d.overwriteSlot (.bypass s) (f.ordinal % st.slots) f.id else d
    d.engineWrite md (st.bypassRow f.ordinal L) (packLine st.bits codes)
  else d.feedPipe md s f L codes late

/-- Line L of a frame goes to memory or into the pipe, as its stream is routed (09 R298). -/
def Device.pathLine (d : Device) (md : Mode) (s : Nat) (f : Frame) (L : Nat) (codes : List Nat) (late : Bool) : Device :=
  d.enterLine md s f (((d.stream s).during f).route == 0) L codes late

/-- What the line counter shows: in a piped stream the step of the last image line, and what follows it, is held until the
frame's completion (01 R37; 09 R304; 10 R341). -/
def shownLines (piped complete : Bool) (height received discarded : Nat) : Nat :=
  let n := min (received + discarded) 0xFFFF
  if piped && !complete then min n (height - 1) else n

/-- The line counter of a frame follows its lines. -/
def Frame.count (f : Frame) (st : StreamSt) : Frame :=
  { f with linesAccepted := shownLines (st.route != 0) f.complete st.height f.linesReceived f.linesDiscarded }

/-- Row y of a replayed frame is written into T3 of its context, whose warp goes on from there, or into a warp output (11 R371); the
pixels are made with the fields of the frame's context. -/
def Device.injectTensor (d : Device) (md : Mode) (s : Nat) (f : Frame) (point output y : Nat)
    (pixels : Device → Nat × Nat → PipeRun → List Byte) : Device :=
  let st := (d.stream s).during f
  match (d.runsOf s f.id).head? with
  | none => d
  | some k => d.withRun k.1 k.2 s f.id fun r =>
    let v := d.view k.1 k.2 r
    let bs := pixels v k r
    if point = 2 then
      let d := d.writeTap v md k.1 k.2 3 f st.height y bs
      (d.updRun k.1 k.2 s f.id fun r => { r with produced := y + 1 }).noteBands md k.1 k.2 s f st.height
    else
      let b := v.warpBuf k.1 k.2 output
      let rows := bufRows (v.rd (Reg.ISP_W_BUF_CFG_ring_lines k.1 k.2 output)) (v.outH k.1 k.2 output)
      let d := if y = 0 then d.overwriteSlot (.warp k.1 k.2 output) (f.ordinal % b.slots) f.id else d
      d.engineWrite md (b.base + f.ordinal % b.slots * b.slotBytes +
        y % rows * (v.rd (Reg.ISP_W_BUF_CFG_pitch k.1 k.2 output) * 64)) bs

/-- A missing line, at the black level of the point at which the frame enters (09 R303; 10 R339; 11 R371). -/
def Device.blackLine (d : Device) (md : Mode) (s : Nat) (f : Frame) (L : Nat) : Device :=
  let st := (d.stream s).during f
  match f.inject with
  | some (point, output) =>
    if point < 2 then d.enterLine md s f (point == 0) L (List.replicate st.width st.black) false
    else d.injectTensor md s f point output L fun v k r =>
      (List.replicate (if point = 2 then st.width else v.outW k.1 k.2 output)
        ((v.blackPixels r.table r.black r.bits k.1 k.2).getD 3 [])).flatten
  | none => d.pathLine md s f L (List.replicate st.width st.black) false

/-- Every missing line of a frame that has ended is supplied at the black level (09 R303). -/
def Device.fillFrame (d : Device) (md : Mode) (s : Nat) (f : Frame) : Device :=
  let st := (d.stream s).during f
  let d := forL ((List.range st.height).filter fun L => decide (f.linesReceived ≤ L)) (fun L d => d.blackLine md s f L) d
  d.updFrame s f fun x => { x with filled := true, linesFilled := st.height - x.linesReceived }

/-- The next frame whose fill lines are due: it has ended, and the path has taken every line of it and of the frames before it. -/
def StreamSt.toFill (st : StreamSt) : Option Frame :=
  st.frames.reverse.find? fun f => f.endAt.isSome && !f.filled && !f.complete && st.lines.all fun l => decide (f.id < l.frame)

/-- The fill lines of the frames that are due for them, oldest first (09 R303). -/
def Device.tryFill (d : Device) (md : Mode) (s : Nat) : Nat → Device
  | 0 => d
  | fuel + 1 =>
    match (d.stream s).toFill with
    | some f => (d.fillFrame md s f).tryFill md s fuel
    | none => d

/-- The same for every frame of a stream. -/
def Device.fillEnded (d : Device) (md : Mode) (s : Nat) : Device := d.tryFill md s (d.stream s).frames.length

/-- The open frame of a stream ends now with further marks (09 R302 to R304). -/
def Device.endFrame (d : Device) (md : Mode) (s marks framing : Nat) : Device :=
  match (d.stream s).openNow with
  | none => d
  | some f =>
    let st := (d.stream s).during f
    let n := f.linesReceived + f.linesDiscarded + (st.lines.filter fun l => l.frame == f.id).length
    let short := decide (n < st.height)
    let long := decide (st.height < n)
    let d := d.updFrame s f fun x => { (if framing = 0 then x else x.note framing) with
      endAt := some d.sp.time
      marks := x.marks ||| marks ||| (if short then fmShort else 0) ||| (if long then fmLong else 0) }
    let d := if short then (d.bump (Reg.CSI_STREAM_ERRS_short_frames s) 1).raiseFrame Ev.CAM_FRAME_SHORT s f (n % 65536) else d
    let d := if long then
        (d.bump (Reg.CSI_STREAM_ERRS_long_frames s) 1).raiseFrame Ev.CAM_FRAME_LONG s f ((n - st.height) % 65536)
      else d
    d.fillEnded md s

/-- The next line of a stream is accepted by its path (09 R298, R302, R304). -/
def Device.acceptLine (d : Device) (md : Mode) (s : Nat) (late : Bool) : Device :=
  match (d.stream s).lines with
  | [] => d
  | l :: rest =>
    let d := d.setStream s { d.stream s with lines := rest }
    match d.frameOf s l.frame with
    | none => d
    | some f =>
      let st := (d.stream s).during f
      let now := d.sp.time
      let d :=
        if st.height ≤ f.linesReceived then
          (d.bump (Reg.CSI_STREAM_ERRS_lines_discarded s) 1).updFrame s f fun x =>
            { x with linesDiscarded := x.linesDiscarded + 1 }.count st
        else
          let codes := if st.crcAction ∧ ¬ l.crcOk then List.replicate st.width st.black
            else unpackLine st.bits st.width st.black l.data
          (d.pathLine md s f f.linesReceived codes late).updFrame s f fun x =>
            { x with
              linesReceived := x.linesReceived + 1
              firstLineAt := if x.linesReceived = 0 then now else x.firstLineAt
              lastLineAt := now }.count st
      d.fillEnded md s

-- Completion (09 R303, R306 to R308).

/-- Marks and epoch of a frame at its completion (09 R322; 11 R371). -/
def Frame.finished (f : Frame) : Frame :=
  match f.logged with
  | some (e, m) => { f with epoch := some e, marks := f.marks ||| m, complete := true }
  | none =>
    let e := f.epoch.getD f.expectedEpoch
    { f with
      epoch := some e, complete := true
      marks := f.marks ||| (if f.epoch.isNone then fmEpochAssumed else 0) ||| (if e ≠ f.expectedEpoch then fmEpochLag else 0) }

/-- The record and the registers of a frame at its completion (09 R308, R323). -/
def Device.writeRecord (d : Device) (md : Mode) (s : Nat) (f : Frame) : Device :=
  let base := ((d.stream s).during f).recBase + f.ordinal * 64
  let d := (d.engineWrite md (base + 16) f.recordTail).engineWrite md (base + 4)
    (leBytes 1 f.ordinal ++ leBytes 1 2 ++ leBytes 2 f.marks)
  ((d.wr (Reg.CSI_STREAM_STATUS_last_marks s) (f.marks % 2 ^ 13)).bump (Reg.CSI_STREAM_FRAMES_frames s) 1).wr
    (Reg.CSI_STREAM_EPOCH_frame_epoch s) (f.epoch.getD 0)

/-- Events of a frame that are complete at its completion (09 R306). -/
def Device.completionEvents (d : Device) (s : Nat) (f : Frame) : Device :=
  let d := if f.crcErrors ≠ 0 then d.raiseFrame Ev.CAM_PAYLOAD_CRC s f (f.crcErrors % 65536) else d
  let d := if f.marks &&& fmLineLength ≠ 0 then d.raiseFrame Ev.CAM_LINE_LENGTH s f 0 else d
  if f.framing ≠ 0 then d.raiseFrame Ev.CAM_FRAMING s f f.framing else d

/-- Contexts of a stream's pipe that it leads. -/
def Device.ledBy (d : Device) (s : Nat) : List (Nat × Nat) := d.contexts.filter fun k => d.leadOf k.1 k.2 == s

/-- A frame may complete: it has ended, its fill lines have been supplied, and every warp output holds its last band. -/
def Device.mayComplete (d : Device) (s : Nat) (f : Frame) : Bool :=
  f.endAt.isSome && f.filled && (d.runsOf s f.id).all fun k =>
    match (d.ctx k.1 k.2).run s f.id with
    | some r => d.bandsDone k.1 k.2 r
    | none => true

/-- Completion of a frame (09 R303, R306, R308; 10 R341, R344; 11 R356). -/
def Device.completeFrame (d : Device) (md : Mode) (s : Nat) (f : Frame) : Device :=
  let st := (d.stream s).during f
  let g := f.finished.count st
  let d := (d.updFrame s f fun _ => g).writeRecord md s g
  let d := forL (d.runsOf s f.id) (fun k d =>
    (d.withRun k.1 k.2 s f.id fun r => d.completeStats md k.1 k.2 r g).leavePipe k.1 k.2 s f.id) d
  (d.completionEvents s g).queueEncodes md s g

end Sys2Proof.Machine
end

