-- ==== Sys2Proof/Machine/SfeConfig.lean ====
section
/-! DEFINITION. Configuration of the sensor front end: what makes a stream or a context invalid, the commits of the CSI and ISP
blocks, context tables and mesh checks, black slots, and receivers that re-initialise (09 R293 to R296, R299, R301; 10 R327 to
R331, R349). -/

namespace Sys2Proof.Machine

-- Spans (08 R269).

/-- The sensor front end may read or write every byte of a span. -/
def Device.engineSpan (d : Device) (write : Bool) (a n : Nat) : Bool :=
  let ok (p : Place) : Bool := if write then (classRights 3 p).2 else (classRights 3 p).1
  let p := d.place a
  match p, d.place (a + n - 1) with
  | .shared _, .shared _ | .core _ _, .core _ _ => ok p
  | .dram k _, .dram k' _ => ok p && k == k'
  | _, _ => false

/-- A frame buffer with its black slot: aligned, wide enough, and in memory the front end may write (09 R295, R299, R301). -/
def Device.bufferOk (d : Device) (b : Buf) (pitch least : Nat) : Bool :=
  b.base % 64 == 0 && decide (least ≤ pitch) && d.engineSpan true b.base ((b.slots + 1) * b.slotBytes)

-- Contexts (10 R327, R331).


/-- The enabled contexts, as (pipe, context). -/
def Device.enabledCtxs (d : Device) : List (Nat × Nat) :=
  ((List.range 32).map fun k => (k / 8, k % 8)).filter fun k => d.rdB (Reg.ISP_C_CFG_enable k.1 k.2)

/-- Merge store of a context in bytes (10 R331). -/
def Device.mergeBytes (d : Device) (p x : Nat) : Nat :=
  d.rd (Reg.ISP_C_TAPS_merge_lines p x) * (d.committed (d.leadOf p x)).width * 3 * (d.exposures p x - 1)

/-- Base of a context table. -/
def Device.tableBase (d : Device) (p x : Nat) : Nat := d.rdPair (Reg.ISP_C_TABLE_LO_table_lo p x) (Reg.ISP_C_TABLE_HI_table_hi p x)

/-- Every buffer, table and statistics area of a context is aligned, large enough and in granted memory (10 R327 reason 5). -/
def Device.ctxAreasOk (d : Device) (p x : Nat) : Bool :=
  let st := d.committed (d.leadOf p x)
  let taps := (List.range 4).filter fun t => bitAt (d.rd (Reg.ISP_C_TAPS_tap_en p x)) t
  let outs := (List.range 4).filter fun w => d.rdB (Reg.ISP_W_MESH_HI_enable p x w)
  taps.all (fun t => d.bufferOk (d.tapBuf p x t st.height) (d.tapPitch p x t) (st.width * d.tapBytes p x t st.bits)) &&
  (d.tableBase p x % 64 == 0 && d.engineSpan false (d.tableBase p x) 2048) &&
  (!d.rdB (Reg.ISP_C_STATS_CFG_enable p x) || (d.statsRecord p x 0 % 64 == 0 && d.engineSpan true (d.statsRecord p x 0) 32768)) &&
  outs.all fun w => d.bufferOk (d.warpBuf p x w) (d.rd (Reg.ISP_W_BUF_CFG_pitch p x w) * 64) (d.outW p x w * d.tapBytes p x 3 8)

/-- First reason of 10 R327 that applies to an enabled context; 0 when it is valid. -/
def Device.ctxReason (d : Device) (p x : Nat) : Nat :=
  let ss := d.ctxStreams p x
  let st := d.committed (d.leadOf p x)
  let others := d.enabledCtxs.filter fun k => k != (p, x)
  let outs := (List.range 4).filter fun w => d.rdB (Reg.ISP_W_MESH_HI_enable p x w)
  if ss.any fun s => (d.committed s).route != p + 1 || others.any fun k => (d.ctxStreams k.1 k.2).contains s then 1
  else if ss.any fun s =>
      (d.committed s).width != st.width || (d.committed s).height != st.height || (d.committed s).bppCode != st.bppCode then 2
  else if 4096 < st.width then 3
  else if 1536 * 1024 < ((d.enabledCtxs.filter fun k => k.1 == p).map fun k => d.mergeBytes k.1 k.2).sum then 4
  else if ¬ d.ctxAreasOk p x then 5
  else if outs.any fun w => !bitAt (d.rd (Reg.ISP_C_TAPS_tap_en p x)) 3 ||
      decide (d.outW p x w < 16) || decide (4096 < d.outW p x w) || decide (d.outH p x w < 16) || decide (4096 < d.outH p x w) then 6
  else if d.rd (Reg.ISP_C_CFG_mosaic p x) < 2 ∧
      (1 < d.rd (Reg.ISP_C_CFG_phase_x p x) ∨ 1 < d.rd (Reg.ISP_C_CFG_phase_y p x)) then 7
  else 0

-- Streams (09 R295).

/-- Bits of a RAW data type (09 R291); none for a user-defined type and for any other. -/
def rawTypeBits (dt : Nat) : Option Nat :=
  match dt with
  | 0x2A => some 8 | 0x2B => some 10 | 0x2C => some 12 | 0x2D => some 14 | 0x2E => some 16 | 0x2F => some 20 | 0x27 => some 24
  | _ => none

/-- Data type and bpp code agree with 09 R295 reason 4. -/
def typeOk (dt code : Nat) : Bool :=
  match bppBits code with
  | none => false
  | some b =>
    match rawTypeBits dt with
    | some r => r == b
    | none => decide (0x30 ≤ dt) && decide (dt ≤ 0x37)

/-- First reason of 09 R295 that applies to an enabled stream; 0 when it is valid. -/
def Device.streamReason (d : Device) (s : Nat) : Nat :=
  let st := d.committed s
  let twin (k : Nat) : Bool :=
    let u := d.committed k
    k != s && u.enabled && u.receiver == st.receiver && u.vc == st.vc && u.dataType == st.dataType
  if (List.range 32).any twin then 1
  else if 15 < st.vc ∧ ¬ d.rdB (Reg.CSI_RX_CFG_phy st.receiver) then 2
  else if st.width < 16 ∨ 8192 < st.width ∨ st.width % 4 ≠ 0 ∨ st.height < 2 ∨ 8192 < st.height then 3
  else if ¬ typeOk st.dataType st.bppCode then 4
  else if st.route = 0 ∧ ¬ d.bufferOk { base := st.bufBase, slotBytes := bufRows st.ringLines st.height * st.pitch, slots := st.slots }
      st.pitch (st.width * pixelBytes st.bits) then 5
  else if st.recBase % 64 ≠ 0 ∨ ¬ d.engineSpan true st.recBase 4352 then 5
  else if 4 < st.route then 6
  else if d.enabledCtxs.any fun k =>
      k.1 + 1 == st.route && (d.ctxStreams k.1 k.2).contains s && d.ctxReason k.1 k.2 != 0 then 6
  else 0

/-- A stream's committed configuration is judged; CAM_STREAM_REJECTED follows a commit that leaves it invalid (09 R296). -/
def Device.judgeStream (d : Device) (s : Nat) (moved : Bool) : Device :=
  let st := d.stream s
  let u := d.committed s
  let r := if u.enabled then d.streamReason s else 0
  let d := d.setStream s { st with reject := r }
  if r ≠ 0 ∧ (moved ∨ r ≠ st.reject) then d.raise Ev.CAM_STREAM_REJECTED (camPayload s u.receiver u.vc r) else d

/-- A context's committed configuration is judged: it is active when enabled and valid, and ISP_CONTEXT_REJECTED follows a commit
that leaves it invalid (10 R327, R351). -/
def Device.judgeCtx (d : Device) (p x : Nat) (moved : Bool) : Device :=
  let c := d.ctx p x
  let r := if d.rdB (Reg.ISP_C_CFG_enable p x) then d.ctxReason p x else 0
  let d := (d.setCtx p x { c with reject := r }).wr (Reg.ISP_C_STATUS_active p x)
    (b2n (d.rdB (Reg.ISP_C_CFG_enable p x) && r == 0))
  if r = 0 then d
  else
    let d := d.wr (Reg.ISP_C_STATUS_reject_reason p x) r
    if moved ∨ r ≠ c.reject then d.raiseIsp Ev.ISP_CONTEXT_REJECTED p x r else d

-- Black slots (09 R301).

/-- The black slot of a stream's bypass buffer is written when the stream is enabled or its size, black level or buffer changed. -/
def Device.streamBlack (d : Device) (md : Mode) (s : Nat) : Device :=
  let u := d.committed s
  let key := if u.enabled ∧ u.reject = 0 ∧ u.route = 0 then
      [u.width, u.height, u.black, u.bits, u.bufBase, u.pitch, u.slots, u.ringLines]
    else []
  if key = u.blackFor then d
  else
    let d := d.setStream s { d.stream s with blackFor := key }
    if key = [] then d
    else
      d.writeBlackSlot md { base := u.bufBase, slotBytes := bufRows u.ringLines u.height * u.pitch, slots := u.slots } u.pitch u.width
        (leBytes (pixelBytes u.bits) u.black)

/-- The fields on which a context's black slots depend under 09 R301, and whether it holds a table with which to form them. -/
def Device.ctxBlackKey (d : Device) (p x : Nat) : List Nat :=
  let st := d.committed (d.leadOf p x)
  [st.width, st.height, d.rd (Reg.ISP_C_TAPS_tap_en p x), b2n (decide ((d.ctx p x).table ≠ []))] ++
    (d.ctxStreams p x).map (fun s => (d.committed s).black) ++
    (List.range 4).flatMap (fun t =>
      [(d.tapBuf p x t st.height).base, (d.tapBuf p x t st.height).slots, d.tapPitch p x t,
       d.rd (Reg.ISP_T_BUF_CFG_ring_lines p x t)]) ++
    (List.range 4).flatMap (fun w =>
      [b2n (d.rdB (Reg.ISP_W_MESH_HI_enable p x w)), (d.warpBuf p x w).base, (d.warpBuf p x w).slots,
       d.rd (Reg.ISP_W_BUF_CFG_pitch p x w), d.rd (Reg.ISP_W_BUF_CFG_ring_lines p x w), d.outW p x w, d.outH p x w])

/-- The black slots of an active context's buffers, on the same conditions; they are buffers of its lead stream (10 R339). -/
def Device.ctxBlack (d : Device) (md : Mode) (p x : Nat) : Device :=
  let key := if d.ctxActive p x ∧ (d.committed (d.leadOf p x)).enabled then d.ctxBlackKey p x else []
  if key = (d.ctx p x).blackFor then d
  else
    let d := d.setCtx p x { d.ctx p x with blackFor := key }
    let st := d.committed (d.leadOf p x)
    if key = [] then d else d.writeCtxBlack md p x st.width st.height

-- Context commits (10 R328, R329, R349).

/-- The context table is copied when its base has changed; a copy that breaks 10 R329 leaves the previous one. -/
def Device.copyTable (d : Device) (md : Mode) (p x : Nat) : Device :=
  let base := d.tableBase p x
  let c := d.ctx p x
  if base = c.tableBase then d
  else
    let (bs, bad, d) := d.guardedRead md .engine base 2048
    if bad.isNone ∧ tableOk bs (d.exposures p x) then
      (d.setCtx p x { c with table := bs, tableBase := base }).wr (Reg.ISP_C_STATUS_table_valid p x) 1
    else (d.setCtx p x { c with tableBase := base }).raiseIsp Ev.ISP_TABLE_REJECTED p x 0

/-- The words with which an output's mesh is checked (10 R349). -/
def Device.meshKey (d : Device) (p x w : Nat) : List Nat :=
  [d.meshBase p x w, d.outW p x w, d.outH p x w, d.rd (Reg.ISP_T_BUF_LO_base_lo p x 3), d.rd (Reg.ISP_T_BUF_HI_base_hi p x 3),
   d.tapPitch p x 3, d.rd (Reg.ISP_T_BUF_CFG_slots p x 3), d.rd (Reg.ISP_T_BUF_CFG_ring_lines p x 3)]

/-- The mesh of an output is checked when its base, size or T3 buffer has changed (10 R349). An output without a size has no mesh
(DEDUCED, log entry 45). -/
def Device.checkMesh (d : Device) (md : Mode) (p x w : Nat) : Device :=
  let c := d.ctx p x
  let key := if d.outW p x w = 0 ∨ d.outH p x w = 0 then [] else d.meshKey p x w
  if key = mget [] c.checked w then d
  else
    let d := d.setCtx p x { c with checked := mset [] c.checked w key }
    if key = [] then d.wr (Reg.ISP_W_STATUS_mesh_valid p x w) 0
    else
      let st := d.committed (d.leadOf p x)
      match d.meshCheck md p x w st.width st.height with
      | (none, d) => d.wr (Reg.ISP_W_STATUS_mesh_valid p x w) 1
      | (some (band, ring), d) =>
        (d.wr (Reg.ISP_W_STATUS_mesh_valid p x w) 0).raiseIsp Ev.ISP_MESH_REJECTED p x (w + (band % 256) * 2 ^ 8 + b2n ring * 2 ^ 16)

/-- What follows the commit of a context's fields: the verdict on it and on the enabled contexts that it may concern, the table, the
meshes, the black slots, and the verdicts on the streams. -/
def Device.afterCtxCommit (d : Device) (md : Mode) (p x : Nat) (moved : Bool) : Device :=
  let d := d.judgeCtx p x moved
  let d := forL (d.enabledCtxs.filter fun k => k != (p, x)) (fun k d => d.judgeCtx k.1 k.2 false) d
  let d := forL (List.range 4) (fun w d => d.checkMesh md p x w) (d.copyTable md p x)
  let d := forL ((List.range 32).map fun k => (k / 8, k % 8)) (fun k d => d.ctxBlack md k.1 k.2) d
  forL (List.range 32) (fun s d => d.judgeStream s false) d

/-- The fields of a context commit at the Frame Start of its lead stream (10 R328). A commit of one context under a released hold ends
the deferral period of the block, whatever the other contexts still defer: DESIGN CHOICE, log entry 72 (01 R56). -/
def Device.commitCtx (d : Device) (md : Mode) (p x : Nat) : Device :=
  let moved := !d.rdB (holdFld 6) && d.regs.shd.any fun e => inCtx p x (e.1 / 32)
  (d.commitPoint 6 (inCtx p x)).afterCtxCommit md p x moved

/-- The lead stream at whose Frame Start a context commits: that of the configuration in use, or, for a context that is not enabled,
the one that waiting writes name (10 R328; DEDUCED, log entry 80). -/
def Device.commitLead (d : Device) (p x : Nat) : Option Nat :=
  if d.rdB (Reg.ISP_C_CFG_enable p x) then some (d.leadOf p x)
  else if d.regs.shd.any fun e => inCtx p x (e.1 / 32) then
    let lead := d.rdShadow (Reg.ISP_C_CFG_lead p x)
    some (d.rdShadow (if lead = 0 then Reg.ISP_C_CFG_stream0 p x else if lead = 1 then Reg.ISP_C_CFG_stream1 p x else Reg.ISP_C_CFG_stream2 p x))
  else none

/-- Contexts that commit at a stream's Frame Start. -/
def Device.committing (d : Device) (s : Nat) : List (Nat × Nat) :=
  ((List.range 32).map fun k => (k / 8, k % 8)).filter fun k => d.commitLead k.1 k.2 == some s

-- Receivers (09 R293).

/-- PHY settings of a receiver: phy, lanes, rate, lane map. -/
def Device.rxPhy (d : Device) (r : Nat) : List Nat :=
  [d.rd (Reg.CSI_RX_CFG_phy r), d.rd (Reg.CSI_RX_CFG_lanes r), d.rd (Reg.CSI_RX_CFG_rate r), d.rd (Reg.CSI_RX_LANEMAP_map r)]

/-- A receiver's state; any state but up loses the lanes' synchronisation. -/
def Device.setRxState (d : Device) (r state : Nat) : Device :=
  let d := d.wr (Reg.CSI_RX_STATUS_state r) state
  if state = 2 then d else (d.wr (Reg.CSI_RX_STATUS_lane_sync r) 0).wr (Reg.CSI_RX_STATUS_deskew_done r) 0

/-- A receiver follows a commit: enabled ones whose settings changed re-initialise, with their open frames ended (09 R293). -/
def Device.commitRx (d : Device) (md : Mode) (r : Nat) (was : Bool) (before : List Nat) : Device :=
  let on := d.rdB (Reg.CSI_RX_CFG_enable r)
  if ¬ on then (if was then d.setRxState r 0 else d)
  else if ¬ was then d.setRxState r 1
  else if d.rxPhy r = before then d
  else
    let d := forL ((List.range 32).filter fun s => (d.stream s).openNow.isSome && (d.stream s).receiver == r)
      (fun s d => d.endFrame md s fmNoFe 3) d
    d.setRxState r 1

-- Sensor-control tables (09 R315, R316).

/-- Entries of a table up to its first invalid one, at most 32. -/
def scmEntries : Nat → List Byte → List (List Byte)
  | 0, _ => []
  | n + 1, bs => if bitAt (fieldOf bs 2 1) 0 then bs.take 16 :: scmEntries n (bs.drop 16) else []

/-- A master copies the table at its committed base (09 R315). -/
def Device.copyScm (d : Device) (md : Mode) (m : Nat) : Device :=
  let base := d.rdPair (Reg.CSI_SCM_TABLE_LO_table_lo m) (Reg.CSI_SCM_TABLE_HI_table_hi m)
  let (bs, _, d) := if base = 0 then ([], none, d) else d.guardedRead md .engine base 512
  let table := scmEntries 32 bs
  (d.setScm m { d.scm m with table, base, next := 0, fresh := true }).wr (Reg.CSI_SCM_STATUS_entries m) table.length

/-- The word address belongs to a register block of 0x40 bytes. -/
def inUnit (base a : Nat) : Bool := a / 0x40 == base / 0x40

/-- A stream that a commit enables: its silence counts from now (09 R305). -/
def Device.noteEnabled (d : Device) (s : Nat) (was : Bool) : Device :=
  if (d.committed s).enabled ∧ ¬ was then d.setStream s { d.stream s with since := d.sp.time } else d

/-- The CSI block commits at index 0, and every master copies the table at its base (09 R294, R315). -/
def Device.commitCsi (d : Device) (md : Mode) : Device :=
  let due := if d.rdB (holdFld 5) then [] else (d.regs.shd.map fun e => e.1 / 32).filter (inBlock 5)
  let before := (List.range 8).map fun r => (d.rdB (Reg.CSI_RX_CFG_enable r), d.rxPhy r)
  let on := (List.range 32).map fun s => (d.committed s).enabled
  let d := d.commitPoint 5 (inBlock 5)
  if due = [] then d
  else
    let d := forL (List.range 8) (fun r d =>
      let b := before.getD r (false, [])
      d.commitRx md r b.1 b.2) d
    let d := forL d.enabledCtxs (fun k d => d.judgeCtx k.1 k.2 false) d
    let d := forL (List.range 32) (fun s d => ((d.judgeStream s (due.any (inUnit (streamWord s 0)))).noteEnabled s
      (on.getD s false)).streamBlack md s) d
    let d := forL ((List.range 32).map fun k => (k / 8, k % 8)) (fun k d => d.ctxBlack md k.1 k.2) d
    forL (List.range 8) (fun m d => d.copyScm md m) d

/-- The sensor front end with the faceplate's configuration, when the part becomes READY: receivers initialise, contexts and
streams are judged, and black slots written (09 R294, R301). Tables and meshes are taken with the contexts' first commit (10
R328, R349). -/
def Device.startCameras (d : Device) (md : Mode) : Device :=
  let d := forL (List.range 8) (fun r d => d.commitRx md r false []) d
  let d := forL d.enabledCtxs (fun k d => (d.judgeCtx k.1 k.2 true).ctxBlack md k.1 k.2) d
  forL (List.range 32) (fun s d => ((d.judgeStream s false).noteEnabled s false).streamBlack md s) d

end Sys2Proof.Machine
end

