-- ==== Sys2Proof/Machine/Boot.lean ====
section
/-! DEFINITION. Reset, the starts and RECOVERY: C1 to C9 and W1 to W8 (15 R477, R478, R488 to R491, R501 to R519; 01 R24; 02 R95,
R103; 08 R267, R272, R283, R284; 12 R385 to R387; 16 R526, R555; 17 R567, R568, R575, R579 to R582). -/

namespace Sys2Proof.Machine

-- Requests for a start.

/-- Registers that a warm start keeps: the spindle counts on, the memory controller keeps its channels in self-refresh, the
rails stay, and the fuse maps stand (01 R24; 08 R284; 17 R582; 02 R103). DEDUCED, log entry 31. -/
def keptWarm (a : Nat) : Bool :=
  let k := a / 0x100000
  k == 0x100 || k == 0x150 || k == 0x180 || k == 0x190 ||
    (decide (0x110 ≤ k) && decide (k < 0x130) && decide (0x10 ≤ a % 0x100000) && decide (a % 0x100000 < 0x20))

/-- The blocks that stay in reset lose their register contents; the maintenance port's own registers show their last response until
its cluster is released anew (15 R477; DEDUCED, log entry 31). -/
def Device.resetBlocks (d : Device) : Device :=
  let keep (k : Nat) : Bool := keptWarm (k / 32) || decide (2 ^ 48 ≤ k / 32)
  { d with
    regs := { act := d.regs.act.filter fun e => keep e.1, shd := d.regs.shd.filter fun e => keep e.1 }
    seq := { d.seq with runs := 0, cycleMarks := [] }
    join := { d.join with stalls := 0 }
    defer := d.defer.filter fun e => e.1 == 0 || e.1 == 4 || e.1 == 10 }

/-- What Headstock's registers show and its reset clears: locks, measurements, nonce, identity, verdicts (15 R478, R521). The booted
slot and the copy in use stand for a warm start, which verifies them (15 R515). -/
def headstockFields : List Fld :=
  [Reg.HS_STATUS_debug_open, Reg.HS_STATUS_recovery_reason, Reg.HS_STATUS_start_kind, Reg.HS_STATUS_seq_tie, Reg.HS_STATUS_warm_fail,
    Reg.HS_LOCK_seed_lock, Reg.HS_LOCK_flash_lock, Reg.HS_LOCK_lifecycle_lock, Reg.HS_LOCK_pert_lock, Reg.HS_LOCK_key_lock,
    Reg.HS_LOCK_debug_lock, Reg.HS_SLOTA_SEQ_LO_seq, Reg.HS_SLOTA_SEQ_HI_seq, Reg.HS_SLOTB_SEQ_LO_seq, Reg.HS_SLOTB_SEQ_HI_seq,
    Reg.HS_SLOT_STATUS_b_reason, Reg.HS_SLOT_STATUS_a_reason, Reg.HS_FACEPLATE_copy1_reason, Reg.HS_FACEPLATE_copy0_reason,
    Reg.HS_FACEPLATE_tie, Reg.HS_FP_SEQ_seq, Reg.HS_NONCE_LO_nonce, Reg.HS_NONCE_HI_nonce, Reg.HS_MEAS_SEL_reg] ++
    (List.range 16).map Reg.HS_MEAS_word ++ (List.range 16).map Reg.HS_ID_word

/-- Headstock is reset: its registers take their reset values, and debug closes (15 R478, R501, R521). -/
def Device.resetHeadstock (d : Device) : Device :=
  let d := forL headstockFields (fun f d => d.wr f 0) (d.closePert 2)
  { d with
    pins := { d.pins with jtag := false }
    boot := { d.boot with
      debugOpen := false, seqTie := false, nonce := 0, secState := []
      meas := List.replicate 8 (List.replicate 64 (0 : Byte)), ext := List.replicate 16 (0 : Word) } }

/-- Reset takes hold of everything but Headstock's own start: gates close, the NE, the sensor front end, the Ethernet MACs and the
Finyx ports stop, sessions and staged updates go (15 R477, R478; 13 R437; 16 R526, R539, R549). -/
def Device.holdReset (d : Device) : Device :=
  let d := d.resetHeadstock.resetBlocks.wr Reg.NE_STATUS_quad_in_reset 15
  { d with
    seq := {}, arrays := [], cores := [], dma := [], quant := {}, cam := {}, isp := [], vid := {}, join := {}, fo := {}
    proto := { tx := d.proto.tx }, upd := {}, safety := {}, bus := {}, latch := []
    memc := { d.memc with waiting := d.memc.waiting.map fun w => { w with waiter := .nobody } }
    ev := { d.ev with hmRunning := false }
    pins := { d.pins with safeAlert := true, phyReset := true, flashDriven := false }
    boot := { d.boot with
      firmwareUp := false, applicationUp := false, badA := false, badB := false
      recoverySlot := [], recoveryFace := [], maintBlocked := false, maintServed := false } }

/-- The part enters COLD_START: the spindle stops, and the pins take their reset states (00 R5, 01 R24, 15 R477, 17 R568). -/
def Device.enterCold (d : Device) : Device :=
  let d := d.holdReset
  { d with
    sp := { d.sp with counting := false, fsync := List.replicate 8 false, ppsOut := false }
    pins := { d.pins with memReset := true, avsDriven := false, spindleDriven := false } }

/-- The part enters WARM_START: the channels enter self-refresh, but one that retrains only when what waits for it is done (08
R284). -/
def Device.enterWarm (d : Device) : Device :=
  forN 16 (fun c d =>
    if d.rdB (Reg.MEM_CH_STATUS_online c) ∧ ¬ (d.memCh c).retraining then d.wr (Reg.MEM_CH_STATUS_self_refresh c) 1 else d) d.holdReset

/-- A cold-start request. -/
def State.requestCold (s : State) : State := { s with mode := .coldStart, dev := s.dev.enterCold }

/-- A warm-start request: carried out as a cold start when firmware or a faceplate has been written since the last one (15 R518),
or when the fuses give another lifecycle state (15 R496). -/
def State.requestWarm (s : State) : State :=
  if s.dev.boot.retained.any (·.pending) then { s with mode := .coldStart, dev := s.dev.enterCold.wr Reg.HS_STATUS_warm_fail 4 }
  else if s.dev.life ≠ lifecycleCode s.otp.lifecycle then s.requestCold
  else { s with mode := .warmStart, dev := s.dev.enterWarm }

/-- OFF: nothing volatile remains; the pins are in their reset states (00 R5; 15 R482; 17 R568, R580, R581). -/
def Device.powerDown (d : Device) (pins : Pins) : Device :=
  { freeCtr := d.freeCtr, pins, boot := { flash := d.boot.flash } }

-- Recovery (15 R490, R491).

/-- The part enters RECOVERY: the memory controller trains at speed code 1 (15 R490, R491; 16 R555). -/
def Device.enterRecovery (d : Device) (reason : Nat) : Device :=
  let d := (d.wr Reg.HS_STATUS_recovery_reason reason).wr Reg.MEM_CFG_speed 1
  { d with sp := { d.sp with counting := false }, pins := { d.pins with safeAlert := true } }.raise Ev.RECOVERY_ENTERED reason

-- Slot selection (15 R488, R489).

/-- Verdict of the ROM on a slot (15 R488). One whose first four bytes read 0xFF, as erased flash does, is unreadable, reason 0xF
of HS_SLOT_STATUS (15 R521), like a blank faceplate copy (R506; DEDUCED, log entry 32). -/
def Device.slotVerdict (d : Device) (o : Otp) (s : Nat) : Nat :=
  if (if s = 0 then d.boot.badA else d.boot.badB) then 0xE
  else if d.slotGet s 0 4 = [0xFF, 0xFF, 0xFF, 0xFF] then 0xF
  else slotHeadReason o d.life (d.slotGet s)

/-- Sequence shown for a slot: zero when its container cannot be read as one (15 R521). -/
def Device.slotSeq (d : Device) (s : Nat) : Nat :=
  let h := d.slotGet s 0 128
  if containerMalformed h slotSize then 0 else cSeq h

/-- The verdicts and sequences are recorded, and a slot that fails by revocation is reported (15 R488, R521, R522). -/
def Device.recordSlots (d : Device) (va vb : Nat) : Device :=
  let d := (d.wr Reg.HS_SLOT_STATUS_a_reason va).wr Reg.HS_SLOT_STATUS_b_reason vb
  let sa := d.slotSeq 0
  let sb := d.slotSeq 1
  let d := (d.wrPair Reg.HS_SLOTA_SEQ_LO_seq Reg.HS_SLOTA_SEQ_HI_seq sa).wrPair Reg.HS_SLOTB_SEQ_LO_seq Reg.HS_SLOTB_SEQ_HI_seq sb
  let d := { d with boot := { d.boot with seqA := sa, seqB := sb } }
  (d.raiseIf (va == 8) Ev.BOOT_KEY_REVOKED 8).raiseIf (vb == 8) Ev.BOOT_KEY_REVOKED (8 + 256)

/-- Both slots are valid with equal sequences and differing digests (15 R488). -/
def Device.noteTie (d : Device) (va vb : Nat) : Device :=
  if va = 0 ∧ vb = 0 ∧ d.boot.seqA = d.boot.seqB ∧ cDigest (d.slotGet 0 0 128) ≠ cDigest (d.slotGet 1 0 128) then
    ({ d with boot := { d.boot with seqTie := true } }.wr Reg.HS_STATUS_seq_tie 1).raise Ev.BOOT_SEQ_TIE (d.boot.seqA % 2 ^ 48 * 2 ^ 16)
  else d

/-- The ROM's choice of the slot to boot: a slot, or the reason for RECOVERY (15 R488). -/
def Device.romSelect (d : Device) (o : Otp) : (Nat ⊕ Nat) × Device :=
  let va := d.slotVerdict o 0
  let vb := d.slotVerdict o 1
  let d := d.recordSlots va vb
  if va ≠ 0 ∧ vb ≠ 0 then (.inr (if va = 8 ∨ vb = 8 then 2 else 1), d)
  else if vb ≠ 0 then (.inl 0, d)
  else if va ≠ 0 then (.inl 1, d)
  else if d.boot.seqB ≤ d.boot.seqA then (.inl 0, d.noteTie va vb)
  else (.inl 1, d)

-- Headstock firmware (15 R478, R501 to R503).

/-- Every measurement register and HS_EXTw is zero (15 R502). -/
def Device.clearMeasurements (d : Device) : Device :=
  { d with boot := { d.boot with meas := List.replicate 8 (List.replicate 64 (0 : Byte)), ext := List.replicate 16 (0 : Word) } }

/-- Debug opens or stays closed as the lifecycle says (15 R494, R501). -/
def Device.setDebug (d : Device) (on : Bool) : Device :=
  { (d.wr Reg.HS_STATUS_debug_open (b2n on)) with boot := { d.boot with debugOpen := on }, pins := { d.pins with jtag := on } }

/-- Every lock is set (15 R478). -/
def Device.setLocks (d : Device) : Device :=
  forL [Reg.HS_LOCK_seed_lock, Reg.HS_LOCK_flash_lock, Reg.HS_LOCK_lifecycle_lock, Reg.HS_LOCK_pert_lock, Reg.HS_LOCK_key_lock,
    Reg.HS_LOCK_debug_lock] (fun f d => d.wr f 1) d

/-- Headstock firmware of a slot starts: measurements, locks, nonce, identity, debug and perturbation (15 R478, R499, R501 to
R503; 13 R434). -/
def Device.headstockUp (d : Device) (o : Otp) (slot : Nat) : Device :=
  let d := (d.clearMeasurements.wr Reg.HS_STATUS_boot_slot slot).extend 0 (cDigest (d.slotGet slot 0 128))
  let d := (d.setLocks.drawNonce.deriveIdentity o).showKeys o
  let d := (d.setDebug (d.life != 2)).closePert 2
  if d.life == 1 then d.openPert 1 0xFE 0xFFFF 0 else d

/-- Each component's payload digest extends M1, in directory order (15 R502). -/
def Device.measureComponents (d : Device) (slot : Nat) : Device :=
  forL (slotEntries (d.slotGet slot)) (fun e d => d.extend 1 e.2.2.2) d

-- The faceplate (15 R507, R509, R510).

/-- An entry of the register image is applied to the active and shadow copies (15 R510); a value that a write would store as
another one is stored so here too (02 R106). -/
def Device.applyImage (d : Device) (e : List Byte) : Device :=
  let a := 0x10000000 + fieldOf e 0 4
  let mask := fieldOf e 4 4
  let value := fieldOf e 8 4
  match regAt a with
  | none => d
  | some r => forL r.fields (fun f d =>
      let fld : Fld := ⟨a, f.hi, f.lo, f.rst⟩
      let m := bitsOf mask f.hi f.lo
      if m = 0 then d
      else
        let old := d.rd fld
        let d := d.wr fld (clampField a f.lo ((old - (old &&& m)) ||| (bitsOf value f.hi f.lo &&& m)))
        { d with regs := { d.regs with shd := adel d.regs.shd fld.key } }) d

/-- The system section is applied (15 R509). -/
def Device.applySystem (d : Device) : Device :=
  let f := d.fpSys
  let d := (d.wr Reg.MEM_CFG_speed (f 1 1)).wr Reg.SP_CTRL_free_run_permit (bitsOf (f 7 1) 0 0)
  let d := d.wr Reg.NE_SHM_CFG_linear (bitsOf (f 7 1) 1 1)
  let d := ((d.wr Reg.FX_TOPO_topology (f 8 1)).wr Reg.FX_TOPO_dim_x (f 9 1)).wr Reg.FX_TOPO_dim_y (f 10 1)
  let d := (d.wr Reg.FX_TOPO_group_size (f 12 2 - 1)).wr Reg.FX_ROLE_device_id (f 14 2 % 512)
  let d := (d.wr Reg.FX_ROLE_buddy_valid (bitsOf (f 16 2) 15 15)).wr Reg.FX_ROLE_buddy_id (f 16 2 % 512)
  let d := (d.wr Reg.FX_ROLE_master_id (f 18 2)).wrPair Reg.FX_GROUP_SIG_LO_sig Reg.FX_GROUP_SIG_HI_sig (f 20 8)
  let d := (d.wr Reg.NE_QCFG_drift_turns (f 32 1)).wr Reg.NE_QCFG_min_values (f 34 2)
  { (d.wr Reg.SP_ALIGN_master_id (f 18 2)) with join := { d.join with master := f 18 2 } }

/-- The Ethernet ports are set up from the network section (16 R533, R559). -/
def Device.applyPorts (d : Device) : Device :=
  forN 3 (fun p d => d.wr (Reg.ETH_PORT_CTRL_enable p) (b2n (d.portFlag p 0))) (d.wr (Reg.ETH_PORT_STATUS_t1_master 0) (b2n (d.portFlag 0 4)))

/-- Ports that the topology uses begin to train; at a warm start those with stored settings restore them (12 R382, R385, R386). -/
def Device.startPorts (d : Device) : Device :=
  let warm := d.rd Reg.HS_STATUS_start_kind == 2
  let d := forN 8 (fun p d =>
    (d.wr (Reg.FX_PORT_STATUS_state p) (if (d.wiring p).isSome then 1 else 0)).setPort p
      { d.port p with restoring := warm && (afind d.boot.equaliser p).isSome }) d
  d.wr Reg.FX_STATUS_train_state (if (List.range 8).any fun p => (d.wiring p).isSome then 1 else 2)

/-- The faceplate of a copy comes into use, with its measurement in M2 (15 R502, R507, R509, R510). -/
def Device.useFaceplate (d : Device) (c : Nat) : Device :=
  let h := d.copyGet c 0 128
  let payload := d.copyGet c 128 (cLength h)
  let d := { d with boot := { d.boot with faceplate := payload } }
  let d := (d.wr Reg.HS_FACEPLATE_copy_used c).wr Reg.HS_FP_SEQ_seq (cSeq h)
  let d := (d.applySystem.applyPorts).wr Reg.PWR_CAP_cap_w 300
  let d := forL (recordsOf 12 (d.fpSection 2)) (fun e d => d.applyImage e) d
  (d.extend 2 (cDigest h)).startPorts

/-- The faceplate copies are judged and one is chosen; none when neither is valid (15 R505 to R507). -/
def Device.chooseFaceplate (d : Device) (o : Otp) : Option Nat × Device :=
  let r0 := d.copyReason o 0
  let r1 := d.copyReason o 1
  let d := ((d.wr Reg.HS_FACEPLATE_copy0_reason r0).wr Reg.HS_FACEPLATE_copy1_reason r1).wr Reg.HS_FACEPLATE_tie 0
  let bad (r : Nat) : Bool := r != 0 && r != 0xF
  let d := (d.raiseIf (bad r0) Ev.FACEPLATE_COPY_INVALID r0).raiseIf (bad r1) Ev.FACEPLATE_COPY_INVALID (r1 + 256)
  let s0 := cSeq (d.copyGet 0 0 128)
  let s1 := cSeq (d.copyGet 1 0 128)
  if r0 ≠ 0 ∧ r1 ≠ 0 then (none, d)
  else if r1 ≠ 0 then (some 0, d)
  else if r0 ≠ 0 then (some 1, d)
  else if s0 < s1 then (some 1, d)
  else if s1 < s0 then (some 0, d)
  else if cDigest (d.copyGet 0 0 128) = cDigest (d.copyGet 1 0 128) then (some 0, d)
  else (some 0, (d.wr Reg.HS_FACEPLATE_tie 1).raise Ev.FACEPLATE_SEQ_TIE 0)

-- Release of the firmware cluster (C4, W4).

/-- The firmware cluster is released: the health monitor takes over the held events, and the Ethernet MACs run (15 R513, R522;
17 R568, R581). -/
def Device.releaseFirmware (d : Device) : Device :=
  let held := d.ev.held
  let d := { d with
    ev := { d.ev with hmRunning := true, held := [] }
    boot := { d.boot with firmwareUp := true }
    pins := { d.pins with safeAlert := false, phyReset := false, avsDriven := true, spindleDriven := true } }
  forL held (fun e d => d.enqueue e) d

-- Cold start (15 R513).

/-- What a cold start begins from (01 R24; 13 R415; 15 R513 C1; 02 R103). The installed capacity once detected is kept: it is
what the training results in the always-on domain hold of the devices (08 R283). -/
def Device.coldBegin (d : Device) (o : Otp) : Device :=
  let fresh : Device := {
    freeCtr := d.freeCtr, ev := { held := d.ev.held }
    boot := { flash := d.boot.flash }
    pins := { d.pins with resetOut := false, safeAlert := true, phyReset := true, memReset := true, avsDriven := false, flashDriven := true,
                          jtag := false, thermAlert := false, spindleDriven := false }
    pwr := { starts := d.pwr.starts } }
  let fresh := (fresh.wr Reg.MEM_CFG_capacity (d.rd Reg.MEM_CFG_capacity)).wr Reg.HS_STATUS_warm_fail (d.rd Reg.HS_STATUS_warm_fail)
  let fresh := ((fresh.wr Reg.HS_STATUS_lifecycle (lifecycleCode o.lifecycle)).wr Reg.HS_STATUS_start_kind 1).showKeys o
  forN 32 (fun n d => forN 4 (fun a d =>
    let w := (Config.repair n a).toNat
    (((d.wr (Reg.CORE_REPAIR_col1_out n a) (bitsOf w 29 24)).wr (Reg.CORE_REPAIR_col0_out n a) (bitsOf w 21 16)).wr
      (Reg.CORE_REPAIR_row1_out n a) (bitsOf w 13 8)).wr (Reg.CORE_REPAIR_row0_out n a) (bitsOf w 5 0)) d) fresh

/-- A component of the booted slot is invalid: it is reported, the slot is marked bad for this start, and Headstock is reset into the
ROM. What its firmware had opened, locked, measured and set up of the part goes with that; a tie of this start stays recorded (15
R478, R489, R501, R521). -/
def Device.giveUpSlot (d : Device) (o : Otp) (slot reason : Nat) : Device :=
  let d := d.raise Ev.BOOT_SLOT_INVALID (reason + slot * 256)
  let b := d.boot
  let d := d.coldBegin o
  { d with boot := { d.boot with
      badA := b.badA || slot == 0, badB := b.badB || slot == 1, seqTie := b.seqTie, slowFlash := b.slowFlash } }.wr Reg.HS_STATUS_seq_tie
    (b2n b.seqTie)

/-- C2 to C4, as often as a slot must be given up (15 R488, R489, R495, R507). Without a valid slot or copy the part enters
RECOVERY; in BLANK it stays in COLD_START. -/
def Device.bootFrom (d : Device) (o : Otp) : Nat → Mode × Device
  | 0 => (.coldStart, d)
  | fuel + 1 =>
    match d.romSelect o with
    | (.inr why, d) => (.recovery, d.enterRecovery why)
    | (.inl slot, d) =>
      let d := d.headstockUp o slot
      if d.life = 0 then (.coldStart, (d.wr Reg.MEM_CFG_speed 1).extendSecurity)
      else
        match d.chooseFaceplate o with
        | (none, d) => (.recovery, d.enterRecovery 3)
        | (some c, d) =>
          let d := (d.useFaceplate c).extendSecurity
          let r := componentsReason o d.life (d.slotGet slot)
          if r = 0 then (.coldStart, (d.measureComponents slot).releaseFirmware)
          else (d.giveUpSlot o slot r).bootFrom o fuel

/-- COLD_START: C1 to C4 (15 R513), or RECOVERY with reason 4 when the strap asks for it (R490; 17 R579). -/
def execColdStart (sfdpOk : Bool) (s : State) : Host.Outcome State Fault Refusal :=
  if s.mode ≠ .coldStart ∨ s.dev.rd Reg.HS_STATUS_start_kind ≠ 0 then .next s
  else
    let d := s.dev.coldBegin s.otp
    let d := { d with boot := { d.boot with slowFlash := !sfdpOk } }
    let (md, d) :=
      if d.pins.strapRecovery then
        (Mode.recovery, (d.recordSlots (d.slotVerdict s.otp 0) (d.slotVerdict s.otp 1)).enterRecovery 4)
      else d.bootFrom s.otp 3
    .next { s with mode := md, dev := d }

-- Memory training (08 R272, R283; 16 R555).

/-- Places of the DRAM areas for the capacity and the faceplate, in units of 16 MiB (08 R267). -/
def Device.placeAreas (d : Device) : Device :=
  let sys := d.fpSection 1
  let total := d.dramSize / 2 ^ 24
  let ne := (neUnits total sys).toNat
  let sizes := [ne, 64 * fieldOf sys 2 1, 64, 64 * fieldOf sys 3 1, fieldOf sys 4 2]
  (forL sizes.zipIdx (fun (n, a) (base, d) => (base + n, (d.wr (Reg.MEM_AREA_base a) base).wr (Reg.MEM_AREA_size a) n)) (0, d)).2

/-- Capacity code of a channel's density in GiB (08 R271). -/
def capacityCode (gib : Nat) : Nat := if gib = 4 then 1 else if gib = 8 then 2 else if gib = 16 then 3 else 0

/-- A channel goes offline (08 R283, R288, R272, R290). -/
def Device.channelOffline (d : Device) (c reason : Nat) : Device :=
  let d := d.wr Reg.MEM_STATUS_offline (d.rd Reg.MEM_STATUS_offline ||| 2 ^ c)
  let d := (d.wr (Reg.MEM_CH_STATUS_online c) 0).wr (Reg.MEM_CH_STATUS_training c) (if reason = 3 then 1 else 3)
  d.raise Ev.MEM_CHANNEL_OFFLINE (reason + c * 2 ^ 48)

/-- Training of every channel ends (08 R272, R283). -/
def Device.trainChannels (d : Device) (failed : BitVec 16) (gib : List Nat) : Device :=
  let cap := capacityCode (gib.getD 0 0)
  let d := d.wr Reg.MEM_CFG_capacity cap
  let d := forL (List.range 16) (fun c d =>
    if bitAt failed.toNat c then d.channelOffline c 1
    else if gib.getD c 0 ≠ gib.getD 0 0 ∨ cap = 0 then d.channelOffline c 3
    else (d.wr (Reg.MEM_CH_STATUS_online c) 1).wr (Reg.MEM_CH_STATUS_training c) 1) d
  d.wr Reg.MEM_STATUS_trained 1

/-- Zero fill of installed DRAM on every online channel (08 R283). -/
def Device.zeroDram (d : Device) : Device :=
  let keep (a : Nat) : Bool := decide (a < dramBase) || bitAt (d.rd Reg.MEM_STATUS_offline) (channelOf (a - dramBase))
  { d with mem := { cells := d.mem.cells.filter fun p => keep p.1, errs := d.mem.errs.filter fun p => keep p.1 } }

/-- MEM_TRAINING_COMPLETE: in COLD_START once C3 has been passed, or in RECOVERY and BLANK for the maintenance buffer (08 R272,
R283; 15 R512; 16 R555). -/
def execMemTrainingComplete (failed : BitVec 16) (gibPerChannel : List Nat) (s : State) : Host.Outcome State Fault Refusal :=
  let d := s.dev
  let side := decide (s.mode = .recovery) || (decide (s.mode = .coldStart) && d.life == 0)
  if d.rdB Reg.MEM_STATUS_trained ∨ ¬ (s.mode = .recovery ∨ (s.mode = .coldStart ∧ d.rd Reg.HS_STATUS_start_kind = 1)) then .next s
  else
    let d := d.trainChannels failed gibPerChannel
    let bad := d.rd Reg.MEM_STATUS_offline ≠ 0
    if side then nextD s { d with boot := { d.boot with maintServed := !bad, maintBlocked := bad } }
    else if ¬ d.fpContentOk d.boot.faceplate then
      -- The detected capacity leaves the NE area less than 16 GiB: Headstock starts again and judges the copies anew.
      nextD s ((d.wr Reg.HS_STATUS_start_kind 0).wr Reg.MEM_STATUS_trained 0)
    else
      let d := (d.placeAreas.zeroDram).wr Reg.MEM_STATUS_init_done 1
      let d := { d with memc := { d.memc with stored := true }, pins := { d.pins with memReset := false }, boot := { d.boot with maintServed := true } }
      let d := d.layLog s.mode
      nextD s (if d.boot.firmwareUp then d.startFetch s.otp else d)

-- Port training (12 R385 to R388).

/-- Full training finds a port's equaliser settings, which the always-on domain keeps (12 R385; what they are is free). -/
def Device.storeEqualiser (d : Device) (p : Nat) : Device :=
  let (n, d) := d.tick
  { d with boot := { d.boot with equaliser := aput d.boot.equaliser p (Config.unstated 385 n) } }

/-- A port has trained: its neighbour's identity and its delay show, and it comes up when they are right (12 R385, R387, R388). -/
def Device.portTrained (d : Device) (p neighbour neighbourPort signature delayNs : Nat) : Device :=
  let d := (d.wr (Reg.FX_PORT_STATUS_neighbour_id p) neighbour).wr (Reg.FX_PORT_STATUS_neighbour_port p) neighbourPort
  let d := d.wr (Reg.FX_PORT_DELAY_delay_ns p) (min delayNs 65535)
  let idOk : Bool := match d.wiring p with | some (n, _) => n == neighbour | none => false
  if signature = d.rdPair Reg.FX_GROUP_SIG_LO_sig Reg.FX_GROUP_SIG_HI_sig ∧ idOk then
    (d.wr (Reg.FX_PORT_STATUS_state p) 2).raiseFx Ev.FX_LINK_UP p neighbour 0
  else (d.wr (Reg.FX_PORT_STATUS_state p) 3).raiseFx Ev.FX_NEIGHBOUR_MISMATCH p neighbour 1

/-- FX_TRAINING_COMPLETE: a restore that fails leaves the port to the full training (12 R385 to R388, R391, R407). -/
def execFxTrainingComplete (port : Fin 8) (ok : Bool) (neighbour : Nat) (neighbourPort : Fin 8) (signature : Long)
    (delayNs : Nat) (s : State) : Host.Outcome State Fault Refusal :=
  let d := s.dev
  let p := port.val
  if ¬ (s.mode = .coldStart ∨ s.mode = .warmStart) ∨ d.rd (Reg.FX_PORT_STATUS_state p) ≠ 1 then .next s
  else if (d.port p).restoring ∧ ¬ ok then nextD s (d.setPort p { d.port p with restoring := false })
  else
    let before := d.unreachable
    let d := if ok ∧ ¬ (d.port p).restoring then d.storeEqualiser p else d
    let d := if ok then d.portTrained p neighbour neighbourPort.val signature.toNat delayNs
      else (d.wr (Reg.FX_PORT_STATUS_state p) 3).raiseFx Ev.FX_LINK_DOWN p 0x1FF 0
    let d := d.reroute before p (if ok then neighbour else 0x1FF)
    let states := (List.range 8).map fun p => d.rd (Reg.FX_PORT_STATUS_state p)
    nextD s (d.wr Reg.FX_STATUS_train_state (if states.contains 1 then 1 else if states.contains 3 then 3 else 2))

-- Warm start (15 R515 to R518; 08 R284; 01 R24).


/-- W1 to W4 find a retained object that fails: the part goes to COLD_START (15 R516). -/
def Device.warmFails (d : Device) (reason what : Nat) : Mode × Device :=
  (.coldStart, ((d.enterCold.wr Reg.HS_STATUS_warm_fail reason).raise Ev.WARM_CHECK_FAILED (reason + what * 256)))

/-- The spindle re-enters its lock states with its last frequency correction (01 R24). A follower that uses Finyx under 01 R62 goes
on doing so until its next job starts. -/
def Device.relock (d : Device) : Device :=
  let d := { d with sp := { d.sp with
    active := none, lastActive := none, lock := .free, goodRun := 0, badRun := 0, stepPending := false } }
  d.reselect.applyStep .warmStart

/-- W1 to W6 (15 R515): the images retained equal the slot booted and the copy in use, which nothing writes while they are in
use (15 R520; DEDUCED, log entry 32). -/
def Device.warmRun (d : Device) (o : Otp) (channelsFailing : BitVec 16) : Mode × Device :=
  let slot := d.rd Reg.HS_STATUS_boot_slot
  let copy := d.rd Reg.HS_FACEPLATE_copy_used
  let d := (d.resetBlocks.wr Reg.HS_STATUS_lifecycle (lifecycleCode o.lifecycle)).wr Reg.HS_STATUS_start_kind 2
  let d := { d with pins := { d.pins with flashDriven := true } }
  let va := d.slotVerdict o 0
  let vb := d.slotVerdict o 1
  let d := (d.recordSlots va vb).noteTie va vb
  if (if slot = 0 then va else vb) ≠ 0 then d.warmFails 2 slot
  else
    let d := d.headstockUp o slot
    let r := d.copyReason o copy
    if r ≠ 0 then d.warmFails 3 copy
    else
      let d := (d.useFaceplate copy).extendSecurity
      if componentsReason o d.life (d.slotGet slot) ≠ 0 then d.warmFails 2 slot
      else
        let d := (d.measureComponents slot).releaseFirmware.relock
        if channelsFailing ≠ 0 then (.coldStart, d.enterCold.raise Ev.MEM_TRAIN_RESTORE_FAIL channelsFailing.toNat)
        else
          let d := forN 16 (fun c d =>
            if d.rdB (Reg.MEM_CH_STATUS_online c) then (d.wr (Reg.MEM_CH_STATUS_self_refresh c) 0).wr (Reg.MEM_CH_STATUS_training c) 2 else d) d
          let d := d.wr Reg.MEM_STATUS_warm_restored 1
          (.warmStart, { d with
            memc := { d.memc with
              shmScrub := List.replicate 16 0, chans := d.memc.chans.map fun e => (e.1, { e.2 with scrub := 0, sweeps := 0 }) }
            boot := { d.boot with maintServed := true } })

/-- WARM_START (15 R514 to R516; 08 R284), once no channel retrains any more. -/
def execWarmStart (recordCrcOk : Bool) (channelsFailing : BitVec 16) (s : State) : Host.Outcome State Fault Refusal :=
  if s.mode ≠ .warmStart ∨ s.dev.rd Reg.HS_STATUS_start_kind ≠ 0 ∨ s.dev.memc.chans.any fun e => e.2.retraining then .next s
  else
    let sound := recordCrcOk && s.dev.boot.retained.any fun r => r.crc == r.computed
    let r := if ¬ sound then s.dev.warmFails 1 0 else s.dev.warmRun s.otp channelsFailing
    .next { s with mode := r.1, dev := r.2 }

-- READY (15 R513 C9, R515 W7 and W8, R519).

/-- Core and shared memory are written with zero (02 R95). -/
def Device.zeroSram (d : Device) : Device :=
  let keep (a : Nat) : Bool := decide (a < shmBase) || decide (dramBase ≤ a)
  { (d.wr Reg.NE_STATUS_mem_init_done 1) with
    mem := { cells := d.mem.cells.filter fun p => keep p.1, errs := d.mem.errs.filter fun p => keep p.1 } }

/-- The quadrants leave reset, but for one whose rail is lost (15 R513; 14 R475). -/
def Device.releaseNe (d : Device) : Device :=
  let lost := ((List.range 4).map fun q => if d.rdB (Reg.PWR_RAIL_STATUS_lost q) then 2 ^ q else 0).sum
  { ((d.wr Reg.NE_STATUS_quad_in_reset lost).wr Reg.NE_STATUS_quad_clock_on (15 - lost)) with
    boot := { d.boot with applicationUp := true } }

/-- The application images are placed one after another from the base of the application partition, each on a 4 KiB boundary,
and measured in M5 (16 'The application cluster', 15 R502). One that a warm start has only verified stands there already (08
R285). -/
def Device.placeApps (d : Device) : Device :=
  (forL (d.fetch.filter fun f => srcKind (d.source f.entry) == 3) (fun f (a, d) =>
    let p := f.payload
    let d := if f.placed then d else ((d.writeChecked .coldStart .headstock a p).2).setFetch { f with placed := true }
    (a + ceilDiv p.length 4096 * 4096, d.extend 5 (srcDigest (d.source f.entry))))
    ((d.area 1).1, d)).2

/-- The spindle begins to count at time 0 when a cold start completes (01 R24). The period and phase of the register image are taken
as they stand, since R65 checks the pair only where it latches at an index 0 (DESIGN CHOICE, log entry 72). -/
def Device.startSpindle (d : Device) : Device :=
  if d.sp.counting then d
  else
    let d := { d with sp := { d.sp with
      counting := true, time := 0, lock := .free, periodUs := d.rd Reg.SP_PERIOD_period_us, phaseNs := d.rd Reg.SP_PHASE_phase_ns } }
    d.reselect

/-- The bound models whose bytes, as Headstock reads them, no longer have their digests, by source entry (15 R517; 08 R279). -/
def Device.damagedModels (d : Device) (md : Mode) : List Nat × Device :=
  forL d.fetchedBindings (fun b (bad, d) =>
    match d.modelOk md b with
    | (true, d) => (bad, d)
    | (false, d) =>
      (bad ++ ((d.fetch.find? fun f => srcKind (d.source f.entry) == 2 && srcModelId (d.source f.entry) == fieldOf b 0 4).map
        fun f => f.entry).toList, d)) (([] : List Nat), d)

/-- The application containers that no longer pass their checks, by source entry, each reported (15 R515 W7, R522). -/
def Device.damagedApps (d : Device) (o : Otp) : List Nat × Device :=
  let bad := d.fetch.filter fun f => srcKind (d.source f.entry) == 3 && d.sourceReason o f != 0
  (bad.map fun f => f.entry, forL bad (fun f d => d.rejectContainer (d.sourceReason o f) 6 (srcModelId (d.source f.entry))) d)

/-- Every step before C9 or W7 has completed (15 R513, R515). -/
def Device.startStepsDone (d : Device) : Bool :=
  d.boot.firmwareUp && d.rdB Reg.MEM_STATUS_trained && (List.range 8).all (fun p => d.rd (Reg.FX_PORT_STATUS_state p) != 1) &&
    !d.fetch.isEmpty && d.fetch.all fun f => f.accepted

/-- A cold start writes the retained-state record (15 R514). -/
def Device.writeRetained (d : Device) (planDigest : List Byte) : Device :=
  let get := d.slotGet (d.rd Reg.HS_STATUS_boot_slot)
  let r : Retained := {
    slot := d.rd Reg.HS_STATUS_boot_slot, sequence := d.bootSeq
    images := cDigest (get 0 128) :: (slotEntries get).map (·.2.2.2)
    faceplate := cDigest (d.copyGet (d.rd Reg.HS_FACEPLATE_copy_used) 0 128)
    planAt := d.planBase, planDigest, pendingImage := false, pendingFace := false, crc := 0 }
  { d with boot := { d.boot with retained := some r.seal } }

/-- READY (15 R513 C9, R515 W8): measurements of the applications, zeroed memories, releases, the spindle, and after a cold start
the retained-state record. -/
def Device.becomeReady (d : Device) (cold : Bool) (planDigest : List Byte) (startMs : Nat) : Device :=
  let d := d.zeroSram.placeApps.releaseNe.startSpindle.startPower.startCameras .ready
  let d := d.wr Reg.HS_STATUS_start_ms (min startMs 65535)
  (if cold then d.writeRetained planDigest else d).extendSecurity

/-- ENTER_READY (15 R513 C9, R515 W7 and W8, R517, R519; 06 R229 to R231). A plan that is rejected is fetched again (R519), and
after a warm start so is a model whose digest differs (R517). -/
def execEnterReady (startMs : Nat) (s : State) : Host.Outcome State Fault Refusal :=
  let d := s.dev
  if ¬ fetching s.mode ∨ d.life = 0 ∨ ¬ d.startStepsDone then .next s
  else
    let (models, d) := if s.mode = .warmStart then d.damagedModels s.mode else ([], d)
    let (apps, d) := if s.mode = .warmStart then d.damagedApps s.otp else ([], d)
    let bad := models ++ apps
    if bad ≠ [] then nextD s (forL bad (fun k d => d.refetch s.otp k) d)
    else
      match d.planEntry with
      | none => .next s
      | some f =>
        -- The plan's container as it stands in the firmware area.
        let (bs, d) := d.readPlan s.mode f
        let get := sliceOf bs
        let r := containerReason s.otp d.life 3 bs.length (fun _ => true) get
        let d := if r = 0 then d else d.rejectContainer r 3 (srcModelId (d.source f.entry))
        match d.offerPlan s.mode { replay := false } (r == 0) (containerPayload bs) (cDigest bs) with
        | (some _, d) => nextD s (d.setFetch { f with accepted := false })
        | (none, d) => .next { s with mode := .ready, dev := d.becomeReady (s.mode == .coldStart) (cDigest bs) startMs }

-- Reset and supply (17 R567, R575, R579, R580).

/-- PORST_RISE (15 R477; 17 R567, R579). -/
def execPorstRise (strapRecovery strapTest : Bool) (s : State) : Host.Outcome State Fault Refusal :=
  if s.mode ≠ .off ∨ s.dev.pins.porst then .next s
  else
    let d := { s.dev with pins := { s.dev.pins with porst := true, strapRecovery, strapTest } }
    if strapTest ∨ d.pins.brownOut then nextD s d else .next { s with mode := .coldStart, dev := d.enterCold }

/-- PORST_FALL: a pulse shorter than 1 us is ignored (17 R579, R580). -/
def execPorstFall (lowNs : Nat) (s : State) : Host.Outcome State Fault Refusal :=
  if lowNs < 1000 then .next s
  else .next { s with mode := .off, dev := s.dev.powerDown { brownOut := s.dev.pins.brownOut } }

/-- BROWN_OUT: more than 8% below nominal for longer than 1 us (17 R575). -/
def execBrownOut (_rail : MonitoredRail) (permilleBelow lowNs : Nat) (s : State) : Host.Outcome State Fault Refusal :=
  if 80 < permilleBelow ∧ 1000 < lowNs then
    .next { s with mode := .off, dev := s.dev.powerDown { s.dev.pins with
      brownOut := true, resetOut := true, safeAlert := true, thermAlert := false, phyReset := true, memReset := true
      avsDriven := false, flashDriven := false, jtag := false, spindleDriven := false } }
  else .next s

/-- BROWN_OUT_END (17 R575). -/
def execBrownOutEnd (s : State) : Host.Outcome State Fault Refusal :=
  let d := s.dev
  if s.mode ≠ .off ∨ ¬ d.pins.brownOut ∨ ¬ d.pins.porst then .next s
  else
    let d := { d with pins := { d.pins with brownOut := false } }
    if d.pins.strapTest then nextD s d else .next { s with mode := .coldStart, dev := d.enterCold }

end Sys2Proof.Machine
end

