-- ==== Sys2Proof/Machine/Dma.lean ====
section
/-! DEFINITION. The DMA commands: loads, read data, acknowledgements, failures (07 R239 to R263), the reads of NO_FRAME items
(09 R313), and the bytes of EMIT and MIRROR items (06 R207, R211; 12 R403; 16 R543). -/

namespace Sys2Proof.Machine

/-- The plan record of an item: of its run-time state, or of the active list. -/
def Device.itemRecord (d : Device) (num turn : Nat) : Option Item :=
  match d.findItem num turn with
  | some r => some r.item
  | none => d.activeList.find? fun i => i.num == num

-- What a descriptor reads (07 R239 to R241). A unit of work is read whole before its writes are issued.

/-- Window record of a WINDOW descriptor. -/
def Device.winOf (d : Device) (x : DescRt) : Win :=
  match d.seq.plan with
  | some p => ⟨p.windows.getD x.window []⟩
  | none => ⟨[]⟩

/-- Output pixels of a WINDOW descriptor. -/
def DescRt.pixels (x : DescRt) (w : Win) : Nat := (x.lastRow + 1 - x.firstRow) * w.outW

/-- Source bytes of a COPY line (07 R241). -/
def DescRt.lineSource (x : DescRt) : Nat :=
  if bitAt x.flags 1 then x.count0 / 64 * (rateOf (bitsOf x.flags 3 2)).2 else x.count0

/-- Units of work of a descriptor: lines, planes of a transposition, pixels of a dense gather, or the whole of a strip
descriptor. -/
def Device.units (d : Device) (x : DescRt) : Nat :=
  match x.op with
  | 1 => x.count2 * x.count1
  | 2 => x.count2
  | 4 => if (d.winOf x).denseOut then x.pixels (d.winOf x) else 1
  | _ => 1

/-- Reads of a STRIP descriptor: each block's rows, or its columns with src_kmajor, then its scales (07 R239, R240). -/
def DescRt.stripReads (x : DescRt) : List (Nat × Nat) :=
  let g := stripShape x.format (bitAt x.flags 5) x.count0
  (List.range (ceilDiv x.count1 32)).flatMap fun blk =>
    let rows := min 32 (x.count1 - 32 * blk)
    (if bitAt x.flags 6 then
      (List.range x.count0).flatMap fun (k : Nat) => lineAccesses (moveBy x.src (k * x.srcStride1) + 32 * blk * g.e) (rows * g.e)
    else (List.range rows).flatMap fun (i : Nat) => lineAccesses (moveBy x.src ((32 * blk + i : Nat) * x.srcStride1)) (x.count0 * g.e)) ++
    (if isMx x.format then
      (List.range rows).flatMap fun i => lineAccesses (x.table + (32 * blk + i) * ceilDiv x.count0 32) (ceilDiv x.count0 32)
    else [])

/-- The reads of a unit, as far as the bytes read so far decide them (07 R248, R252). -/
def Device.unitReads (d : Device) (x : DescRt) (u : Nat) (data : List Byte) : List (Nat × Nat) :=
  match x.op with
  | 1 => lineAccesses (x.srcLine (u / x.count1) (u % x.count1)) x.lineSource
  | 2 => (List.range x.count1).flatMap fun r => lineAccesses (x.srcLine u r) (x.count0 * x.format)
  | 3 => x.stripReads
  | 4 =>
    let w := d.winOf x
    if w.mode = 3 then
      let (p0, n) := if w.denseOut then (u, 1) else (0, x.pixels w)
      w.sampleReads x.src x.table x.firstRow (w.sampleList p0 n) data
    else (List.range (x.pixels w)).flatMap fun p => w.pixelReads x.src x.firstRow p
  | _ => []

-- What a descriptor writes.

/-- Rows and scales of the blocks of a STRIP descriptor from the bytes its reads returned. -/
def DescRt.stripBlocks (x : DescRt) (data : List Byte) : List (List (List Byte) × List (List Byte)) :=
  let g := stripShape x.format (bitAt x.flags 5) x.count0
  let q := ceilDiv x.count0 32
  (forL (List.range (ceilDiv x.count1 32)) (fun blk (out, data) =>
    let rows := min 32 (x.count1 - 32 * blk)
    let body := data.take (rows * x.count0 * g.e)
    let rest := data.drop (rows * x.count0 * g.e)
    let row (i : Nat) : List Byte :=
      if bitAt x.flags 6 then (List.range x.count0).flatMap fun k => sliceOf body ((k * rows + i) * g.e) g.e
      else sliceOf body (i * x.count0 * g.e) (x.count0 * g.e)
    let mx := isMx x.format
    let scales := if mx then (List.range rows).map fun i => sliceOf rest (i * q) q else []
    (out ++ [((List.range rows).map row, scales)], if mx then rest.drop (rows * q) else rest))
    (([] : List (List (List Byte) × List (List Byte))), data)).1

/-- A WINDOW descriptor that asks for B strips of a W4 format: R240 takes the line length from that operand, and no rule makes 4-bit
codes of the elements gathered (log entry 70). -/
def DescRt.openCodes (x : DescRt) : Bool :=
  x.op == 4 && bitAt x.flags 5 && (match opFmt x.format with | some f => f.w4 | none => false)

/-- The strips of a STRIP or WINDOW descriptor, as (address, bytes) (07 R240, 05 R179, R191). -/
def Device.stripsOf (d : Device) (x : DescRt) (data : List Byte) : List (Nat × List Byte) :=
  if x.op = 3 then
    let g := stripShape x.format (bitAt x.flags 5) x.count0
    (x.stripBlocks data).zipIdx.map fun (b, n) =>
      (x.dst + n * x.stripStride * 64, g.bytes b.1 ++ (if isMx x.format then scaleLines x.count0 b.2 else []))
  else
    let w := d.winOf x
    let n := x.pixels w
    let rows := if w.mode = 3 then w.sampleRows x.firstRow 0 n data else w.gatherRows x.firstRow 0 n data
    let k := (if w.mode = 3 then w.samples else w.kh * w.kw) * w.cCount
    let g := stripShape x.format (bitAt x.flags 5) k
    (List.range (ceilDiv n 32)).map fun blk =>
      let at_ := x.dst + blk * x.stripStride * 64
      (at_, if x.openCodes then
          (List.range (g.lines * 128)).map fun q => BitVec.ofNat 8 (Config.unstated 240 (d.freeCtr * 2 ^ 48 + at_ + q))
        else g.bytes ((rows.drop (32 * blk)).take 32))

/-- A descriptor that writes strips. -/
def Device.writesStrips (d : Device) (x : DescRt) : Bool := x.op == 3 || (x.op == 4 && !(d.winOf x).denseOut)

/-- The writes of a unit whose reads have returned (07 R239 to R241). -/
def Device.unitWrites (d : Device) (md : Mode) (ch : Nat) (x : DescRt) (u : Nat) (data : List Byte) : Device :=
  let z := u / x.count1
  let y := u % x.count1
  if d.writesStrips x then
    let strips := d.stripsOf x data
    let d := if x.openCodes then d.tick.2 else d
    forL strips (fun (a, bs) d => d.dmaWriteLine md ch a bs) d
  else
    match x.op with
    | 1 =>
      let rate := bitsOf x.flags 3 2
      let signed := bitAt x.flags 4
      if bitAt x.flags 0 then d.dmaWriteLine md ch (x.dstLine z y) (compressLine rate signed data)
      else if bitAt x.flags 1 then
        let (out, bad) := expandLine rate signed data
        let c := d.chan ch
        let d := if bad = 0 then d
          else ((d.setChan ch { c with badBlocks := c.badBlocks + bad }).bump (Reg.DMA_CH_COUNT_cmp_blocks ch) bad).wr
            (Reg.DMA_CH_STATUS_cmp_error ch) 1
        d.dmaWriteLine md ch (x.dstLine z y) out
      else d.dmaWriteLine md ch (x.dstLine z y) data
    | 2 =>
      forN x.count0 (fun c d =>
        d.dmaWriteLine md ch (x.dstLine u c)
          ((List.range x.count1).flatMap fun r => sliceOf data ((r * x.count0 + c) * x.format) x.format)) d
    | _ =>
      let w := d.winOf x
      let row := (w.sampleRows x.firstRow u 1 data).headD []
      d.dmaWriteLine md ch (x.dst + u * w.samples * w.cCount * w.e) row

-- Ends.

/-- Head of a DMA event's payload (07 R263). -/
def dmaPayload (ch cause item record content : Nat) : Nat :=
  (if ch < 64 then ch / 2 else 0xFF) + (if ch < 64 then ch % 2 else ch - 64) * 2 ^ 8 + cause * 2 ^ 12 + item * 2 ^ 16 +
    record * 2 ^ 32 + content * 2 ^ 48

/-- DMA_CMP_FORMAT, once for the descriptor (07 R260). -/
def Device.reportFormat (d : Device) (ch : Nat) (x : DescRt) : Device :=
  let c := d.chan ch
  if c.badBlocks = 0 then d
  else (d.setChan ch { c with badBlocks := 0 }).raise Ev.DMA_CMP_FORMAT
    (dmaPayload ch 0 x.item x.record (min c.badBlocks 65535))

/-- The channel has writes that wait for the hold buffer (12 R395, R396). -/
def Device.held (d : Device) (ch : Nat) : Bool := d.join.waiting.any fun h => h.channel == some ch

/-- A transfer descriptor with every read returned and every write acknowledged finishes (07 R253). -/
def Device.finishDesc (d : Device) (md : Mode) (ch : Nat) : Device :=
  let c := d.chan ch
  match c.active with
  | some x =>
    if c.readsDone ∧ c.cause.isNone ∧ c.unacked.isEmpty ∧ x.record ≠ 0xFFFF ∧ ¬ d.held ch then d.endDescriptor md ch else d
  | none => d

-- EMIT and MIRROR (06 R207, 07 R255).

/-- Body fields of an implicit descriptor. -/
def DescRt.bodySource (x : DescRt) : Nat := x.fd 4 6
def DescRt.bodyLength (x : DescRt) : Nat := x.fd 12 4


/-- The OUTPUT message of an EMIT item enters the messages sent (16 R543, R428, R429). -/
def Device.sendOutput (d : Device) (x : DescRt) (r : ItemRt) (queued : Nat) (data : List Byte) : Device :=
  let out := x.fd 0 2
  let part := mget 0 d.seq.outputs out
  let last := x.fd 2 1 % 2
  let marks := (r.marks &&& (255 ^^^ markRedone)) + b2n d.fo.degraded * 256
  let head := leBytes 2 out ++ leBytes 2 d.self ++ leBytes 4 r.turn ++ leBytes 2 part ++ leBytes 2 last ++ leBytes 2 marks ++
    leBytes 2 (x.fd 16 2) ++ leBytes 8 queued ++ leBytes 8 x.bodyLength
  { d with
    seq := { d.seq with
      outputs := mset 0 d.seq.outputs out (part + 1), partsSent := d.seq.partsSent + 1, outputsDone := d.seq.outputsDone + last }
    proto := { d.proto with tx :=
      { msgType := 0x30, status := 0, session := 0, sequence := 0, push := true, payload := head ++ data
        sentTo := (d.portFor 1).map fun p => d.destinationOf p 1 } :: d.proto.tx } }

/-- An EMIT's data is handed over as far as the queue has room; with the last byte the item completes (06 R211, 07 R256, 16
R543). Without a port for outputs nothing is sent. -/
def Device.emitPump (d : Device) (md : Mode) (ch : Nat) : Device :=
  let c := d.chan ch
  match c.active with
  | none => d
  | some x =>
    let port := d.portFor 1
    -- With the first bytes the message's header and its head of 32 bytes enter too.
    let room := match port with
      | some p => txqCap - d.txUsed p - (if c.handed = 0 then 64 else 0)
      | none => c.buffer.length
    let pending := c.buffer.length - c.handed
    let n := min pending room
    let d := match port with
      | some p => if n = 0 then d else d.queueOutput p (ch, x.item, x.turn) (x.bodyLength - c.handed) n
      | none => d
    let d := d.setChan ch { c with
      handed := c.handed + n, refused := decide (n < pending)
      queuedAt := if c.queuedAt.isNone ∧ 0 < n then some d.sp.time else c.queuedAt }
    if c.readsDone ∧ c.cause.isNone ∧ x.bodyLength ≤ c.handed + n then
      let d := match port, d.findItem x.item x.turn with
        | some _, some r => d.sendOutput x r (((d.chan ch).queuedAt).getD d.sp.time) c.buffer
        | _, _ => d
      d.endDescriptor md ch
    else d

/-- Bytes of one MIRROR transaction (12 R392: at most 4096). -/
def mirrorChunk : Nat := 4096

/-- A piece of a MIRROR is sent to the buddy (12 R392, R403). -/
def Device.mirrorSend (d : Device) (ch : Nat) (x : DescRt) (off : Nat) (bs : List Byte) : Device :=
  let last := decide (x.bodyLength ≤ off + bs.length)
  d.offerTx .mirror ((d.buddy).getD 0) (some ch)
    { emptyTx with turn := d.carriedTurn, address := x.fd 16 8 + off, item := x.fd 0 2, last, payload := bs }

/-- Reads of an EMIT, or of the next piece of a MIRROR. -/
def DescRt.implicitReads (x : DescRt) (op u : Nat) : List (Nat × Nat) :=
  if op = 4 then lineAccesses x.bodySource x.bodyLength
  else lineAccesses (x.bodySource + u * mirrorChunk) (min mirrorChunk (x.bodyLength - u * mirrorChunk))

-- Reads.

/-- One read access of a channel: none where its target is down or the data is uncorrectable, which marks the descriptor (07
R256, R259; 08 R288). Only an EMIT or a MIRROR can name an address that no channel reaches (07 R235, R242): no access is made, and
the bytes are free (log entry 75). -/
def Device.dmaRead (d : Device) (md : Mode) (ch a n errors : Nat) : Option (List Byte) × Device :=
  if d.targetDown a ∧ ¬ d.offlineAt a then (none, d.dmaCause ch 3 a)
  else if ¬ d.reachable a then
    let (bs, d) := d.freeBytes n
    (some bs, d)
  else
    let down := d.offlineAt a
    let (bs, bad, d) := (d.injectErrors a errors).guardedRead md .dmaItem a n
    if bad.isSome then (none, d.dmaCause ch (if down then 3 else 1) a) else (some bs, d)

/-- The read of a channel goes through the window table and the skew buffer: data that an uncorrectable word there spoils marks the
descriptor as a read does, and data that one taken for correctable spoils is free (07 R256; 13 R410, R416; DEDUCED, log entry 81). -/
def Device.throughSkew (d : Device) (ch a : Nat) (e : ReadErrors) (bs : List Byte) : Option (List Byte) × Device :=
  let (t, d) := d.readInside e.table
  let (k, d) := d.readInside e.skew
  if t = .uncorrectable ∨ k = .uncorrectable then (none, d.dmaCause ch 1 a)
  else if t = .wrong ∨ k = .wrong then
    let (free, d) := d.freeBytes bs.length
    (some free, d)
  else (some bs, d)

/-- The data of the next read access of a channel whose unit reads are `reads`; none comes from a DRAM channel that retrains (08
R288). -/
def Device.takeRead (d : Device) (md : Mode) (ch : Nat) (errors : ReadErrors) (redirect : Nat → Nat) (reads : List (Nat × Nat)) :
    Device :=
  let c := d.chan ch
  match reads[c.pos]? with
  | none => d
  | some (a, n) =>
    if d.retrainingAt (redirect a) then d
    else
      match d.dmaRead md ch (redirect a) n errors.source with
      | (none, d) => d
      | (some bs, d) =>
        match d.throughSkew ch (redirect a) errors bs with
        | (none, d) => d
        | (some bs, d) => let c := d.chan ch; d.setChan ch { c with pos := c.pos + 1, buffer := c.buffer ++ bs }

/-- Where the reads of an item's descriptors go: to the black slot under a NO_FRAME of the item's own line wait (09 R313). -/
def Device.redirectOf (d : Device) (r : Option ItemRt) (a : Nat) : Nat :=
  match r with
  | some r => if r.ownNoFrame then d.blackAddress r.item.stream r.item.frame a else a
  | none => a

/-- A transfer descriptor's next read. -/
def Device.readTransfer (d : Device) (md : Mode) (ch : Nat) (errors : ReadErrors) (x : DescRt) (r : Option ItemRt) : Device :=
  let redirect := d.redirectOf r
  let u := (d.chan ch).line
  let d := d.takeRead md ch errors redirect (d.unitReads x u (d.chan ch).buffer)
  let c := d.chan ch
  if c.cause.isSome ∨ c.pos < (d.unitReads x u c.buffer).length then d
  else
    let d := d.unitWrites md ch x u c.buffer
    let c := d.chan ch
    let atEnd := decide (d.units x ≤ u + 1)
    let d := d.setChan ch { c with line := u + 1, pos := 0, buffer := [], readsDone := atEnd }
    if atEnd then (d.reportFormat ch x).finishDesc md ch else d

/-- An EMIT's or MIRROR's next read. -/
def Device.readImplicit (d : Device) (md : Mode) (ch : Nat) (errors : ReadErrors) (x : DescRt) (op : Nat) : Device :=
  let u := (d.chan ch).line
  let reads := x.implicitReads op u
  let d := d.takeRead md ch errors id reads
  let c := d.chan ch
  if c.cause.isSome then d
  else if op = 4 then
    (d.setChan ch { c with readsDone := decide (reads.length ≤ c.pos) }).emitPump md ch
  else if c.pos < reads.length then d
  else
    let d := d.setChan ch { c with
      line := u + 1, pos := 0, buffer := [], readsDone := decide (x.bodyLength ≤ (u + 1) * mirrorChunk) }
    d.mirrorSend ch x (u * mirrorChunk) c.buffer

/-- DMA_READ_DATA: a read access of the channel's active descriptor returns data (07 R239 to R241, R248, R256, R257; 05 R178 to
R198; 13 R410; 16 R543). -/
def execDmaReadData (channel : Fin 80) (errors : ReadErrors) (s : State) : Host.Outcome State Fault Refusal :=
  let d := s.dev
  let ch := channel.val
  let c := d.chan ch
  match c.active with
  | some x =>
    if c.cause.isSome ∨ c.readsDone ∨ d.held ch then nextD s d
    else
      match d.itemRecord x.item x.turn with
      | some i =>
        if i.implicit then settle s (d.readImplicit s.mode ch errors x i.opcode)
        else settle s (d.readTransfer s.mode ch errors x (d.findItem x.item x.turn))
      | none => nextD s d
  | none => nextD s d

/-- DMA_WRITE_ACK: the oldest write access of the channel is acknowledged, unless its DRAM channel retrains; the descriptor
finishes with the last one (07 R245, R253, R254; 08 R288). -/
def execDmaWriteAck (channel : Fin 80) (s : State) : Host.Outcome State Fault Refusal :=
  let d := s.dev
  let ch := channel.val
  let c := d.chan ch
  match c.active, c.unacked with
  | some _, a :: rest =>
    if d.held ch ∨ d.retrainingAt a then nextD s d
    else settle s ((d.setChan ch { c with unacked := rest }).finishDesc s.mode ch)
  | _, _ => nextD s d

/-- The address in the descriptor store of an item's descriptor; an implicit one has none (07 R238). -/
def Device.storeAddress (d : Device) (num turn record : Nat) : Option Nat :=
  (d.itemRecord num turn).bind fun i => if i.implicit then none else some ((d.area 4).1 + 64 * (i.first + record))

/-- A record read from the descriptor store, or an item body for an implicit descriptor, and whether it is bad (07 R238, R243,
R256 cause 0x4). -/
def Device.loadRecord (d : Device) (md : Mode) (num turn record : Nat) (readOk : Bool) : List Byte × Bool × Device :=
  match d.itemRecord num turn with
  | none => ([], true, d)
  | some i =>
    if i.implicit then (i.body, !readOk, d)
    else
      let (bs, bad, d) := d.readChecked md .dmaLoader ((d.area 4).1 + 64 * (i.first + record)) 64
      (bs, !readOk || bad.isSome, d)

/-- A wait for the shadow set is counted and reported (07 R246). -/
def Device.countStall (d : Device) (ch num turn record waited : Nat) : Device :=
  let c := d.chan ch
  if c.active.isNone ∧ d.mayRun num turn ∧ 0 < waited then
    let d := (d.bump (Reg.DMA_CH_STALL_cycles ch) waited).wr (Reg.DMA_CH_STATUS_load_stall ch) 1
    if c.stallRaised then d
    else (d.setChan ch { c with stallRaised := true }).raise Ev.DMA_LOAD_STALL (dmaPayload ch 0 num record (min waited 65535))
  else d

/-- DMA_LOAD_COMPLETE: all 64 bytes of the requested descriptor have arrived, or could not be read (readOk); waited is the
number of mesh cycles for which the channel has waited under R246 (07 R243 to R246, R256). None arrive while the record's DRAM
channel retrains (08 R288). -/
def execDmaLoadComplete (channel : Fin 80) (readOk : Bool) (waited : Nat) (s : State) : Host.Outcome State Fault Refusal :=
  let d := s.dev
  let ch := channel.val
  match (d.chan ch).loading with
  | none => nextD s d
  | some (num, turn, record) =>
    if (d.storeAddress num turn record).any d.retrainingAt then nextD s d
    else
      let (bytes, bad, d) := d.loadRecord s.mode num turn record readOk
      let d := d.countStall ch num turn record waited
      let d := d.setChan ch { d.chan ch with loading := none, shadow := some { item := num, turn, record, bytes, bad } }
      settle s (d.trySwap s.mode ch)

/-- The address of the oldest access in flight: a write not yet acknowledged, or else the next read. -/
def Device.inFlight (d : Device) (ch : Nat) (x : DescRt) : Option Nat :=
  let c := d.chan ch
  match c.unacked with
  | a :: _ => some a
  | [] =>
    match d.itemRecord x.item x.turn with
    | some i =>
      let reads := if i.implicit then x.implicitReads i.opcode c.line else d.unitReads x c.line c.buffer
      if c.readsDone then none else (reads[c.pos]?).map Prod.fst
    | none => none

/-- DMA_ACCESS_TIMEOUT: the oldest access in flight has no response within DMA_TIMEOUT (07 R256 cause 0x2). -/
def execDmaAccessTimeout (channel : Fin 80) (s : State) : Host.Outcome State Fault Refusal :=
  let d := s.dev
  match (d.chan channel.val).active.bind fun x => d.inFlight channel.val x with
  | some a => nextD s (d.dmaCause channel.val 2 a)
  | none => nextD s d

/-- MIRROR_ACK_TIMEOUT: the buddy has not acknowledged a MIRROR's bytes within DMA_TIMEOUT (07 R256 cause 0x5). -/
def execMirrorAckTimeout (channel : Fin 80) (s : State) : Host.Outcome State Fault Refusal :=
  let d := s.dev
  match (d.chan channel.val).active with
  | some x =>
    if (match d.itemRecord x.item x.turn with | some i => i.opcode | none => 0) = 5 then
      nextD s (d.dmaCause channel.val 5 x.bodySource)
    else nextD s d
  | none => nextD s d

/-- EMIT_QUEUE_TIMEOUT: the queue still refuses bytes DMA_TIMEOUT after it first refused them (07 R256 cause 0x6). -/
def execEmitQueueTimeout (channel : Fin 80) (s : State) : Host.Outcome State Fault Refusal :=
  let d := s.dev
  let c := d.chan channel.val
  match c.active with
  | some x => if c.refused then nextD s (d.dmaCause channel.val 6 (x.bodySource + c.handed)) else nextD s d
  | none => nextD s d

-- Bad descriptors (07 R257, R262).

/-- The bytes that a unit's reads would return from memory as it stands, with the bytes of read number `flip` inverted. -/
def Device.collect (d : Device) (x : DescRt) (redirect : Nat → Nat) (flip : Nat) : Nat → Nat → List Byte → List Byte
  | 0, _, data => data
  | fuel + 1, pos, data =>
    match (d.unitReads x 0 data)[pos]? with
    | none => data
    | some (a, n) =>
      let bs := d.bytes (redirect a) n
      d.collect x redirect flip fuel (pos + 1) (data ++ (if pos = flip then bs.map fun b => b ^^^ 0xFF else bs))

/-- More reads than a strip or window descriptor makes: each sample reads its table entry and at most four taps. -/
def Device.readBound (d : Device) (x : DescRt) : Nat :=
  let w := d.winOf x
  (d.unitReads x 0 []).length + x.pixels w * w.samples * (1 + 4 * (w.cCount * w.e))

/-- Where a strip descriptor ends bad before its reads are done, each destination word that holds no byte of the failing read
freely holds its previous or its new value (07 R257); a word written is written as any other (08 R274). The reads that have returned
stand in the channel's buffer. -/
def Device.freeStrips (d : Device) (md : Mode) (ch : Nat) (x : DescRt) : Device :=
  let c := d.chan ch
  let redirect := d.redirectOf (d.findItem x.item x.turn)
  let fuel := d.readBound x
  let plain := d.stripsOf x (d.collect x redirect fuel fuel c.pos c.buffer)
  let flipped := d.stripsOf x (d.collect x redirect c.pos fuel c.pos c.buffer)
  let (n, d) := d.tick
  forL (plain.zip flipped).zipIdx (fun ((p, q), k) d =>
    forN (p.2.length / 64) (fun w d =>
      let new := sliceOf p.2 (64 * w) 64
      if new = sliceOf q.2 (64 * w) 64 ∧ Config.stripWordWritten n (k * 2 ^ 32 + w) then (d.dmaStore md ch (p.1 + 64 * w) new).2
      else d) d) d

/-- DMA_DESC_BAD: the accesses already issued have ended; the descriptor is marked bad and recorded, and the channel goes on
(07 R245, R257, R258, R262, R263). -/
def execDmaDescBad (channel : Fin 80) (s : State) : Host.Outcome State Fault Refusal :=
  let d := s.dev
  let ch := channel.val
  let c := d.chan ch
  match c.active, c.cause with
  | some x, some (cause, a) =>
    let d := if x.record ≠ 0xFFFF ∧ ¬ c.readsDone ∧ cause ≠ 4 ∧ d.writesStrips x then d.freeStrips s.mode ch x else d
    let d := d.reportFormat ch x
    let d := (((d.bump (Reg.DMA_CH_COUNT_bad ch) 1).bump Reg.DMA_BAD_TOTAL_descriptors 1).wr (Reg.DMA_CH_STATUS_bad ch) 1).wr
      (Reg.DMA_CH_STATUS_last_cause ch) cause
    let d := if d.rdB (Reg.DMA_CH_BAD_ADDR_HI_valid ch) then d
      else
        (((((d.wr (Reg.DMA_CH_BAD_item ch) x.item).wr (Reg.DMA_CH_BAD_record ch) x.record).wr
          (Reg.DMA_CH_BAD_ADDR_LO_addr_lo ch) a).wr (Reg.DMA_CH_BAD_ADDR_HI_addr_hi ch) (a / 2 ^ 32)).wr
          (Reg.DMA_CH_BAD_ADDR_HI_cause ch) cause).wr (Reg.DMA_CH_BAD_ADDR_HI_valid ch) 1
    let d := d.raise Ev.DMA_DESC_BAD (dmaPayload ch cause x.item x.record 0)
    settle s (d.endDescriptor s.mode ch)
  | _, _ => nextD s d

/-- DMA_BAD_ADDR_LO_READ: the low word is returned and latches the high word (07 R261). -/
def execDmaBadAddrLoRead (channel : Fin 80) (s : State) : Host.Outcome State Fault Refusal :=
  let d := s.dev
  let ch := channel.val
  nextD s (d.readLatching (d.rd (Reg.DMA_CH_BAD_ADDR_LO_addr_lo ch)) (dmaChBase ch + 0x18)
    (d.rd (Reg.DMA_CH_BAD_ADDR_HI_addr_hi ch) + d.rd (Reg.DMA_CH_BAD_ADDR_HI_cause ch) * 2 ^ 16 +
      d.rd (Reg.DMA_CH_BAD_ADDR_HI_valid ch) * 2 ^ 31))

end Sys2Proof.Machine
end

