-- ==== Sys2Proof/Machine/Session.lean ====
section
/-! DEFINITION. Sessions, responses and the service of requests (16 R534 to R542, R555, R557, R558). -/

namespace Sys2Proof.Machine

/-- The health monitor serves: it runs and its watchdog has not expired since the start (13 R433, 16 R523). -/
def Device.hmServes (d : Device) : Bool := d.ev.hmRunning && !(d.proto.restarting.getD 4 false)

-- Codes (16 R541, R542).

/-- State code (16 R541, and 3 RECOVERY of R556). -/
def stateCode : Mode → Nat
  | .off => 0
  | .coldStart => 1
  | .warmStart => 2
  | .recovery => 3
  | .ready => 4
  | .turning => 5
  | .parked => 6
  | .replay => 7
  | .retired => 8

/-- Code of a lock state (01 SP_STATUS). -/
def lockCode : LockState → Nat
  | .free => 0
  | .acquiring => 1
  | .locked => 2
  | .holdover => 3
  | .holdoverExpired => 4

namespace St
def OK : Nat := 0
def VERSION : Nat := 1
def ROLE : Nat := 2
def STATE : Nat := 3
def FORMAT : Nat := 4
def BUSY : Nat := 5
def NO_SPACE : Nat := 6
def REFUSED : Nat := 7
def UNKNOWN_TYPE : Nat := 8
def SESSION : Nat := 9
end St

/-- Largest payload of a message over Ethernet or an application mailbox (16 R535, R557). -/
def maxPayload : Nat := 1048640

-- Messages (16 R534).

/-- Bytes of a message: the 32-byte header and the payload, unfragmented (16 R534). -/
def Message.bytes (m : Message) : List Byte :=
  leBytes 2 0x4D4E ++ [1, 0] ++ leBytes 2 m.msgType ++ leBytes 1 ((if m.push then 4 else if m.request then 0 else 1) + 2) ++ leBytes 1 m.status ++
    leBytes 4 m.payload.length ++ leBytes 4 m.sequence ++ leBytes 8 m.session ++ leBytes 8 0 ++ m.payload


-- The maintenance buffer (16 R555).

/-- Size of the maintenance buffer, and offset of its response half. -/
def maintSize : Nat := 0x2000000
def maintResponse : Nat := 0x1000000

/-- First address of the maintenance buffer: DRAM offset 0 in RECOVERY and BLANK, else behind the event log in the firmware area
(16 R555; the place in that area DESIGN CHOICE, log entry 21). -/
def Device.maintBase (d : Device) (md : Mode) : Nat :=
  if md = .recovery ∨ d.life = 0 then dramBase else (d.area 2).1 + 0x4000000

/-- Bytes of the maintenance buffer from an offset, read by the firmware that serves it (16 R555; 08 R276). -/
def Device.maintRead (d : Device) (md : Mode) (o n : Nat) : List Byte × Device :=
  let (bs, _, d) := d.readChecked md (.component 5) (d.maintBase md + o) n
  (bs, d)

/-- Bytes stored into the maintenance buffer from an offset (16 R555; 08 R278). -/
def Device.maintStore (d : Device) (md : Mode) (o : Nat) (bs : List Byte) : Device :=
  (d.writeChecked md (.component 5) (d.maintBase md + o) bs).2

/-- A response stands in the maintenance buffer: length, ready, no longer busy (16 R555, R556). -/
def Device.maintReply (d : Device) (md : Mode) (m : Message) : Device :=
  let bs := m.bytes
  (((d.maintStore md maintResponse bs).wr Reg.MBX_MAINT_RSP_LEN_length bs.length).wr Reg.MBX_MAINT_STATUS_rsp_ready 1).wr
    Reg.MBX_MAINT_STATUS_busy 0

-- Application mailboxes (16 R557, R558).

/-- Base and half size in bytes of mailbox m's ring (16 R557). -/
def Device.ringOf (d : Device) (m : Nat) : Nat × Nat :=
  (d.rd (Reg.MBX_A_RING_LO_ring_lo m) + d.rd (Reg.MBX_A_RING_HI_ring_hi m) * 2 ^ 32, d.rd (Reg.MBX_A_CFG_size_kib m) * 512)

/-- Bytes in use in the response half: the offsets count on, so their difference is what stands unread. -/
def Device.responseUsed (d : Device) (m : Nat) : Nat :=
  (d.rd (Reg.MBX_A_RSP_WR_offset m) + 2 ^ 32 - d.rd (Reg.MBX_A_RSP_RD_offset m)) % 2 ^ 32

/-- Bytes written round a half ring that begins at an address. -/
def Device.ringWrite (d : Device) (md : Mode) (base half off : Nat) (bs : List Byte) : Device :=
  let first := half - off % half
  let d := d.guardedWrite md .headstock (base + off % half) (bs.take first)
  if bs.length ≤ first then d else d.guardedWrite md .headstock base (bs.drop first)

/-- Bytes read round a half ring by the firmware (08 R269, R276). -/
def Device.ringRead (d : Device) (md : Mode) (base half off n : Nat) : List Byte × Device :=
  let first := min n (half - off % half)
  let (a, _, d) := d.guardedRead md .headstock (base + off % half) first
  let (b, _, d) := d.guardedRead md .headstock base (n - first)
  (a ++ b, d)

/-- Padded length of a message in a ring (16 R557). -/
def padded (n : Nat) : Nat := ceilDiv n 64 * 64

/-- A response is written into a mailbox's ring, or waits for room (16 R557, R558). -/
def Device.appReply (d : Device) (md : Mode) (m : Nat) (bs : List Byte) : Device :=
  let (base, half) := d.ringOf m
  let n := padded bs.length
  if half = 0 then d
  else if (d.proto.appPending.any fun p => p.1 == m) ∨ half < d.responseUsed m + n then
    { d with proto := { d.proto with appPending := d.proto.appPending ++ [(m, bs)] } }
  else
    let wr := d.rd (Reg.MBX_A_RSP_WR_offset m)
    let d := (d.ringWrite md (base + half) half wr (bs ++ List.replicate (n - bs.length) 0)).wr (Reg.MBX_A_RSP_WR_offset m) (wr + n)
    { d with proto := { d.proto with appInterrupts := d.proto.appInterrupts + 1 } }

-- Sessions (16 R537 to R540).

/-- Kind of a path: 0 Ethernet, 1 maintenance, 2 application mailbox. -/
def pathKind : Path → Nat
  | .eth _ _ => 0
  | .maint => 1
  | .app _ => 2
  | .recovery _ => 3
  | .safety => 4

/-- The session of a request: named by its ID and reached over the same path. -/
def Device.sessionOf (d : Device) (h : ReqHdr) : Option Session :=
  d.proto.sessions.find? fun x => x.id == h.session && x.kind == pathKind h.path &&
    (match h.path with
      | .eth _ a => x.address == a
      | .app m => x.mailbox == m.val
      | _ => true)

/-- A session replaced. -/
def Device.setSession (d : Device) (x : Session) : Device :=
  { d with proto := { d.proto with sessions := d.proto.sessions.map fun y => if y.id = x.id ∧ y.kind = x.kind then x else y } }

/-- Sessions that fail a test close. -/
def Device.keepSessions (d : Device) (p : Session → Bool) : Device :=
  { d with proto := { d.proto with sessions := d.proto.sessions.filter p } }

/-- A message is delivered over the path of its request. -/
def Device.deliver (d : Device) (md : Mode) (path : Path) (m : Message) : Device :=
  match path with
  | .maint => (d.post m).maintReply md m
  | .recovery false => (d.post m).maintReply md m
  | .app k => (d.post m).appReply md k.val m.bytes
  | .eth p _ => (d.post m).queueMessage p.val m
  | .recovery true => (d.post m).queueMessage 0 m
  | .safety => d.post m

/-- The response to a request (16 R534, R540). -/
def Device.respond (d : Device) (md : Mode) (h : ReqHdr) (type status : Nat) (payload : List Byte) : Device :=
  d.deliver md h.path { msgType := type, status, session := h.session, sequence := h.sequence, push := false, payload }

/-- The response to a request of a session is delivered and kept for a repetition (16 R540). -/
def Device.respondCached (d : Device) (md : Mode) (h : ReqHdr) (type status : Nat) (payload : List Byte) : Device :=
  let d := match d.sessionOf h with
    | some x => d.setSession { x with lastSeq := some h.sequence, cached := payload, cachedStatus := status, cachedType := type }
    | none => d
  d.respond md h type status payload

/-- A waiting request is the one of a header. -/
def Request.isOf (r : Request) (h : ReqHdr) : Bool := r.path == h.path && r.sequence == h.sequence && r.session == h.session

/-- A complete request waits for its execution (16 R540). -/
def Device.addReady (d : Device) (r : Request) : Device := { d with proto := { d.proto with ready := d.proto.ready ++ [r] } }

/-- The response half of a mailbox is full, or a response waits for room in it (16 R558). -/
def Device.mailboxFull (d : Device) (m : Nat) : Bool :=
  (d.proto.appPending.any fun p => p.1 == m) || decide ((d.ringOf m).2 ≠ 0 ∧ (d.ringOf m).2 ≤ d.responseUsed m)

/-- The requests of a path are held: those of a mailbox whose response half is full (16 R558). -/
def Device.holds (d : Device) (p : Path) : Bool :=
  match p with
  | .app m => d.mailboxFull m.val
  | _ => false

/-- The request whose turn it is: the first of those that wait and are not held (16 R540, R558). -/
def Device.nextReady (d : Device) : Option Request := d.proto.ready.find? fun r => !d.holds r.path

/-- A request's turn has come: it is not held, and no other complete request waits before it (16 R540, R558). -/
def Device.inTurn (d : Device) (h : ReqHdr) : Bool := !d.holds h.path && d.nextReady.all fun r => r.isOf h

/-- A complete request leaves the line of waiting ones as its execution begins (16 R540). -/
def Device.takeReady (d : Device) (h : ReqHdr) : Device :=
  { d with proto := { d.proto with
    ready := match d.nextReady with
      | some r => if r.isOf h then d.proto.ready.erase r else d.proto.ready
      | none => d.proto.ready } }

/-- A request is discarded without a response: a maintenance port that has waited for it is no longer busy (16 R540, R556). -/
def Device.discard (d : Device) (h : ReqHdr) : Device :=
  match h.path with
  | .maint | .recovery false => (d.takeReady h).wr Reg.MBX_MAINT_STATUS_busy 0
  | _ => d.takeReady h

/-- The mailbox service runs (16 R526). -/
def Device.serviceUp (d : Device) : Bool := d.boot.firmwareUp && !(d.proto.restarting.getD 5 false)

/-- Requests on a path are served (16 R491, R526, R555, R557; 15 R495). -/
def State.served (s : State) (p : Path) : Bool :=
  let d := s.dev
  let svc := d.serviceUp
  match p with
  | .eth q _ => svc && d.carries q.val 0
  | .maint => d.boot.maintServed && (svc || s.mode == .recovery || d.life == 0)
  | .app m => svc && d.boot.applicationUp && d.rdB (Reg.MBX_A_CFG_enable m.val)
  | .recovery t1 => s.mode == .recovery && (t1 || d.boot.maintServed)
  | .safety => svc

/-- A request is executed now: its path is served, and its turn has come (16 R540). -/
def State.takes (s : State) (h : ReqHdr) : Bool := s.served h.path && s.dev.inTurn h

/-- Roles: manager 1, observer 2, application 3 (16 R537, R538). -/
def roleM : List Nat := [1]
def roleMO : List Nat := [1, 2]
def roleAll : List Nat := [1, 2, 3]

/-- What the service decides of a request before its type's own rules (16 R538 to R542). -/
inductive Service where
  /-- It is not served, it is held, or another request comes before it: nothing happens. -/
  | ignored
  /-- It is discarded without a response. -/
  | discarded
  /-- It is refused with a status that is not kept. -/
  | refused (status : Nat)
  /-- Its response is repeated. -/
  | again (x : Session)
  /-- It is executed, with its status decided already when its role or state does not allow it. -/
  | run (status : Nat)
  deriving DecidableEq, Repr

/-- Service of a request of a session-bound type with its roles and states (16 R539 to R541). -/
def State.service (s : State) (h : ReqHdr) (roles : List Nat) (allowed : Mode → Bool) : Service :=
  if ¬ s.takes h then .ignored
  else if s.mode = .recovery ∨ s.dev.life = 0 then .refused St.STATE
  else
    match s.dev.sessionOf h with
    | none => .refused St.SESSION
    | some x =>
      if h.major ≠ 1 then .refused St.VERSION
      else
        let fresh : Bool := match x.lastSeq with | some n => decide (n < h.sequence) | none => true
        if x.lastSeq = some h.sequence then .again x
        else if ¬ fresh then .discarded
        else if ¬ roles.contains x.role then .run St.ROLE
        else if ¬ allowed s.mode then .run St.STATE
        else .run St.OK

/-- A request is served: `body` gives the status, the response's payload and the state when its role and state allow it. -/
def State.serve (s : State) (h : ReqHdr) (type : Nat) (roles : List Nat) (allowed : Mode → Bool)
    (body : State → Nat × List Byte × State) : State :=
  let s' := { s with dev := s.dev.takeReady h }
  match s.service h roles allowed with
  | .ignored => s
  | .discarded => { s with dev := s.dev.discard h }
  | .refused st => { s' with dev := s'.dev.respond s.mode h type st [] }
  | .again x => { s' with dev := s'.dev.respond s.mode h x.cachedType x.cachedStatus x.cached }
  | .run st =>
    if st ≠ St.OK then { s' with dev := s'.dev.respondCached s.mode h type st [] }
    else
      match body s' with
      | (st, payload, t) => { t with dev := t.dev.respondCached t.mode h type st payload }

/-- States allowed to a type (16 R541). -/
def anyState (_ : Mode) : Bool := true
def inReadyParked (m : Mode) : Bool := m == .ready || m == .parked
def inParked (m : Mode) : Bool := m == .parked

end Sys2Proof.Machine
end

