-- ==== Sys2Proof/Machine/Protocol.lean ====
section
/-! DEFINITION. The session messages and the job messages: OPEN to EVENT_SUBSCRIBE (16 R537 to R542), the acceptance of a start (01
R30, R31; 06 R224) and the session time-outs (16 R536, R539). -/

namespace Sys2Proof.Machine

-- OPEN (16 R537, R538).

/-- Ethernet sessions that are open. -/
def Device.ethSessions (d : Device) : List Session := d.proto.sessions.filter fun x => x.kind == 0

/-- Roles of a host entry for an address; none when the host table does not name it (16 R533, R538). -/
def Device.hostRoles (d : Device) (address : Nat) : Option Nat := (d.fpHosts.find? fun h => h.1 == address).map Prod.snd

/-- Role that an OPEN gets over a path, or the status with which it is refused (16 R537, R538). -/
def Device.openRole (d : Device) (path : Path) (role : Nat) : Nat ⊕ Nat :=
  match path with
  | .eth _ a =>
    let roles := (d.hostRoles a).getD 0
    if role = 1 ∧ bitAt roles 0 then
      if d.ethSessions.any (fun x => x.role == 1) ∨ 8 ≤ d.ethSessions.length then .inr St.BUSY else .inl 1
    else if role = 2 ∧ bitAt roles 1 then (if 8 ≤ d.ethSessions.length then .inr St.BUSY else .inl 2)
    else .inr St.ROLE
  | .app _ => .inl 3
  | _ => .inl 1

/-- A session opens: its ID is drawn, and the response tells its terms (16 R537). A maintenance or mailbox session replaces the
one before it (DESIGN CHOICE, log entry 33). -/
def Device.newSession (d : Device) (md : Mode) (h : ReqHdr) (role : Nat) : Device :=
  let (n, d) := d.tick
  let kind := pathKind h.path
  let (mailbox, port, address) := match h.path with
    | .app m => (m.val, 0, 0)
    | .eth p a => (0, p.val, a)
    | _ => (0, 0, 0)
  let x : Session := {
    id := (Config.draw n).toNat, kind, mailbox, port, address, role, minor := 0, lastSeq := none, cached := []
    cachedStatus := 0, cachedType := 1, subscribe := none }
  let d := if kind = 0 then d else d.keepSessions fun y => !(y.kind == kind && y.mailbox == mailbox)
  let d := { d with proto := { d.proto with sessions := d.proto.sessions ++ [x] } }
  let payload := leBytes 1 1 ++ leBytes 1 0 ++ leBytes 1 role ++ leBytes 1 0 ++ leBytes 4 10000 ++ leBytes 2 0x3280 ++
    leBytes 2 d.self ++ leBytes 4 maxPayload
  d.deliver md h.path { msgType := 1, status := St.OK, session := x.id, sequence := h.sequence, push := false, payload }

/-- OPEN (16 R537, R538). -/
def execOpenSession (hdr : ReqHdr) (minMajor maxMajor _maxMinor role : Nat) (s : State) : Host.Outcome State Fault Refusal :=
  let d := s.dev.takeReady hdr
  if ¬ s.takes hdr then .next s
  else if s.mode = .recovery ∨ d.life = 0 then nextD s (d.respond s.mode hdr 1 St.STATE [])
  else
    let absent : Bool := match hdr.path with | .eth _ a => (d.hostRoles a).isNone | _ => false
    if absent then
      let (p, a) := match hdr.path with | .eth p a => (p.val, a) | _ => (0xFF, 0)
      nextD s ((d.bump Reg.ETH_SESSIONS_refused 1).raise Ev.SESSION_REFUSED (fwPayload p 5 (a / 2 ^ 96 % 2 ^ 32)))
    else
      let refuse (st : Nat) : Device :=
        (if pathKind hdr.path = 0 then d.bump Reg.ETH_SESSIONS_refused 1 else d).respond s.mode hdr 1 st []
      if 1 < minMajor ∨ maxMajor < 1 then nextD s (refuse St.VERSION)
      else
        match d.openRole hdr.path role with
        | .inl r => nextD s (d.newSession s.mode hdr r)
        | .inr st => nextD s (refuse st)

/-- CLOSE: the response, and the session is no more (16 R539). -/
def execCloseSession (hdr : ReqHdr) (s : State) : Host.Outcome State Fault Refusal :=
  let t := s.serve hdr 2 roleAll anyState fun s => (St.OK, [], s)
  match s.service hdr roleAll anyState with
  | .run 0 => nextD t (t.dev.keepSessions fun x => !(x.id == hdr.session && x.kind == pathKind hdr.path))
  | _ => .next t

/-- KEEPALIVE (16 R541). -/
def execKeepalive (hdr : ReqHdr) (s : State) : Host.Outcome State Fault Refusal :=
  .next (s.serve hdr 3 roleAll anyState fun s => (St.OK, [], s))

-- STATUS (16 R541).

/-- plan_id of the active plan; zero when none is active. -/
def Device.planId (d : Device) : Nat := d.rdPair Reg.NE_PLAN_ACTIVE_LO_plan_id_lo Reg.NE_PLAN_ACTIVE_HI_plan_id_hi

/-- Payload of the STATUS response (16 R541). -/
def State.statusPayload (s : State) : List Byte :=
  let d := s.dev
  leBytes 1 (stateCode s.mode) ++ leBytes 1 (lockCode d.sp.lock) ++ leBytes 2 d.self ++ leBytes 4 d.turn ++ leBytes 2 d.index ++
    leBytes 1 d.upd.state ++ leBytes 1 0 ++ leBytes 8 d.planId ++ leBytes 4 (d.rd Reg.HS_STATUS_start_ms) ++ leBytes 8 d.ev.written

/-- STATUS (16 R541). -/
def execStatus (hdr : ReqHdr) (s : State) : Host.Outcome State Fault Refusal :=
  .next (s.serve hdr 0x10 roleAll anyState fun s => (St.OK, s.statusPayload, s))

-- START and STOP (16 R541, R542; 00 R6; 01 R30, R31; 06 R224).

/-- Payload of the START response. -/
def startPayload (result first : Nat) : List Byte := leBytes 1 result ++ leBytes 3 0 ++ leBytes 4 first

/-- A start command that is taken waits until the constants are written (06 R224); one that the hardware refuses is answered at
once (08 R286, 14 R475). -/
def Device.takeStart (d : Device) (md : Mode) (h : ReqHdr) (startTurn : Word) (useStartTurn : Bool) : Device :=
  let d := (d.wr Reg.SP_START_TURN_start_turn startTurn.toNat).wr Reg.SP_START_LEAD_use_start_turn (b2n useStartTurn)
  let r := d.startResult
  if r = 4 ∨ r = 5 then d.respondCached md h 0x11 St.REFUSED (startPayload r 0)
  else { d with seq := { d.seq with starting := some h } }

/-- START: while another start waits, a second one is BUSY, and the same one repeated is already under way. -/
def execStart (hdr : ReqHdr) (startTurn : Word) (useStartTurn : Bool) (s : State) : Host.Outcome State Fault Refusal :=
  match s.service hdr roleM inReadyParked, s.dev.seq.starting with
  | .run 0, none => nextD s ((s.dev.takeReady hdr).takeStart s.mode hdr startTurn useStartTurn)
  | .run 0, some h => if h = hdr then nextD s (s.dev.takeReady hdr) else .next (s.serve hdr 0x11 roleM inReadyParked fun s => (St.BUSY, [], s))
  | _, _ => .next (s.serve hdr 0x11 roleM inReadyParked fun s => (St.OK, [], s))

/-- CONSTANTS_WRITTEN: the start is accepted, or refused (06 R224; 01 R30, R31; 16 R542). -/
def execConstantsWritten (s : State) : Host.Outcome State Fault Refusal :=
  match s.dev.seq.starting with
  | none => .next s
  | some h =>
    if ¬ inReadyParked s.mode then .next s
    else
      let d := s.dev.writeConstants s.mode
      let r := d.startResult
      if r = 0 then
        let d := d.acceptStart
        .next { s with mode := .turning, dev := d.respondCached .turning h 0x11 St.OK (startPayload 0 (d.seq.jobFirst.getD 0)) }
      else
        let d := { d with seq := { d.seq with starting := none } }.raiseIf (decide (r ≤ 3)) Ev.START_REFUSED r
        nextD s (d.respondCached s.mode h 0x11 St.REFUSED (startPayload r 0))

/-- A stop command in TURNING: the turn in progress is the job's last (00 R6). -/
def Device.stopJob (d : Device) : Device := { d with seq := { d.seq with stopping := true } }

/-- STOP (16 R541, 00 R6). -/
def execStop (hdr : ReqHdr) (s : State) : Host.Outcome State Fault Refusal :=
  .next (s.serve hdr 0x12 roleM (fun m => m == .turning) fun s => (St.OK, leBytes 4 s.dev.turn, { s with dev := s.dev.stopJob }))

-- RESTART (16 R541).

/-- States from which a restart may be requested (16 R541). -/
def inRestart (m : Mode) : Bool := m == .ready || m == .parked || m == .retired

/-- The response precedes the restart (16 R541). -/
def State.restart (s : State) (h : ReqHdr) (go : State → State) : State :=
  let t := s.serve h 0x13 roleM inRestart fun s => (St.OK, [], s)
  match s.service h roleM inRestart with
  | .run 0 => go t
  | _ => t

/-- RESTART_WARM (16 R541, 15 R518). -/
def execRestartWarm (hdr : ReqHdr) (s : State) : Host.Outcome State Fault Refusal := .next (s.restart hdr State.requestWarm)

/-- RESTART_COLD (16 R541). -/
def execRestartCold (hdr : ReqHdr) (s : State) : Host.Outcome State Fault Refusal := .next (s.restart hdr State.requestCold)

-- Events (13 R411, R415; 16 R541).


/-- Payload of an EVENT_READ response (16 R541). -/
def Events.readPayload (ev : Events) (first count : Nat) : List Byte :=
  let oldest := ev.written - ev.log.length
  let from_ := max first oldest
  let got := ((ev.log.reverse).drop (from_ - oldest)).take count
  leBytes 8 from_ ++ leBytes 2 got.length ++ leBytes 6 0 ++ got.flatMap EventRec.bytes

/-- EVENT_READ (16 R541). -/
def execEventRead (hdr : ReqHdr) (first count : Nat) (s : State) : Host.Outcome State Fault Refusal :=
  .next (s.serve hdr 0x20 roleAll anyState fun s =>
    if 1 ≤ count ∧ count ≤ 1024 then (St.OK, s.dev.ev.readPayload first count, s) else (St.FORMAT, [], s))

/-- EVENT_SUBSCRIBE (16 R541). -/
def execEventSubscribe (hdr : ReqHdr) (severity : Nat) (s : State) : Host.Outcome State Fault Refusal :=
  .next (s.serve hdr 0x21 roleAll anyState fun s =>
    match s.dev.sessionOf hdr with
    | some x =>
      if severity ≤ 4 then (St.OK, [], { s with dev := s.dev.setSession { x with subscribe := some severity } })
      else if severity = 0xFF then (St.OK, [], { s with dev := s.dev.setSession { x with subscribe := none } })
      else (St.FORMAT, [], s)
    | none => (St.SESSION, [], s))

/-- UNKNOWN_TYPE: in every state, RECOVERY and BLANK included, where no session is open (16 R541). -/
def execUnknownType (hdr : ReqHdr) (msgType : Nat) (s : State) : Host.Outcome State Fault Refusal :=
  if s.takes hdr ∧ (s.mode = .recovery ∨ s.dev.life = 0) then
    nextD s ((s.dev.takeReady hdr).respond s.mode hdr msgType St.UNKNOWN_TYPE [])
  else .next (s.serve hdr msgType roleAll anyState fun s => (St.UNKNOWN_TYPE, [], s))

-- Time-outs.

/-- SESSION_IDLE_TIMEOUT (16 R539, R560). -/
def execSessionIdleTimeout (session : Nat) (s : State) : Host.Outcome State Fault Refusal :=
  let d := s.dev
  match d.proto.sessions.find? (fun x => x.id == session) with
  | none => .next s
  | some x =>
    let where_ := if x.kind = 1 then 0x20 else if x.kind = 2 then 0x10 + x.mailbox else x.port
    nextD s ((d.keepSessions fun y => !(y.id == session && y.kind == x.kind)).raise Ev.SESSION_EXPIRED (fwPayload where_ 5 0))

/-- REASSEMBLY_TIMEOUT (16 R536). -/
def execReassemblyTimeout (session sequence : Nat) (s : State) : Host.Outcome State Fault Refusal :=
  let d := s.dev
  match d.proto.reassembly.find? (fun r => r.hdr.session == session && r.hdr.sequence == sequence) with
  | none => .next s
  | some r =>
    nextD s ({ d with proto := { d.proto with reassembly := d.proto.reassembly.erase r } }.bump (Reg.ETH_PORT_DROP_reassembly r.port) 1)

end Sys2Proof.Machine
end

