-- ==== Sys2Proof/Machine/Safety.lean ====
section
/-! DEFINITION. The safety port: its window, its frames and their CRC (16 R552 to R554; 00 R6). -/

namespace Sys2Proof.Machine

/-- Fields of a severe event's slot: the latest event k of severity 3 or 4 with k mod 96 = j (16 R554). -/
def Events.severeSlot (ev : Events) (j : Nat) : List Byte :=
  if ev.severeCount ≤ j then List.replicate 16 0
  else
    -- Distance of event k from the newest one, whose number is severeCount − 1.
    match ev.severe[(ev.severeCount - 1 + 96 - j) % 96]? with
    | some e => e.bytes
    | none => List.replicate 16 0

/-- The turn health record that stands in a slot of the window (16 R554). -/
def Safety.recordSlot (x : Safety) (j : Nat) : List Byte :=
  match x.records.find? (fun r => r.1 % 8 == j) with
  | some r => sliceOf r.2 0 32
  | none => List.replicate 32 0

/-- The word of the window at a word-aligned offset, as its four bytes in address order (16 R554). Member code and device ID
stand behind the magic (DEDUCED, log entry 35). -/
def State.windowWord (s : State) (o : Nat) : List Byte :=
  let d := s.dev
  let x := d.safety
  if o = 0x000 then [0x4E, 0x4B, 0x53, 0x57]
  else if o = 0x004 then leBytes 2 0x3280 ++ leBytes 2 d.self
  else if o = 0x010 then leBytes 1 (stateCode s.mode) ++ leBytes 1 (lockCode d.sp.lock) ++ leBytes 1 d.life ++ [0x01]
  else if o = 0x014 then leBytes 4 x.alive.toNat
  else if o = 0x018 then leBytes 4 d.turn
  else if o = 0x01C then leBytes 4 x.lastTurn
  else if o = 0x040 then leBytes 4 d.ev.severeCount
  else if o = 0x044 then leBytes 4 d.ev.written
  else if 0x100 ≤ o ∧ o < 0x200 then sliceOf (x.recordSlot ((o - 0x100) / 32)) (o % 32) 4
  else if 0x200 ≤ o ∧ o < 0x800 then sliceOf (d.ev.severeSlot ((o - 0x200) / 16)) (o % 16) 4
  else if o = 0x804 then leBytes 4 x.response.toNat
  else if o = 0x814 then leBytes 4 x.lastStatus
  else List.replicate 4 0

/-- SAFETY_READ_FRAME: the words and the CRC over the frame (16 R552, R553). The window is served while the health monitor
runs (log entry 35). -/
def execSafetyReadFrame (offset count : Nat) (s : State) : Host.Outcome State Fault Refusal :=
  let o := offset % 4096 / 4 * 4
  if ¬ s.dev.ev.hmRunning ∨ count = 0 ∨ 64 < count then nextD s { s.dev with bus := {} }
  else
    let data := (List.range count).flatMap fun i => s.windowWord ((o + 4 * i) % 4096)
    let frame := leBytes 1 3 ++ beBytes 2 offset ++ leBytes 1 count ++ data
    nextD s { s.dev with bus := { data := data ++ beBytes 2 (crc16 frame) } }

/-- A frame is ignored and counted; the end of the turn reports how many were (16 R553, R560). -/
def Device.ignoreFrame (d : Device) : Device := { d with safety := { d.safety with ignored := d.safety.ignored + 1 } }

/-- Offset and words of a write frame, when its CRC holds and every word lies in the command area: the challenge at 0x800 and
the stop request at 0x810 (16 R552 to R554). -/
def safetyFrame (frame : List Byte) : Option (Nat × List Nat) :=
  let n := fieldOf frame 3 1
  let o := beNat (sliceOf frame 1 2) % 4096
  let body := sliceOf frame 0 (4 + 4 * n)
  let words := (List.range n).map fun i => fieldOf body (4 + 4 * i) 4
  if frame.length = 6 + 4 * n ∧ fieldOf frame 0 1 = 2 ∧ 1 ≤ n ∧ n ≤ 64 ∧ o % 4 = 0 ∧
      beNat (sliceOf frame (4 + 4 * n) 2) = crc16 body ∧ (List.range n).all (fun i => [0x800, 0x810].contains (o + 4 * i))
  then some (o, words) else none

/-- A stop request (16 R554): a bad value, the wrong state, or STOP. -/
def Device.safetyStop (d : Device) (md : Mode) (v : Nat) : Device :=
  let status (n : Nat) (d : Device) : Device := { d with safety := { d.safety with lastStatus := n } }
  if v ≠ 0x53544F50 then status 1 d
  else if md ≠ .turning then status 2 d
  else (status 0 d.stopJob).raise Ev.SAFETY_STOP (fwPayload 0x30 5 0)

/-- A word written into the command area. A stop request is executed in the order of the requests: while others wait, it joins their
line (16 R540). -/
def Device.safetyWord (d : Device) (md : Mode) (o v : Nat) : Device :=
  if o = 0x800 then
    let w := BitVec.ofNat 32 v
    { d with safety := { d.safety with challenge := w, response := ~~~w, lastStatus := 0 } }
  else if d.proto.ready = [] then d.safetyStop md v
  else d.addReady { path := .safety, msgType := 0, major := 1, minor := 0, sequence := 0, session := 0, payload := leBytes 4 v }

/-- A stop request whose turn has come is executed (16 R540, R554). -/
def Device.waitingStop (d : Device) (md : Mode) : Device :=
  match d.nextReady with
  | some r =>
    if r.path = .safety then
      { d with proto := { d.proto with ready := d.proto.ready.erase r } }.safetyStop md (fieldOf r.payload 0 4)
    else d
  | none => d

/-- A write frame (16 R552 to R554). -/
def Device.safetyWrite (d : Device) (md : Mode) (frame : List Byte) : Device :=
  if ¬ d.hmServes then d
  else
    match safetyFrame frame with
    | none => d.ignoreFrame
    | some (o, words) => forL words.zipIdx (fun (v, i) d => d.safetyWord md (o + 4 * i) v) d

/-- SAFETY_CHALLENGE (16 R554). -/
def execSafetyChallenge (frame : List Byte) (s : State) : Host.Outcome State Fault Refusal :=
  nextD s (s.dev.safetyWrite s.mode frame)

/-- SAFETY_STOP_REQUEST (16 R554; 00 R6). -/
def execSafetyStopRequest (frame : List Byte) (s : State) : Host.Outcome State Fault Refusal :=
  nextD s (s.dev.safetyWrite s.mode frame)

/-- SAFETY_ALIVE_TICK (16 R554), at which the mailbox service also takes up a stop request whose turn has come (16 R540; DESIGN
CHOICE, log entry 35). -/
def execSafetyAliveTick (s : State) : Host.Outcome State Fault Refusal :=
  let d := s.dev
  let d := if d.hmServes then { d with safety := { d.safety with alive := d.safety.alive + 1 } } else d
  nextD s (if d.serviceUp then d.waitingStop s.mode else d)

end Sys2Proof.Machine
end

