-- ==== Sys2Proof/Machine/Health.lean ====
section
/-! DEFINITION. The health monitor: the event log, pushes to subscribers, turn health records and watchdogs (13 R411 to R415,
R431 to R433; 16 R525, R526, R541). -/

namespace Sys2Proof.Machine

-- The event log (13 R414, R415; 16 R541, R554).

/-- A record moved into the log, and into the ring of severe events of the safety window (13 R415; 16 R554). -/
def Events.write (ev : Events) (e : EventRec) : Events :=
  let ev := { ev with log := (e :: ev.log).take logCap, written := ev.written + 1, newestTurn := e.turn }
  if 3 ≤ e.severity then { ev with severe := (e :: ev.severe).take 96, severeCount := ev.severeCount + 1 } else ev


/-- EVENT_PUSH of the newest record to a subscriber (16 R541). -/
def Device.pushEvent (d : Device) (md : Mode) (x : Session) : Device :=
  let m : Message := { msgType := 0x22, status := 0, session := x.id, sequence := 0, push := true
                       payload := d.ev.readPayload (d.ev.written - 1) 1 }
  if x.kind = 2 then (d.post m).appReply md x.mailbox m.bytes
  else if x.kind = 0 then (d.post m).queueMessage x.port m
  else d.post m

/-- EVENT_PUSH to every session that subscribes to the record's severity. -/
def Device.pushAll (d : Device) (md : Mode) (severity : Nat) : Device :=
  forL (d.proto.sessions.filter fun x => match x.subscribe with | some n => decide (n ≤ severity) | none => false)
    (fun x d => d.pushEvent md x) d

/-- Discarded records are reported as soon as the queue has room (13 R414). -/
def Device.reportLost (d : Device) : Device :=
  if d.ev.lost = 0 then d
  else { d with ev := { d.ev with lost := 0 } }.raise Ev.EVENT_QUEUE_OVERFLOW (d.ev.lost % 2 ^ 32)

/-- LOG_RECORD_MOVE (13 R414, R415). -/
def execLogRecordMove (s : State) : Host.Outcome State Fault Refusal :=
  let d := s.dev
  match d.ev.queue with
  | [] => .next s
  | e :: rest =>
    if ¬ d.hmServes then .next s
    else
      let d := ({ d with ev := { d.ev with queue := rest }.write e }.storeRecord s.mode e).reportLost
      nextD s (d.pushAll s.mode e.severity)

-- Turn health records (13 R431; 16 R554).

/-- Flags of a turn health record (13 R431). -/
def Device.healthFlags (d : Device) (md : Mode) (e : EndedTurn) : Nat :=
  b2n e.failedOver + 2 * b2n d.fo.lost + 4 * b2n d.fo.degraded + 8 * b2n e.overrun + 16 * b2n e.redone + 32 * b2n (md == .retired) +
    64 * d.rd Reg.PERT_STATUS_open + 128 * b2n (d.sp.lock != .locked)

/-- The 32 bytes of a turn health record (13 R431). -/
def Device.healthRecord (d : Device) (md : Mode) (e : EndedTurn) : List Byte :=
  leBytes 1 1 ++ leBytes 1 (d.healthFlags md e) ++ leBytes 2 (match d.fo.lostDevice with | some k => 0x8000 + k % 512 | none => 0) ++
    leBytes 4 e.turn ++ leBytes 2 (min e.late 65535) ++ leBytes 2 (min e.maxLate 65535) ++ leBytes 2 e.lastDone ++
    leBytes 1 d.fo.cause ++ leBytes 1 0 ++ leBytes 8 e.written ++ leBytes 8 0

/-- TURN_HEALTH_RECORD: the record of the turn that has ended is written, then offset 0x01C (13 R431; 16 R554). -/
def execTurnHealthRecord (s : State) : Host.Outcome State Fault Refusal :=
  let d := s.dev
  match d.safety.ended with
  | none => .next s
  | some e =>
    if ¬ d.hmServes then .next s
    else
      let x := d.safety
      let keep := x.records.filter fun r => r.1 % 8 != e.turn % 8
      nextD s { d with safety := { x with ended := none, lastTurn := e.turn, records := (e.turn, d.healthRecord s.mode e) :: keep } }

-- Watchdogs (13 R432, R433; 16 R525, R526).

/-- A component is being restarted; a restart of the mailbox service closes every session and discards every message in
reassembly (13 R432; 16 R526). -/
def Device.restartComponent (d : Device) (id : Nat) : Device :=
  let d := { d with proto := { d.proto with restarting := lset d.proto.restarting id true } }
  if id = 5 then { d with proto := { d.proto with sessions := [], reassembly := [] } } else d

/-- The health monitor's watchdog expires (13 R433; 17 R581). -/
def State.hmExpires (s : State) : State :=
  match s.mode with
  | .off | .recovery => s
  | .coldStart | .warmStart => s.requestCold
  | .turning =>
    let d := { s.dev with
      proto := { s.dev.proto with restarting := lset s.dev.proto.restarting 4 true }
      pins := { s.dev.pins with safeAlert := true } }
    let r := (d.meet 6).settleAt s.mode
    { s with mode := r.1, dev := r.2 }
  | .ready | .parked | .replay | .retired => s.requestWarm

/-- HM_WATCHDOG_EXPIRY (13 R433). -/
def execHmWatchdogExpiry (s : State) : Host.Outcome State Fault Refusal := .next s.hmExpires

/-- WATCHDOG_EXPIRY of a component that the health monitor watches (13 R432; 16 R523). -/
def execWatchdogExpiry (component : Fin 8) (s : State) : Host.Outcome State Fault Refusal :=
  let d := s.dev
  if ¬ d.hmServes ∨ component.val = 0 then .next s
  else if component.val = 4 then .next s.hmExpires
  else nextD s ((d.restartComponent component.val).raise Ev.WATCHDOG_RESTART component.val)

end Sys2Proof.Machine
end

