-- ==== Sys2Proof/Machine/Mailbox.lean ====
section
/-! DEFINITION. Requests that reach the mailbox service through the application mailboxes (16 R557, R558). -/

namespace Sys2Proof.Machine

/-- The request that a message's bytes hold (16 R534). -/
def requestOf (path : Path) (bs : List Byte) : Request :=
  { path, msgType := fieldOf bs 4 2, major := fieldOf bs 2 1, minor := fieldOf bs 3 1, sequence := fieldOf bs 12 4
    session := fieldOf bs 16 8, payload := sliceOf bs 32 (fieldOf bs 8 4) }

/-- Header of a request. -/
def Request.hdr (r : Request) : ReqHdr :=
  { path := r.path, major := r.major, minor := r.minor, sequence := r.sequence, session := r.session }


/-- The magic of a message (16 R534). -/
def hasMagic (bs : List Byte) : Bool := sliceOf bs 0 2 == [0x4E, 0x4D]

/-- Requests are read from a mailbox while its response half has room for their answers (16 R557, R558). What is no message, or
exceeds a limit, is answered with FORMAT, and everything written so far is passed over. -/
def Device.readMailbox (d : Device) (md : Mode) (m : Fin 4) : Nat → Device
  | 0 => d
  | fuel + 1 =>
    let k := m.val
    let (base, half) := d.ringOf k
    let rd := d.rd (Reg.MBX_A_REQ_RD_offset k)
    let avail := (d.rd (Reg.MBX_A_REQ_WR_offset k) + 2 ^ 32 - rd) % 2 ^ 32
    if half = 0 ∨ avail < 64 ∨ d.mailboxFull k then d
    else
      let (head, d) := d.ringRead md base half rd 32
      let len := fieldOf head 8 4
      let r := requestOf (.app m) head
      if ¬ hasMagic head ∨ maxPayload < len ∨ half < padded (32 + len) then
        (d.wr (Reg.MBX_A_REQ_RD_offset k) (d.rd (Reg.MBX_A_REQ_WR_offset k))).respond md r.hdr r.msgType St.FORMAT []
      else if avail < padded (32 + len) then d
      else
        let (bs, d) := d.ringRead md base half rd (32 + len)
        let d := d.addReady (requestOf (.app m) bs)
        (d.wr (Reg.MBX_A_REQ_RD_offset k) (rd + padded (32 + len))).readMailbox md m fuel

/-- A mailbox is served: enabled, with the service and the application cluster up. -/
def State.mailboxUp (s : State) (m : Fin 4) : Bool := s.served (.app m)

/-- Requests of a mailbox are read as far as they stand. -/
def State.drainMailbox (s : State) (m : Fin 4) (d : Device) : Device :=
  if s.mailboxUp m then d.readMailbox s.mode m 16384 else d

/-- A write of MBX_Am_REQ_WR (16 R557). -/
def State.mailboxRequest (s : State) (m : Fin 4) (v : Nat) : Device :=
  s.drainMailbox m (s.dev.wr (Reg.MBX_A_REQ_WR_offset m.val) v)

/-- APP_MAILBOX_REQUEST: an advance of MBX_Am_REQ_WR (16 R557). -/
def execAppMailboxRequest (m : Fin 4) (reqWr : Word) (s : State) : Host.Outcome State Fault Refusal :=
  nextD s (s.mailboxRequest m reqWr.toNat)

/-- The session of a mailbox closes, with what waits in it (16 R558). -/
def Device.closeMailbox (d : Device) (m : Fin 4) : Device :=
  let d := d.keepSessions fun x => !(x.kind == 2 && x.mailbox == m.val)
  { d with proto := { d.proto with
    ready := d.proto.ready.filter fun r => r.path != .app m, appPending := d.proto.appPending.filter fun p => p.1 != m.val } }

/-- A write of MBX_Am_CFG: clearing enable closes the session (16 R558). -/
def Device.configMailbox (d : Device) (m : Fin 4) (v : Nat) : Device :=
  let d := (d.wr (Reg.MBX_A_CFG_enable m.val) (bitsOf v 31 31)).wr (Reg.MBX_A_CFG_size_kib m.val) (bitsOf v 15 0)
  if bitAt v 31 then d else d.closeMailbox m

/-- APP_MAILBOX_CFG_WRITE (16 R558). -/
def execAppMailboxCfgWrite (m : Fin 4) (value : Word) (s : State) : Host.Outcome State Fault Refusal :=
  nextD s (s.dev.configMailbox m value.toNat)

/-- Responses that wait are written while they fit (16 R558). -/
def Device.flushMailbox (d : Device) (md : Mode) (m : Fin 4) : Nat → Device
  | 0 => d
  | fuel + 1 =>
    match d.proto.appPending.find? (fun p => p.1 == m.val) with
    | none => d
    | some (k, bs) =>
      if (d.ringOf k).2 < d.responseUsed k + padded bs.length then d
      else
        -- The oldest waiting response leaves the line, and those behind it stand aside while it is written.
        let rest := d.proto.appPending.erase (k, bs)
        let d := { d with proto := { d.proto with appPending := rest.filter fun p => p.1 != k } }.appReply md k bs
        ({ d with proto := { d.proto with appPending := rest } }).flushMailbox md m fuel

/-- A write of MBX_Am_RSP_RD: what was held goes on (16 R558). -/
def State.mailboxFreed (s : State) (m : Fin 4) (v : Nat) : Device :=
  let d := s.dev.wr (Reg.MBX_A_RSP_RD_offset m.val) v
  s.drainMailbox m (d.flushMailbox s.mode m (d.proto.appPending.length + 1))

/-- APP_MAILBOX_RSP_FREED: an advance of MBX_Am_RSP_RD (16 R558). -/
def execAppMailboxRspFreed (m : Fin 4) (rspRd : Word) (s : State) : Host.Outcome State Fault Refusal :=
  nextD s (s.mailboxFreed m rspRd.toNat)

end Sys2Proof.Machine
end

