-- ==== Sys2Proof/Machine/MemUnit.lean ====
section
/-! DEFINITION. The memory controller's own events: scrubs, refresh and interval maintenance, retraining, and the reads that
latch its address registers (02 R102; 08 R281, R282, R287 to R289). -/

namespace Sys2Proof.Machine

-- Patrol scrub (08 R281, R282; 02 R102).

/-- Size of a channel in bytes. -/
def Device.channelSize (d : Device) : Nat := d.dramSize / 16

/-- A DRAM address lies in a model binding of the active plan or in the mirror region (08 R279). -/
def Device.scrubLive (d : Device) (a : Nat) : Bool :=
  (match d.place a with | .dram 3 _ => true | _ => false) ||
    (match d.seq.plan with
      | some p => p.bindings.any fun b =>
          decide (dramBase + fieldOf b 8 8 ≤ a) && decide (a < dramBase + fieldOf b 8 8 + fieldOf b 16 8)
      | none => false)

/-- The codewords of a 64-byte word are read, corrected and written back; errors are those that have appeared in its first
codeword, and active MEM_SYMBOL slots act on this read (08 R276, R277, R282; 13 R438). -/
def Device.scrubWord (d : Device) (md : Mode) (a errors : Nat) : Device :=
  let (extra, d) := (d.injectErrors a errors).pertMemory a 64
  let sz := codeSize (codeKind (d.place a))
  forL ((List.range (64 / sz)).map fun k => a + k * sz) (fun cw d =>
    (d.readCodeword md cw (mget 0 extra cw) 2 (codeKind (d.place cw) == 0 && d.scrubLive cw) true).2) d

/-- DRAM_SCRUB_STEP: the word at the scrub position of an online channel, which then moves on (08 R281); none while the channel
retrains (08 R288). -/
def execDramScrubStep (channel : Fin 16) (errors : Nat) (s : State) : Host.Outcome State Fault Refusal :=
  let d := s.dev
  let c := channel.val
  if ¬ d.rdB Reg.MEM_SCRUB_CFG_enable ∨ ¬ d.rdB (Reg.MEM_CH_STATUS_online c) ∨ d.rdB (Reg.MEM_CH_STATUS_self_refresh c) ∨ d.channelSize = 0 ∨
      (d.memCh c).retraining then .next s
  else
    let y := (d.memCh c).scrub
    let d := d.scrubWord s.mode (dramBase + dramOffset c y) errors
    let m := d.memCh c
    let wraps := decide (d.channelSize ≤ y + 64)
    settle s (d.setMemCh c { m with scrub := if wraps then 0 else y + 64, sweeps := if wraps then satAdd 16 m.sweeps 1 else m.sweeps })

/-- Size of a slice of shared memory, and the offset of a place in it (02 R98). -/
def sliceSize : Nat := 12 * 2 ^ 20
def Device.shmOffset (d : Device) (slice y : Nat) : Nat :=
  if d.rdB Reg.NE_SHM_CFG_linear then slice * sliceSize + y else y / 1024 * 16384 + slice * 1024 + y % 1024

/-- SHM_SCRUB_STEP: the word at the slice's scrub position (02 R102). -/
def execShmScrubStep (slice : Fin 16) (errors : Nat) (s : State) : Host.Outcome State Fault Refusal :=
  let d := s.dev
  let k := slice.val
  if ¬ d.rdB Reg.NE_SHM_CFG_scrub_en ∨ ¬ d.boot.applicationUp then .next s
  else
    let y := d.memc.shmScrub.getD k 0
    let d := d.scrubWord s.mode (shmBase + d.shmOffset k y) errors
    settle s { d with memc := { d.memc with shmScrub := lset d.memc.shmScrub k ((y + 64) % sliceSize) } }

-- Maintenance and retraining (08 R287, R288).

/-- What the devices of a channel ask for: the refresh rate shown, and MEM_DRAM_HOT when it rises above nominal (08 R287; once
until it is nominal again, DESIGN CHOICE, log entry 43). -/
def Device.refreshRate (d : Device) (c mult : Nat) : Device :=
  let d := d.wr (Reg.MEM_CH_STATUS_refresh_mult c) (min mult 255)
  let m := d.memCh c
  let hot := decide (1 < mult)
  (d.setMemCh c { m with hot }).raiseIf (hot && !m.hot) Ev.MEM_DRAM_HOT (min mult 255 + c * 2 ^ 48)

/-- DRAM_REFRESH_POLL (08 R287). -/
def execDramRefreshPoll (channel : Fin 16) (refreshMult : Nat) (s : State) : Host.Outcome State Fault Refusal :=
  let d := s.dev
  if ¬ d.rdB (Reg.MEM_CH_STATUS_online channel.val) then .next s else nextD s (d.refreshRate channel.val refreshMult)

/-- DRAM_INTERVAL_MAINTENANCE: the channel is blocked for at most 400 ns, which the turn's time counts (08 R287, R289). -/
def execDramIntervalMaintenance (channel : Fin 16) (blockedNs refreshMult : Nat) (s : State) : Host.Outcome State Fault Refusal :=
  let d := s.dev
  let c := channel.val
  if ¬ d.rdB (Reg.MEM_CH_STATUS_online c) then .next s
  else
    let m := d.memCh c
    nextD s ((d.setMemCh c { m with blockedNs := m.blockedNs + min blockedNs 400 }).refreshRate c refreshMult)

/-- DRAM_CHANNEL_FAULT: the channel is retrained (08 R288). -/
def execDramChannelFault (channel : Fin 16) (s : State) : Host.Outcome State Fault Refusal :=
  let d := s.dev
  let c := channel.val
  if ¬ d.rdB (Reg.MEM_CH_STATUS_online c) then .next s else nextD s (d.setMemCh c { d.memCh c with retraining := true })

/-- The accesses that waited for a channel are served in their order (08 R275, R288). -/
def Device.serveWaiting (d : Device) (md : Mode) (c : Nat) : Device :=
  let mine (w : WaitingAccess) : Bool := channelOf (w.address - dramBase) == c
  let due := d.memc.waiting.filter mine
  let d := { d with memc := { d.memc with waiting := d.memc.waiting.filter fun w => !mine w } }
  forL due (fun w d => d.serveAccess md w) d

/-- Self-refresh for a warm start: a channel enters it once the accesses that wait for it have completed (08 R284). -/
def Device.enterRefresh (d : Device) (md : Mode) (c : Nat) : Device :=
  if md = .warmStart ∧ d.rdB (Reg.MEM_CH_STATUS_online c) then d.wr (Reg.MEM_CH_STATUS_self_refresh c) 1 else d

/-- DRAM_RETRAIN_DONE: the channel goes on, or goes offline, and what waited for it is served (08 R284, R288). -/
def execDramRetrainDone (channel : Fin 16) (ok : Bool) (s : State) : Host.Outcome State Fault Refusal :=
  let d := s.dev
  let c := channel.val
  if ¬ (d.memCh c).retraining then .next s
  else
    let d := d.setMemCh c { d.memCh c with retraining := false }
    settle s (((if ok then d else d.channelOffline c 2).serveWaiting s.mode c).enterRefresh s.mode c)

-- Latching reads (08 R289).

/-- MEM_UE_ADDR_LO_READ. -/
def execMemUeAddrLoRead (s : State) : Host.Outcome State Fault Refusal :=
  let d := s.dev
  nextD s (d.readLatching (d.rd Reg.MEM_UE_ADDR_LO_addr_lo) Reg.MEM_UE_ADDR_HI_addr_hi.addr
    (atBits (d.rd Reg.MEM_UE_ADDR_HI_valid) 31 31 + atBits (d.rd Reg.MEM_UE_ADDR_HI_source) 30 28 +
      atBits (d.rd Reg.MEM_UE_ADDR_HI_live) 27 27 + d.rd Reg.MEM_UE_ADDR_HI_addr_hi))

/-- MEM_PROT_ADDR_LO_READ. -/
def execMemProtAddrLoRead (s : State) : Host.Outcome State Fault Refusal :=
  let d := s.dev
  nextD s (d.readLatching (d.rd Reg.MEM_PROT_ADDR_LO_addr_lo) Reg.MEM_PROT_ADDR_HI_addr_hi.addr
    (atBits (d.rd Reg.MEM_PROT_ADDR_HI_valid) 31 31 + d.rd Reg.MEM_PROT_ADDR_HI_addr_hi))

end Sys2Proof.Machine
end

