-- ==== Sys2Proof/Machine/Receive.lean ====
section
/-! DEFINITION. What reaches the join engine: flits and retraining, transit, sequenced transactions and their refusal, ACKs,
heartbeats, alignment, takeovers, and the end-to-end time-out (12 R380 to R403; 01 R62, R63; 06 R217, R218; 13 R418, R425,
R427). -/

namespace Sys2Proof.Machine

-- Ports (12 R380, R389, R391).

/-- A port that is up retrains (12 R389). -/
def Device.retrain (d : Device) (p trigger : Nat) : Device :=
  if ¬ d.portUp p ∨ d.rdB (Reg.FX_PORT_STATUS_retraining p) then d
  else
    let before := d.unreachable
    let d := ((d.wr (Reg.FX_PORT_STATUS_retraining p) 1).bump (Reg.FX_PORT_ERR_retrains p) 1).setPort p { retries := 0, trigger }
    d.reroute before p (d.rd (Reg.FX_PORT_STATUS_neighbour_id p))

/-- FLIT_RECEIVED: a flit that fails its CRC is retried, and the eighth retry in a row retrains the port (12 R379, R380, R389,
R405). -/
def execFlitReceived (port : Fin 8) (crcOk fecCorrected fecUncorrectable : Bool) (s : State) : Host.Outcome State Fault Refusal :=
  let p := port.val
  let d := s.dev
  if ¬ d.portUp p then nextD s d
  else
    let d := d.bump (Reg.FX_PORT_FEC_corrected p) (b2n fecCorrected)
    let d := d.bump (Reg.FX_PORT_ERR_uncorrectable p) (b2n fecUncorrectable)
    let x := d.port p
    if crcOk then nextD s (d.setPort p { x with retries := 0 })
    else
      let d := (d.bump (Reg.FX_PORT_ERR_retries p) 1).setPort p { x with retries := x.retries + 1 }
      nextD s (if 8 ≤ x.retries + 1 then d.retrain p 2 else d)

/-- Code of a retraining trigger (12 R407). -/
def triggerCode : RetrainTrigger → Nat
  | .lock => 1
  | .retries => 2
  | .fec => 3

/-- LANE_LOCK_LOSS (12 R389). -/
def execLaneLockLoss (port : Fin 8) (trigger : RetrainTrigger) (s : State) : Host.Outcome State Fault Refusal :=
  nextD s (s.dev.retrain port.val (triggerCode trigger))

/-- A port that fails goes down until the next start (12 R389, R407). -/
def Device.portDown (d : Device) (p : Nat) : Device :=
  ((d.wr (Reg.FX_PORT_STATUS_state p) 3).wr Reg.FX_STATUS_train_state 3).raiseFx Ev.FX_LINK_DOWN p
    (d.rd (Reg.FX_PORT_STATUS_neighbour_id p)) 0

/-- PORT_RETRAIN_DONE (12 R389, R391). -/
def execPortRetrainDone (port : Fin 8) (ok : Bool) (s : State) : Host.Outcome State Fault Refusal :=
  let p := port.val
  let d := s.dev
  if ¬ d.rdB (Reg.FX_PORT_STATUS_retraining p) then nextD s d
  else
    let n := d.rd (Reg.FX_PORT_STATUS_neighbour_id p)
    let before := d.unreachable
    let d := d.wr (Reg.FX_PORT_STATUS_retraining p) 0
    nextD s ((if ok then d.raiseFx Ev.FX_RETRAIN p n (d.port p).trigger else d.portDown p).reroute before p n)

-- Transit (12 R390, R398).

/-- TRANSIT_RECEIVED: an ALIGN gathers the residence and the delay of the port it came in on; nothing is read or written (12
R390, R398; 13 R418, R438 kinds 6 and 7). -/
def execTransitReceived (port : Fin 8) (kind : TransitKind) (t : Transaction) (correction residenceNs : Nat) (s : State) :
    Host.Outcome State Fault Refusal :=
  let d := s.dev
  if ¬ d.portUp port.val ∨ t.destination = d.self then nextD s d
  else
    match d.dropOn port.val with
    | (true, d) => nextD s d
    | (false, d) =>
      let total := correction + residenceNs + d.rd (Reg.FX_PORT_DELAY_delay_ns port.val)
      let t' := if kind = .align then { t with payload := patchAt t.payload 24 (leBytes 8 total) } else t
      let d := match d.routeFrom port.val t.destination with
        | some p => d.leave p { kind := kind, destination := t.destination, t := t' }
        | none => d
      nextD s d

-- Sequenced transactions (12 R394, R402).

/-- States in which transactions for the device are applied: neither in RETIRED (13 R418) nor in REPLAY, where no plan traffic
is exchanged (11 R374). -/
def joinListens (md : Mode) : Bool := md == .ready || md == .turning || md == .parked

/-- A transaction from a device crosses a port with an injected LINK_DROP; its port is taken as the one towards the sender (13
R438 kind 6; DESIGN CHOICE, log entry 36). -/
def Device.dropFrom (d : Device) (source : Nat) : Bool × Device :=
  match d.route source with
  | some p => d.dropOn p
  | none => (false, d)

/-- An ACK with the highest sequence applied and the refusals since the previous one (12 R394). -/
def Device.sendAck (d : Device) (source : Nat) : Device :=
  let refused := mget 0 d.join.refusals source
  let d := { d with join := { d.join with refusals := mset 0 d.join.refusals source 0 } }
  d.transmit {
    kind := .ack, destination := source
    t := { emptyTx with
      source := d.self, destination := source, original := source, turn := d.carriedTurn
      address := (d.join.expects source - 1) % 2 ^ 32 + refused % 2 ^ 16 * 2 ^ 32 } }

/-- A transaction is refused: counted, reported, and acknowledged as applied (12 R402, R407). -/
def Device.refuseTx (d : Device) (source type : Nat) : Device :=
  let d := { d with join := { d.join with refusals := mset 0 d.join.refusals source (mget 0 d.join.refusals source + 1) } }
  (d.bump Reg.FX_COUNTS_refused 1).raiseFx Ev.FX_REMOTE_REFUSED 0xFF source type

/-- A sequenced transaction arrives: applied when it is the next one expected, acknowledged again when it is a duplicate,
discarded when it comes early (12 R394, R402). `apply` answers whether it was accepted. -/
def Device.sequenced (d : Device) (md : Mode) (source sequence type : Nat) (apply : Device → Bool × Device) : Device :=
  if ¬ joinListens md then d
  else
    match d.dropFrom source with
    | (true, d) => d
    | (false, d) =>
      let next := d.join.expects source
      if next < sequence then d
      else if sequence < next then d.sendAck source
      else
        let d := { d with join := { d.join with rxSeq := mset 1 d.join.rxSeq source (next + 1) } }
        match apply d with
        | (true, d) => d.sendAck source
        | (false, d) => (d.refuseTx source type).sendAck source

-- WRITE (12 R397, R402).

/-- An enabled receive window matches a WRITE (12 R397). -/
def Device.recvMatches (d : Device) (t : Transaction) (w : Nat) : Bool :=
  let src := d.rd (Reg.FX_RECV_SRC_source w)
  let fd := d.rd (Reg.FX_RECV_SRC_for_device w)
  let base := d.rd (Reg.FX_RECV_BASE_base w) * 64
  d.rdB (Reg.FX_RECV_SRC_enable w) && (src == t.source || src == 0x1FF) && fd == t.original &&
    (fd == d.self || afind d.join.redirects fd == some d.self) &&
    decide (base ≤ t.address) && decide (t.address + t.payload.length ≤ base + d.rd (Reg.FX_RECV_SIZE_size w) * 64)

/-- A WRITE is applied through a receive window. -/
def Device.applyWrite (d : Device) (md : Mode) (t : Transaction) : Bool × Device :=
  if (List.range 16).any (fun w => d.recvMatches t w) then (true, (d.writeChecked md .finyx (shmBase + t.address) t.payload).2)
  else (false, d)

/-- WRITE_RECEIVED (12 R394, R397, R402). -/
def execWriteReceived (t : Transaction) (s : State) : Host.Outcome State Fault Refusal :=
  settle s (if t.destination ≠ s.dev.self then s.dev
    else s.dev.sequenced s.mode t.source t.sequence 1 fun d => d.applyWrite s.mode t)

-- SIGNAL (06 R215 to R219; 12 R400, R402).

/-- Counter that a remote signal addresses: the fallback half for a signal redirected from the retired buddy, none when such a
signal cannot be applied here or names a counter that has no half (06 R218, 12 R400, R402). -/
def Device.signalTarget (d : Device) (t : Transaction) : Option Nat :=
  let c := t.address % 512
  if ¬ t.redirected then some c
  else if d.seq.fallbackActive ∧ some t.original = d.buddy ∧ c < 256 then some (256 + c)
  else none

/-- A SIGNAL by the turn rules, then by the counter (06 R217, 12 R402). -/
def Device.applySignalTx (d : Device) (md : Mode) (t : Transaction) : Bool × Device :=
  let ahead := turnDiff t.turn d.carriedTurn
  if 1 < ahead then (true, d.bump Reg.NE_CTR_DROPPED_signals 1)
  else
    match d.signalTarget t with
    | none => (false, d)
    | some c =>
      let bit := bitsOf t.address 15 12
      let marks := bitsOf t.address 23 16
      if ¬ (d.counterInUse c ∧ d.isFlags c) then (false, d)
      else if ahead = 0 then (true, (d.signalCounter c bit marks).sequence md)
      else (true, { d with seq := { d.seq with
        heldSignals := d.seq.heldSignals ++ [{ counter := c, bit, marks, turn := turnPlus d.turn 1 }] } })

/-- SIGNAL_RECEIVED (06 R217; 12 R394, R400, R402). -/
def execSignalReceived (t : Transaction) (s : State) : Host.Outcome State Fault Refusal :=
  settle s (if t.destination ≠ s.dev.self then s.dev
    else s.dev.sequenced s.mode t.source t.sequence 2 fun d => d.applySignalTx s.mode t)

-- MIRROR (12 R402, R403; 13 R427).

/-- A MIRROR is written into the mirror region, and its item covered with its last transaction (12 R402, R403). -/
def Device.applyMirror (d : Device) (md : Mode) (t : Transaction) : Bool × Device :=
  let (base, size) := d.area 3
  if some t.source ≠ d.buddy ∨ size < t.address + t.payload.length then (false, d)
  else
    let d := (d.writeChecked md .finyx (base + t.address) t.payload).2
    (true, if t.last ∧ t.turn = d.carriedTurn then { d with seq := { d.seq with coverage := d.seq.coverage ++ [t.item] } } else d)

/-- MIRROR_RECEIVED: after the switch those of the retired buddy are discarded (13 R427). -/
def execMirrorReceived (t : Transaction) (s : State) : Host.Outcome State Fault Refusal :=
  let d := s.dev
  settle s (if t.destination ≠ d.self ∨ (d.seq.frozen ∧ some t.source = d.buddy) then d
    else d.sequenced s.mode t.source t.sequence 3 fun d => d.applyMirror s.mode t)

-- ACK (12 R394, R395, R403).

/-- The MIRRORs whose final transaction an ACK releases: channel, and item and turn (12 R403). -/
def Join.mirrorsDone (j : Join) (source sequence : Nat) : List (Nat × Option (Nat × Nat)) :=
  j.held.filterMap fun h =>
    if h.destination = source ∧ h.t.sequence ≤ sequence ∧ h.kind = .mirror ∧ h.t.last then h.channel.map fun ch => (ch, h.owner)
    else none

/-- A MIRROR completes with the ACK of its final transaction, while it is still the descriptor of its channel (06 R211; 12
R403). -/
def Device.mirrorDone (d : Device) (md : Mode) (m : Nat × Option (Nat × Nat)) : Device :=
  let c := d.chan m.1
  if c.cause.isNone ∧ c.active.isSome ∧ (c.active.map fun x => (x.item, x.turn)) = m.2 then d.endDescriptor md m.1 else d

/-- ACK_RECEIVED: what is held up to the sequence is released, MIRROR items complete with their last transaction, and what
waited for room is accepted (12 R394 to R396, R403). -/
def execAckReceived (source sequence refused : Nat) (s : State) : Host.Outcome State Fault Refusal :=
  match s.dev.dropFrom source with
  | (true, d) => nextD s d
  | (false, d) =>
    let done := d.join.mirrorsDone source sequence
    let d := d.bump Reg.FX_COUNTS_refused refused
    let d := { d with join := { d.join with held := d.join.held.filter fun h => !(h.destination == source && decide (h.t.sequence ≤ sequence)) } }
    let d := d.acceptWaiting (d.join.waiting.length + 1)
    let d := forL done (fun m d => d.mirrorDone s.mode m) d
    settle s (forL d.usedChans (fun ch d => d.finishDesc s.mode ch) d)

/-- E2E_TIMEOUT: every transaction held for a destination leaves again, in sequence order (12 R395); a part that has retired sends
nothing further (13 R418). -/
def execE2eTimeout (destination : Nat) (s : State) : Host.Outcome State Fault Refusal :=
  let d := s.dev
  if s.mode = .retired then .next s
  else nextD s (forL (d.join.held.filter fun h => h.destination == destination) (fun h d => d.transmit h) d)

-- HEARTBEAT, TAKEOVER (12 R384, R399; 13 R419, R425).

/-- HEARTBEAT_RECEIVED: recorded for the evaluation of the buddy; an asymmetric pair is reported once (12 R384, 13 R419). -/
def execHeartbeatReceived (h : Heartbeat) (s : State) : Host.Outcome State Fault Refusal :=
  match s.dev.dropFrom h.sender with
  | (true, d) => nextD s d
  | (false, d) =>
    let odd := some h.sender != d.buddy || h.buddy != d.self
    let raises := odd && !d.join.asymmetric
    let d := { d with join := { d.join with asymmetric := d.join.asymmetric || odd } }
    let d := if raises then d.raiseFx Ev.FX_NEIGHBOUR_MISMATCH 0xFF h.sender 2 else d
    nextD s (if some h.sender = d.buddy then { d with fo := { d.fo with seen := d.fo.seen ++ [h] } } else d)

/-- TAKEOVER_RECEIVED (12 R394, R399, R401; 13 R425). -/
def execTakeoverReceived (sender retired _turn _index sequence : Nat) (s : State) : Host.Outcome State Fault Refusal :=
  settle s (s.dev.sequenced s.mode sender sequence 7 fun d =>
    (true, if d.ignoresTakeover sender retired then d else d.applyTakeover s.mode sender retired))

-- ALIGN (01 R62, R63; 12 R398).

/-- Alignment error of a record at its ingress, in ns (12 R398). -/
def Device.alignError (d : Device) (port : Nat) (a : AlignRec) : Int :=
  (a.sendTime : Int) + a.correction + d.rd (Reg.FX_PORT_DELAY_delay_ns port) - d.sp.time

/-- The master's turn number minus the follower's at the moment of sending: the follower's own reckoning of that moment leaves
whole periods of error in place (01 R62; DEDUCED, log entry 37). -/
def Device.turnGap (d : Device) (a : AlignRec) (e : Int) : Int :=
  let p : Int := d.sp.period
  let m := (e + p / 2) / p
  sextOf (turnDiff a.turn (tcOf (((a.sendTime : Int) - m * p - d.sp.phaseNs) / p) 32)) 32

/-- An alignment record of the master is used (01 R15, R62, R63). ALIGN_LOST carries the low 8 bits of a difference in turns that
they cannot hold (DESIGN CHOICE, log entry 72). -/
def Device.align (d : Device) (md : Mode) (a : AlignRec) (e : Int) : Device :=
  let gap := d.turnGap a e
  let run := if 2000 < e.natAbs then d.sp.alignRun + 1 else 0
  let d := ((d.wr Reg.SP_ALIGN_align_ns (tcOf (clampInt (-32767) 32767 e) 16)).wr Reg.SP_ALIGN_master_id a.master).wr
    Reg.SP_ALIGN_master_valid 1
  let d := { d with sp := { d.sp with masterTurnDelta := gap, alignRun := run } }
  let d := d.measure md 5 (((d.sp.time : Int) + e).toNat)
  if (3 ≤ run ∨ gap ≠ 0) ∧ ¬ d.sp.finyxOverride then
    let d := d.raise Ev.ALIGN_LOST (tcOf gap 8 + tcOf (clampInt (-2147483648) 2147483647 e) 32 * 2 ^ 16)
    { d with sp := { d.sp with finyxOverride := true } }.reselect.applyStep md
  else d

/-- ALIGN_RECEIVED: a follower's record from its master (01 R62, 12 R398). -/
def execAlignReceived (port : Fin 8) (a : AlignRec) (at_ : Nat) (s : State) : Host.Outcome State Fault Refusal :=
  match (s.dev.stamp at_).dropOn port.val with
  | (true, d) => nextD s d
  | (false, d) =>
    if ¬ d.sp.counting ∨ d.isMaster ∨ d.groupSize ≤ 1 ∨ a.master ≠ d.join.master then nextD s d
    else nextD s (d.align s.mode a (d.alignError port.val a))

-- Windows (12 R405).

/-- FX_CFG_REJECTED for a window (12 R405 to R407). -/
def Device.rejectWindow (d : Device) (receive : Bool) (w : Nat) : Device :=
  d.raiseFx Ev.FX_CFG_REJECTED 0xFF 0x1FF (w + b2n receive * 32)

/-- A window register takes a write into its shadow copies (12 R405). -/
def Device.writeWindow (d : Device) (receive : Bool) (w reg v : Nat) : Device :=
  match receive, reg with
  | false, 0 => ((d.wrShadow (Reg.FX_SEND_LOCAL_enable w) (bitsOf v 31 31)).wrShadow (Reg.FX_SEND_LOCAL_dest w) (bitsOf v 30 22)).wrShadow
      (Reg.FX_SEND_LOCAL_local_base w) (bitsOf v 21 0)
  | false, 1 => d.wrShadow (Reg.FX_SEND_SIZE_size w) (bitsOf v 21 0)
  | false, _ => d.wrShadow (Reg.FX_SEND_REMOTE_remote_base w) (bitsOf v 21 0)
  | true, 0 => ((d.wrShadow (Reg.FX_RECV_SRC_enable w) (bitsOf v 31 31)).wrShadow (Reg.FX_RECV_SRC_source w) (bitsOf v 30 22)).wrShadow
      (Reg.FX_RECV_SRC_for_device w) (bitsOf v 21 13)
  | true, 1 => d.wrShadow (Reg.FX_RECV_BASE_base w) (bitsOf v 21 0)
  | true, _ => d.wrShadow (Reg.FX_RECV_SIZE_size w) (bitsOf v 21 0)

/-- FX_WINDOW_WRITE: ignored in TURNING and REPLAY (12 R405). -/
def execFxWindowWrite (receive : Bool) (window : Fin 16) (reg : Fin 3) (value : Word) (s : State) : Host.Outcome State Fault Refusal :=
  nextD s (if seqRuns s.mode then s.dev.rejectWindow receive window.val
    else s.dev.writeWindow receive window.val reg.val value.toNat)

/-- The disabling of a commit's offending windows (12 R406): send windows that overlap another enabled one, windows beyond 192
MiB, receive windows for another device. -/
def Device.checkWindows (d : Device) : Device :=
  let cap := 192 * 2 ^ 20 / 64
  let send (w : Nat) : Nat × Nat := (d.rd (Reg.FX_SEND_LOCAL_local_base w), d.rd (Reg.FX_SEND_SIZE_size w))
  let on (w : Nat) : Bool := d.rdB (Reg.FX_SEND_LOCAL_enable w)
  let badSend := (List.range 16).filter fun w =>
    on w && (decide (cap < (send w).1 + (send w).2) || (List.range 16).any fun v => v != w && on v &&
      decide ((send w).1 < (send v).1 + (send v).2) && decide ((send v).1 < (send w).1 + (send w).2))
  let badRecv := (List.range 16).filter fun w =>
    d.rdB (Reg.FX_RECV_SRC_enable w) &&
      (decide (cap < d.rd (Reg.FX_RECV_BASE_base w) + d.rd (Reg.FX_RECV_SIZE_size w)) ||
        !(d.rd (Reg.FX_RECV_SRC_for_device w) == d.self || some (d.rd (Reg.FX_RECV_SRC_for_device w)) == d.buddy))
  let d := forL badSend (fun w d => (d.wr (Reg.FX_SEND_LOCAL_enable w) 0).rejectWindow false w) d
  forL badRecv (fun w d => (d.wr (Reg.FX_RECV_SRC_enable w) 0).rejectWindow true w) d

end Sys2Proof.Machine
end

