-- ==== Sys2Proof/Machine/Security.lean ====
section
/-! DEFINITION. Security requests, provisioning, nonce and quote, and the HS registers with rows of their own (15 R493 to R504,
R521; 13 R435, R436; 16 R541). -/

namespace Sys2Proof.Machine

-- Security requests (15 R497 to R500).

/-- Fields of a security request. -/
def rqAction (r : List Byte) : Nat := fieldOf r 5 1
def rqClass (r : List Byte) : Nat := fieldOf r 6 1
def rqSlot (r : List Byte) : Nat := fieldOf r 7 1
def rqTargetClass (r : List Byte) : Nat := fieldOf r 16 1
def rqTargetSlot (r : List Byte) : Nat := fieldOf r 17 1
def rqTargetLife (r : List Byte) : Nat := fieldOf r 18 1

/-- Magic, version and action are valid, and reserved and unused fields are zero (15 R498 reason 2). -/
def requestWellFormed (r : List Byte) : Bool :=
  let a := rqAction r
  r.length == recordBytes && fieldOf r 0 4 == 0x52534B4E && fieldOf r 4 1 == 1 && decide (1 ≤ a) && decide (a ≤ 3) &&
    (a == 1 || fieldOf r 16 2 == 0) && (a == 2 || rqTargetLife r == 0) && allZero (sliceOf r 19 45)

/-- Slots of a class that are present and not revoked. -/
def Otp.live (o : Otp) (cls : Nat) : List Nat := (List.range 4).filter fun k => o.present cls k && !o.revoked cls k

/-- A lifecycle change that the fuses permit by request (15 R494). -/
def lifeChange (now : Lifecycle) (target : Nat) : Option Lifecycle :=
  match now, target with
  | .development, 2 => some .production
  | .development, 3 => some .returned
  | .production, 3 => some .returned
  | _, _ => none

/-- The action is allowed (15 R498 reason 7); a target_lifecycle that R497 does not name leads nowhere under R494. -/
def Device.actionAllowed (d : Device) (o : Otp) (r : List Byte) : Bool :=
  match rqAction r with
  | 1 =>
    let c := rqTargetClass r
    let k := rqTargetSlot r
    (o.live c).contains k && !(c == rqClass r && k == rqSlot r) && (o.live c != [k])
  | 2 => (lifeChange o.lifecycle (rqTargetLife r)).isSome
  | _ => d.life == 2

/-- Verdict on a security request: 0 accepted, else the reason of 15 R498. -/
def Device.requestReason (d : Device) (o : Otp) (md : Mode) (r : List Byte) : Nat :=
  if ¬ inReadyParked md ∨ d.life = 0 then 1
  else if ¬ requestWellFormed r then 2
  else if 1 < rqClass r ∨ ¬ (o.live (rqClass r)).contains (rqSlot r) ∨
      rqClass r ≠ (if rqAction r = 1 then rqTargetClass r else 1) then 3
  else if ¬ recordSigned o (rqClass r) (rqSlot r) r then 4
  else if ¬ d.nonceMatches r then 5
  else if ¬ d.identityMatches r then 6
  else if ¬ d.actionAllowed o r then 7
  else 0

/-- An accepted request takes effect (15 R496, R500, R501). -/
def State.applyRequest (s : State) (r : List Byte) : State :=
  match rqAction r with
  | 1 =>
    let o := s.otp.revoke (rqTargetClass r) (rqTargetSlot r)
    { s with otp := o
             dev := ((s.dev.showKeys o).raise Ev.KEY_REVOKED ((rqTargetClass r * 4 + rqTargetSlot r) * 256)).noteSecurity }
  | 2 =>
    match lifeChange s.otp.lifecycle (rqTargetLife r) with
    | some l => { s with otp := { s.otp with lifecycle := l }, dev := s.dev.raise Ev.LIFECYCLE_CHANGED (lifecycleCode l * 256) }
    | none => s
  | _ => { s with dev := ((s.dev.setDebug true).raise Ev.DEBUG_OPENED (rqSlot r * 256)).noteSecurity }

/-- A security request is checked; a new nonce is drawn (15 R498 to R500). Answers the reason. -/
def State.securityCheck (s : State) (r : List Byte) : Nat × State :=
  let why := s.dev.requestReason s.otp s.mode r
  let t := if why = 0 then s.applyRequest r else { s with dev := s.dev.raise Ev.REQUEST_REJECTED why }
  (why, { t with dev := t.dev.drawNonce })

/-- Status of a response that carries a reason (16 R542). -/
def reasonStatus (r : Nat) : Nat := if r = 0 then St.OK else St.REFUSED

/-- SECURITY_REQUEST (16 R541; 15 R498). -/
def execSecurityRequest (hdr : ReqHdr) (record : List Byte) (s : State) : Host.Outcome State Fault Refusal :=
  .next (s.serve hdr 0x62 roleM inReadyParked fun s =>
    let (why, t) := s.securityCheck record
    (reasonStatus why, leBytes 1 why, t))

/-- PERT_AUTHORISE (16 R541; 13 R436). -/
def execPertAuthorise (hdr : ReqHdr) (record : List Byte) (s : State) : Host.Outcome State Fault Refusal :=
  .next (s.serve hdr 0x63 roleM inReadyParked fun s =>
    let (why, d) := s.dev.authorise s.otp s.mode record
    (reasonStatus why, leBytes 1 why, { s with dev := d }))

-- Provisioning (15 R493, R495; 16 R541).

/-- The response to a provisioning message: over the maintenance port, in BLANK (16 R541). Not served elsewhere. -/
def State.provision (s : State) (h : ReqHdr) (type : Nat) (body : State → Nat × State) : State :=
  let s' := { s with dev := s.dev.takeReady h }
  if ¬ s.takes h then s
  else if h.path ≠ .maint ∧ h.path ≠ .recovery false then { s' with dev := s'.dev.respond s.mode h type St.ROLE [] }
  else if s.dev.life ≠ 0 ∨ s.mode ≠ .coldStart then { s' with dev := s'.dev.respond s.mode h type St.STATE [] }
  else
    match body s' with
    | (st, t) => { t with dev := t.dev.respond s.mode h type st [] }

/-- PROVISION_KEY: an absent owner slot takes a key (15 R493, R495). -/
def execProvisionKey (hdr : ReqHdr) (slot : Nat) (key : List Byte) (s : State) : Host.Outcome State Fault Refusal :=
  .next (s.provision hdr 0xE0 fun s =>
    if 3 < slot ∨ key.length ≠ 64 then (St.FORMAT, s)
    else if s.otp.present 1 slot then (St.REFUSED, s)
    else
      let o := { s.otp with owner := lset s.otp.owner slot key }
      (St.OK, { s with otp := o, dev := (s.dev.showKeys o).noteSecurity }))

/-- PROVISION_LIFECYCLE: BLANK gives way to DEVELOPMENT once an owner slot is present (15 R494 to R496). -/
def execProvisionLifecycle (hdr : ReqHdr) (s : State) : Host.Outcome State Fault Refusal :=
  .next (s.provision hdr 0xE1 fun s =>
    if s.otp.lifecycle ≠ .blank ∨ s.otp.presentBits 1 = 0 then (St.REFUSED, s)
    else
      (St.OK, { s with otp := { s.otp with lifecycle := .development }
                       dev := s.dev.raise Ev.LIFECYCLE_CHANGED (lifecycleCode .development * 256) }))

-- Nonce and quote (15 R499, R504).

/-- NONCE (16 R541). -/
def execNonce (hdr : ReqHdr) (s : State) : Host.Outcome State Fault Refusal :=
  .next (s.serve hdr 0x60 roleMO anyState fun s => (St.OK, leBytes 8 s.dev.boot.nonce.toNat, s))

/-- READY and later states (16 R541). -/
def fromReady (m : Mode) : Bool := m.neRuns

/-- The first 640 bytes of a quote (15 R504). -/
def Device.quoteBody (d : Device) (o : Otp) (hostNonce : List Byte) : List Byte :=
  leBytes 4 0x51414B4E ++ leBytes 1 1 ++ leBytes 1 d.life ++ leBytes 1 d.secFlags ++ leBytes 1 0 ++ leBytes 8 d.bootSeq ++
    leBytes 4 (d.rd Reg.HS_FP_SEQ_seq) ++ leBytes 4 d.turn ++ leBytes 8 d.planId ++ hostNonce ++ d.identityKey o ++
    d.boot.meas.flatten

/-- QUOTE (15 R504). -/
def execQuote (hdr : ReqHdr) (hostNonce : List Byte) (s : State) : Host.Outcome State Fault Refusal :=
  .next (s.serve hdr 0x61 roleAll fromReady fun s =>
    if hostNonce.length ≠ 32 then (St.FORMAT, [], s)
    else
      let body := s.dev.quoteBody s.otp hostNonce
      (St.OK, body ++ sliceOf (Config.slhSign (s.dev.identitySeeds s.otp) body) 0 49856, s))

-- HS registers (15 R502, R521).

/-- A measurement register is latched into HS_MEASw (15 R521). -/
def Device.latchMeas (d : Device) (v : Nat) : Device :=
  let k := v % 8
  (d.wr Reg.HS_MEAS_SEL_reg k).wrWords Reg.HS_MEAS_word (d.meas k)

/-- HS_MEAS_SEL_WRITE: the whole of the selected register is latched (15 R521). -/
def execHsMeasSelWrite (value : Word) (s : State) : Host.Outcome State Fault Refusal := nextD s (s.dev.latchMeas value.toNat)

/-- The agents whose writes to HS_EXTw and HS_EXT_CTRL are accepted: the firmware and application clusters (15 R521, 16
R555). -/
def mayExtend : Agent → Bool
  | .component _ | .componentDma _ | .kernel | .application | .maintenance => true
  | _ => false

/-- A write of 1 to HS_EXT_CTRL: M7 is extended with HS_EXTw, which then clears (15 R502, R521). -/
def Device.extendSeven (d : Device) (ag : Agent) : Device :=
  if ¬ mayExtend ag then d
  else
    let d := d.extend 7 (d.boot.ext.flatMap fun w => leBytes 4 w.toNat)
    { d with boot := { d.boot with ext := List.replicate 16 0 } }

/-- HS_EXT_EXTEND (15 R502, R521). -/
def execHsExtExtend (agent : Agent) (s : State) : Host.Outcome State Fault Refusal := nextD s (s.dev.extendSeven agent)

/-- HS_SLOT_SEQ_LO_READ (15 R521). -/
def execHsSlotSeqLoRead (slotB : Bool) (s : State) : Host.Outcome State Fault Refusal :=
  let d := s.dev
  nextD s (if slotB then d.readLatching (d.rd Reg.HS_SLOTB_SEQ_LO_seq) Reg.HS_SLOTB_SEQ_HI_seq.addr (d.rd Reg.HS_SLOTB_SEQ_HI_seq)
    else d.readLatching (d.rd Reg.HS_SLOTA_SEQ_LO_seq) Reg.HS_SLOTA_SEQ_HI_seq.addr (d.rd Reg.HS_SLOTA_SEQ_HI_seq))

/-- HS_NONCE_LO_READ (15 R521). -/
def execHsNonceLoRead (s : State) : Host.Outcome State Fault Refusal :=
  let d := s.dev
  nextD s (d.readLatching (d.rd Reg.HS_NONCE_LO_nonce) Reg.HS_NONCE_HI_nonce.addr (d.rd Reg.HS_NONCE_HI_nonce))

end Sys2Proof.Machine
end

