-- ==== Sys2Proof/Machine/RegAccess.lean ====
section
/-! DEFINITION. Reads and writes of registers: the access classes, what each register shows and what each write does (00
'Register tables', R10, R11; 01 R51 to R54, R64; 02 R104 to R107; 03 R135; 06 R233; 07 R261; 08 R289; 09 R323; 10 R351; 11 R377;
12 R405; 13 R434, R439; 14 R473; 15 R521; 16 R558, R559). -/

namespace Sys2Proof.Machine

-- Registers whose contents are a view of the state.

/-- SP_STATUS.sequencer: stopped, turning, or the final turn before PARKED (01 R64). -/
def Device.sequencerCode (d : Device) (md : Mode) : Nat :=
  if ¬ seqRuns md then 0 else if d.seq.stopping ∨ d.vid.replay.ending then 2 else 1

/-- Elapsed part of the current index in 1/65536 (01 R64). -/
def Spindle.fraction (sp : Spindle) (t : Nat) : Nat :=
  let off := sp.offsetAt t
  let k := sp.indexOf off
  (off - sp.indexStart k) * 65536 / (sp.indexStart (k + 1) - sp.indexStart k)

/-- SP_HOLDOVER (01 R17, R64). -/
def Spindle.holdoverMs (sp : Spindle) : Nat :=
  if sp.lock = .holdover ∨ sp.lock = .holdoverExpired then min ((sp.time - sp.holdoverFrom) / 1000000) (2 ^ 32 - 1) else 0

/-- SP_STATUS (01 R64). -/
def Device.spStatus (d : Device) (md : Mode) : Nat :=
  let (code, slot) := match d.sp.active with | some x => x | none => (0, 0)
  atBits (tcOf (clampInt (-127) 127 d.sp.turnOffset) 8) 31 24 + atBits (d.sequencerCode md) 17 16 + atBits slot 9 8 + atBits code 6 4 + lockCode d.sp.lock

/-- SP_GEARs_STATUS: the newest frame of the stream, and how its last ended one ended (01 R37, R64; 09 R302). -/
def Device.gearStatus (d : Device) (s : Nat) : Nat :=
  let st := d.stream s
  let ended := match st.frames.find? (fun (f : Frame) => f.endAt.isSome) with | some f => f.marks | none => 0
  let now := match st.frames with
    | f :: _ => atBits (b2n f.endAt.isNone) 18 18 + atBits f.ordinal 17 16 + atBits f.linesAccepted 15 0
    | [] => 0
  atBits (b2n (ended &&& fmLong != 0)) 20 20 + atBits (b2n (ended &&& fmShort != 0)) 19 19 + now

/-- Words of the SP block that are views. -/
def Device.liveSp (d : Device) (md : Mode) (a : Nat) : Option Nat :=
  match a - 0x10000000 with
  | 0x004 => some (d.spStatus md)
  | 0x018 => some d.turn
  | 0x01C => some (if d.sp.counting then atBits (d.sp.fraction d.sp.time) 31 16 + d.index else 0)
  | 0x020 => some (d.sp.time % 2 ^ 32)
  | 0x024 => some ((afind d.latch a).getD 0)
  | 0x028 => some (satSigned d.sp.phaseErr 32)
  | 0x02C => some (tcOf d.sp.adjPpb 32)
  | 0x030 => some d.sp.holdoverMs
  | o => if 0x200 ≤ o ∧ o < 0x300 ∧ o % 8 = 4 then some (d.gearStatus ((o - 0x200) / 8)) else none

/-- Mesh row of a core (02 R70). -/
def coreRow (n : Nat) : Nat := let q := n / 8; if q < 2 then q else q + 2

/-- CORE_STATUS of core n: an array runs a descriptor until its last row is written (02 R84, R104). -/
def Device.coreStatus (d : Device) (n : Nat) : Nat :=
  let runs (x : ArrayRt) : Bool := x.item.isSome || !x.draining.isEmpty
  let busy := ((List.range 4).map fun a => if runs (d.array n a) then 2 ^ a else 0).sum
  atBits (b2n d.boot.debugOpen) 9 9 + atBits (b2n (bitAt (d.rd Reg.NE_STATUS_quad_in_reset) (n / 8))) 8 8 +
    atBits (b2n (d.core n).vec.isSome) 4 4 + busy

/-- A word of an accumulator in its own format (02 R107). -/
def Accum.word : Accum → Nat
  | .int v => tcOf v 32
  | .fp w _ => w.toNat

/-- A word of the CORE_DBG_ACC window (02 R107). -/
def Device.debugWord (d : Device) (n o : Nat) : Nat :=
  if ¬ d.boot.debugOpen then 0
  else
    let x := d.array n (o / 0x2000)
    let unit := o % 0x2000 / 8
    match (if o % 8 = 0 then x.bank0 else x.bank1)[unit]? with
    | some w => w.word
    | none => 0

/-- A word of the CORE_DBG_ACC window that shows an accumulator of a pass being fed, while debug is open (02 R107; 04 R164): core,
array, dot unit, and the pass. -/
def Device.fedWord (d : Device) (a : Nat) : Option (Nat × Nat × Nat × PassRt × MatDesc) :=
  let core := (a - 0x11000000) / 0x100000
  let o := a % 0x100000 - 0x80000
  let x := d.array core (o / 0x2000)
  if d.boot.debugOpen ∧ 0x11000000 ≤ a ∧ a < 0x13000000 ∧ 0x80000 ≤ a % 0x100000 ∧ a % 0x100000 < 0x88000 ∧
      (o % 8 == 0) = (x.passParity == 0) then
    match x.feeding, d.arrayDesc x with
    | some p, some m => some (core, o / 0x2000, o % 0x2000 / 8, p, m)
    | _, _ => none
  else none

/-- The sum being built in a dot unit whose pass is fed, with the pass's shift, after g groups; before the first group the value of
the pass before stands (04 R140, R164). How many groups have arrived is free (log entry 44). The window disturbs nothing, so what the
feeders would read is only looked at. -/
def Device.buildingWord (d : Device) (md : Mode) (a core array unit : Nat) (p : PassRt) (m : MatDesc) : Nat :=
  let g := Config.unstated 164 d.freeCtr % (ceilDiv m.k m.fmt.group + 1)
  if g = 0 then d.debugWord core (a % 0x100000 - 0x80000)
  else
    let f := (d.readPass md core array m p.num).1.upTo g
    let (rows, cols) := m.valid p.num
    let (i, j) := (unit / 32, unit % 32)
    (if i < rows ∧ j < cols then (f.dot p.shift i j).1 else f.outside rows cols i j).word

/-- Words of a DMA channel that are views (07 R261); o is the offset from its base. -/
def Device.liveChannel (d : Device) (ch o : Nat) : Option Nat :=
  let c := d.chan ch
  let setWord (x : Option DescRt) (w : Nat) : Nat := match x with | some y => fieldOf y.bytes (4 * w) 4 | none => 0
  let place (x : Option DescRt) : Nat := match x with | some y => atBits y.item 31 16 + atBits y.record 15 0 | none => 0xFFFF0000
  if o = 0x00 then
    some (atBits (d.rd (Reg.DMA_CH_STATUS_last_cause ch)) 19 16 + atBits (d.rd (Reg.DMA_CH_STATUS_cmp_error ch)) 4 4 +
      atBits (d.rd (Reg.DMA_CH_STATUS_load_stall ch)) 3 3 + atBits (d.rd (Reg.DMA_CH_STATUS_bad ch)) 2 2 +
      atBits (b2n c.shadow.isSome) 1 1 + b2n c.active.isSome)
  else if o = 0x04 then some (place c.active)
  else if o = 0x08 then some (place c.shadow)
  else if 0x40 ≤ o ∧ o < 0x80 then some (setWord c.active ((o - 0x40) / 4))
  else if 0x80 ≤ o ∧ o < 0xC0 then some (setWord c.shadow ((o - 0x80) / 4))
  else none

/-- Words of a core's registers that are views. -/
def Device.liveCore (d : Device) (a : Nat) : Option Nat :=
  let n := (a - 0x11000000) / 0x100000
  let o := a % 0x100000
  if o = 0 then some (atBits (coreRow n) 23 20 + atBits (n % 8) 19 16 + atBits (n / 8) 9 8 + n)
  else if o = 4 then some (d.coreStatus n)
  else if 0x1000 ≤ o ∧ o < 0x1200 then d.liveChannel (2 * n + (o - 0x1000) / 0x100) (o % 0x100)
  else if 0x80000 ≤ o ∧ o < 0x88000 then some (d.debugWord n (o - 0x80000))
  else none

/-- Bits set for the members of a list of conditions. -/
def bitsSet (n : Nat) (p : Nat → Bool) : Nat := ((List.range n).map fun k => if p k then 2 ^ k else 0).sum

/-- NE_QTHR: the selected tensor's threshold, shadow or active (03 R135). -/
def Device.shownThreshold (d : Device) : Nat :=
  let x := d.tensor (d.rd Reg.NE_QSTAT_SEL_tensor)
  if d.rdB Reg.NE_SHADOW_CTRL_read_active then x.threshold else x.thresholdShadow.getD x.threshold

/-- Words of the NE, DMA and MEM blocks that are views. -/
def Device.liveNe (d : Device) (a : Nat) : Option Nat :=
  if a = 0x1010011C then some d.shownThreshold
  else if a = 0x14000000 then some (bitsSet 16 fun k => (d.chan (64 + k)).active.isSome)
  else if 0x14001000 ≤ a ∧ a < 0x14002000 then d.liveChannel (64 + (a - 0x14001000) / 0x100) (a % 0x100)
  else if a = 0x1500000C then
    let m := d.memCh 0
    some (atBits m.sweeps 31 16 + (if d.channelSize = 0 then 0 else m.scrub * 65536 / d.channelSize))
  else none

/-- Words of the CSI, ISP, FX, ETH, PWR and MBX blocks that are views. -/
def Device.liveIo (d : Device) (md : Mode) (a : Nat) : Option Nat :=
  let active (p x : Nat) : Bool := d.rdB (Reg.ISP_C_STATUS_active p x)
  if a = 0x16000000 then
    let on := ((List.range 32).filter fun s => d.rdB (Reg.CSI_STREAM_CFG_enable s) && (d.stream s).reject == 0).length
    some (atBits on 13 8 + bitsSet 8 fun r => d.rd (Reg.CSI_RX_STATUS_state r) == 2)
  else if a = 0x16100000 then some (bitsSet 4 fun p => (List.range 8).any fun x => active p x)
  else if 0x16101000 ≤ a ∧ a < 0x16105000 ∧ a % 0x1000 = 0x800 then some (bitsSet 8 fun x => active ((a - 0x16101000) / 0x1000) x)
  else if 0x16101000 ≤ a ∧ a < 0x16105000 ∧ a % 0x1000 = 0x808 then
    let p := (a - 0x16101000) / 0x1000
    some (ceilDiv (((List.range 8).map fun x => if active p x then d.mergeBytes p x else 0).sum) 1024)
  else if a = 0x17000000 then
    some (atBits (bitsSet 8 d.portUp) 15 8 + atBits (b2n (!d.join.waiting.isEmpty)) 2 2 + d.rd Reg.FX_STATUS_train_state)
  else if a = 0x17000018 then some (atBits (d.rd Reg.FX_HOLD_peak_kib) 31 16 + atBits (d.join.used / 1024) 15 0)
  else if a = 0x17100000 then some (bitsSet 3 fun p => d.rd (Reg.ETH_PORT_STATUS_speed p) != 0)
  else if a = 0x17100004 then
    let eth := d.proto.sessions.filter fun x => x.kind == 0
    some (atBits (d.rd Reg.ETH_SESSIONS_refused) 31 16 + atBits (b2n (eth.any fun x => x.role == 1)) 4 4 + atBits eth.length 3 0)
  else if a = 0x18000000 then
    some (atBits (d.rd Reg.PWR_STATUS_cap_limited) 9 9 + atBits (b2n (d.groupActive md)) 8 8 +
      atBits (d.rd Reg.PWR_STATUS_sense_fault) 7 4 + d.rd Reg.PWR_STATUS_mismatch)
  else if a = 0x1A000000 then some (bitsSet 4 fun m => d.proto.sessions.any fun x => x.kind == 2 && x.mailbox == m)
  else none

/-- A register of an Ethernet port that shows more than its fields: MACsec and the output queue (16 R532, R559). -/
def Device.livePort (d : Device) (a generic : Nat) : Nat :=
  let p := (a - 0x17100100) / 0x40
  if a % 0x40 = 0 then generic + atBits (b2n (d.proto.macsec.getD p false)) 7 7
  else if a % 0x40 = 0x18 then generic + atBits (d.txUsed p / 1024) 15 0
  else generic

/-- The maintenance port's own registers, whose frames number them (16 R556); they stand here above the 48-bit space. -/
def isMaint (a : Nat) : Bool := decide (2 ^ 48 ≤ a) && decide (a < 2 ^ 48 + 0x20)

/-- The maintenance port's registers that it does not serve when a channel has failed its training in RECOVERY or BLANK: all but
MBX_MAINT_ID, MBX_MAINT_STATUS and MBX_MAINT_ERR (16 R555). -/
def hiddenMaint (a : Nat) : Bool := isMaint a && !([2 ^ 48, 2 ^ 48 + 4, 2 ^ 48 + 0x1C].contains a)

/-- MBX_MAINT_STATUS (16 R556). -/
def Device.maintStatus (d : Device) (md : Mode) : Nat :=
  atBits (stateCode md) 31 28 + atBits d.life 27 26 + atBits (b2n d.boot.debugOpen) 25 25 +
    atBits (d.rd Reg.MBX_MAINT_STATUS_rsp_ready) 24 24 + atBits (d.rd Reg.MBX_MAINT_STATUS_busy) 23 23

/-- The word is a view of the state; none where the register's fields hold it. -/
def Device.liveWord (d : Device) (md : Mode) (a : Nat) : Option Nat :=
  let k := a / 0x100000
  if a = 2 ^ 48 + 4 then some (d.maintStatus md)
  else if k = 0x100 then d.liveSp md a
  else if k = 0x101 ∨ k = 0x140 ∨ k = 0x150 then d.liveNe a
  else if 0x110 ≤ k ∧ k < 0x130 then d.liveCore a
  else d.liveIo md a

/-- Registers that count cycles of the mesh, the arrays, the banks or the join engine, which the model has no clock for (02 R105,
R106; 12 R405). -/
def countsCycles (a : Nat) : Bool :=
  a == 0x10100048 || a == 0x1700001C ||
    (decide (0x11000000 ≤ a) && decide (a < 0x13000000) && (a % 0x100000 == 0x40 || (decide (0x30 ≤ a % 0x100000) && decide (a % 0x100000 < 0x40))))

/-- What has happened so far that a cycle counter may have counted: jobs and replays begun, or transactions that waited for the hold
buffer. -/
def Device.cycleSource (d : Device) (a : Nat) : Nat := if a = 0x1700001C then d.join.stalls else d.seq.runs


/-- Something runs in a core that may be held or lose an arbitration: an array, the vector unit, or any DMA channel, also in what an
abandoned item leaves (02 R85, R91; 06 R212). -/
def Device.coreBusy (d : Device) (n : Nat) : Bool :=
  d.coreStatus n % 32 != 0 || d.usedChans.any fun ch => (d.chan ch).active.isSome

/-- A cycle counter may count now: the mesh carries the traffic of sensors, joins and control in every state in which it runs; a
core's counters count while something runs there (02 R105, R106; 12 R405). -/
def Device.cyclesRun (d : Device) (md : Mode) (a : Nat) : Bool :=
  if a = 0x1700001C then !d.join.waiting.isEmpty
  else if a = 0x10100048 then md.neRuns
  else md.neRuns && (seqRuns md || d.coreBusy ((a - 0x11000000) / 0x100000))

/-- A cycle counter is read and cleared: 0 where nothing that it counts has happened since it was last cleared, else free (DESIGN
CHOICE, log entry 44). -/
def Device.readCycles (d : Device) (md : Mode) (a : Nat) : Nat × Device :=
  let still := d.cycleSource a == mget 0 d.seq.cycleMarks a && !d.cyclesRun md a
  let (n, d) := d.tick
  (if still then 0 else Config.unstated 86 n % 2 ^ 32,
    if d.cyclesRun md a then d else { d with seq := { d.seq with cycleMarks := mset 0 d.seq.cycleMarks a (d.cycleSource a) } })

-- Reads.

/-- Address of a block's SHADOW_CTRL (01 R51). -/
def shadowCtrl (a : Nat) : Nat := a - a % 0x100000 + 0xF0

/-- A block with shadow copies (01 R51). -/
def hasShadow (a : Nat) : Bool := shadowBlocks.any fun b => inBlock b a

/-- Shadow copies of the block hold writes not yet committed (01 R51); NE counts its thresholds too. -/
def Device.commitPending (d : Device) (a : Nat) : Bool :=
  (d.regs.shd.any fun e => e.1 / 32 / 0x100000 == a / 0x100000) ||
    (a / 0x100000 == 0x101 && d.quant.tensors.any fun t => t.2.thresholdShadow.isSome)

/-- A field as it is read (00 'Register tables'; 01 R51). -/
def Device.shownField (d : Device) (a : Nat) (f : FldDef) : Nat :=
  let fld : Fld := ⟨a, f.hi, f.lo, f.rst⟩
  match f.access with
  | .wo => 0
  | .rws => if d.rdB ⟨shadowCtrl a, 3, 3, 0⟩ then d.rd fld else d.rdShadow fld
  | _ => d.rd fld

/-- A register's word from its fields; an unassigned offset reads zero (00 R11, 08 R266). -/
def Device.fieldWord (d : Device) (a : Nat) : Nat :=
  match regAt a with
  | some r => (r.fields.map fun f => atBits (d.shownField a f) f.hi f.lo).sum
  | none => 0

/-- The word that a read returns, but for latches and cycle counters. -/
def Device.wordAt (d : Device) (md : Mode) (a : Nat) : Nat :=
  match d.liveWord md a with
  | some v => v
  | none =>
    let v := d.fieldWord a
    if a % 0x100000 = 0xF0 ∧ hasShadow a then v + 2 * b2n (d.commitPending a)
    else if a = 0x10100140 then v + 2 * b2n d.seq.starting.isSome
    else if 0x17100100 ≤ a ∧ a < 0x171001C0 then d.livePort a v
    else v

/-- Low words whose read latches the high word behind them (01 R64; 06 R233; 07 R261; 08 R289; 09 R323; 13 R439; 15 R521). -/
def latchesNext (a : Nat) : Bool :=
  [0x10000020, 0x10100144, 0x15000014, 0x1500001C, 0x19000010, 0x19000018, 0x19000030, 0x1B000008].contains a ||
    (decide (0x16002000 ≤ a) && decide (a < 0x16002800) && a % 0x40 == 0x38) ||
    (decide (0x14001000 ≤ a) && decide (a < 0x14002000) && a % 0x100 == 0x14) ||
    (decide (0x11000000 ≤ a) && decide (a < 0x13000000) && (a % 0x100000 == 0x1014 || a % 0x100000 == 0x1114))

/-- A high word that is shown only as latched, 0 before (01 R64; 06 R233; 09 R323). -/
def latchedOnly (a : Nat) : Bool :=
  a == 0x10000024 || a == 0x10100148 || (decide (0x16002000 ≤ a) && decide (a < 0x16002800) && a % 0x40 == 0x3C)

/-- The high word that a latching read takes. -/
def Device.highWord (d : Device) (md : Mode) (a : Nat) : Nat :=
  if a = 0x10000024 then d.sp.time / 2 ^ 32 % 2 ^ 32 else d.wordAt md a

/-- The word that a register shows. -/
def Device.shownWord (d : Device) (md : Mode) (a : Nat) : Nat :=
  (afind d.latch a).getD (if latchedOnly a then 0 else d.wordAt md a)

/-- The quadrant whose PWR_RAILq_TEMP stands at an address (14 R474). -/
def tempQuadrant (a : Nat) : Option Nat := (List.range 4).find? fun q => a == (Reg.PWR_RAIL_TEMP_peak_c q).addr

/-- Fields that a read clears; the greatest temperature is sought anew from then on (14 R474). -/
def Device.clearRead (d : Device) (a : Nat) : Device :=
  let d := match tempQuadrant a with
    | some q => d.setRail q { d.rail q with peaked := false }
    | none => d
  match regAt a with
  | some r => forL (r.fields.filter fun f => f.access == .rc) (fun f d => d.wr ⟨a, f.hi, f.lo, f.rst⟩ 0) d
  | none => d

/-- A register is read: its word, and what the read does (00 'Register tables'). -/
def Device.readReg (d : Device) (md : Mode) (a : Nat) : Nat × Device :=
  if countsCycles a then d.readCycles md a
  else
    match d.fedWord a with
    | some (core, array, unit, p, m) => (d.buildingWord md a core array unit p m, { d with freeCtr := d.freeCtr + 1 })
    | none =>
      let v := d.shownWord md a
      let d := d.clearRead a
      (v, if latchesNext a then { d with latch := aput d.latch (a + 4) (d.highWord md (a + 4)) } else d)

-- Writes.

/-- A field takes its bits of a written word, by its access class (00 'Register tables', R10; 01 R52, R57). Where a field's table
names a range and no effect of a value outside it, as for SP_PPS_OUT.width_us and SP_FSYNCf_CTRL.width_us (01 R64), the value is
stored as written: DESIGN CHOICE, log entry 72. -/
def Device.putField (d : Device) (md : Mode) (a v : Nat) (f : FldDef) : Device :=
  let fld : Fld := ⟨a, f.hi, f.lo, f.rst⟩
  let x := clampField a f.lo (bitsOf v f.hi f.lo)
  if f.effect = .cold ∧ md ≠ .coldStart then d
  else
    match f.access with
    | .rw => d.wr fld x
    | .rws => d.wrShadow fld x
    | .w1c => if x = 0 then d else d.wr fld 0
    | .ro | .rc | .wo => d

/-- A write to a register with no effect of its own. -/
def Device.putWord (d : Device) (md : Mode) (a v : Nat) : Device :=
  match regAt a with
  | some r => forL r.fields (fun f d => d.putField md a v f) { d with latch := adel d.latch a }
  | none => d

/-- A write to an SP register (01 R19, R22, R36, R59, R64, R65). -/
def Device.writeSp (d : Device) (md : Mode) (a v : Nat) : Device :=
  match a - 0x10000000 with
  | 0x000 =>
    let d := d.putWord md a v
    if bitAt v 0 then d.stepRequest md else d
  | 0x008 => d.writePeriod md v
  | 0x00C => d.writePhase md v
  | 0x010 => (d.putWord md a v).reselect.applyStep md
  | 0x014 => d.writeSlew v
  | 0x040 => d.armSeconds v
  | 0x0E0 => if bitAt v 31 then d.armRelease v else d.clearHolds (v % 2 ^ 11)
  | o => if 0x104 ≤ o ∧ o < 0x144 ∧ o % 8 = 4 then d.writeFsyncOffset ((o - 0x104) / 8) v else d.putWord md a v

/-- A write to an NE register (03 R135; 06 R233). -/
def Device.writeNe (d : Device) (md : Mode) (a v : Nat) : Device :=
  if a = 0x10100104 then d.latchStats v
  else if a = 0x1010011C then d.writeThreshold v
  else if a = 0x10100150 then d.latchCounter v
  else d.putWord md a v

/-- The window register at an FX address: receive or send, window, word (12 R405). -/
def windowAt (a : Nat) : Option (Bool × Nat × Nat) :=
  let o := a - 0x17000000
  if 0x400 ≤ o ∧ o < 0x500 ∧ o % 16 < 12 then some (false, (o - 0x400) / 16, o % 16 / 4)
  else if 0x600 ≤ o ∧ o < 0x700 ∧ o % 16 < 12 then some (true, (o - 0x600) / 16, o % 16 / 4)
  else none

/-- A write to an FX window: ignored in TURNING and REPLAY (12 R405). -/
def Device.putWindow (d : Device) (md : Mode) (receive : Bool) (w reg v : Nat) : Device :=
  if seqRuns md then d.rejectWindow receive w else d.writeWindow receive w reg v

/-- A write to an HS register (15 R521). -/
def Device.writeHs (d : Device) (ag : Agent) (a v : Nat) : Device :=
  if a = 0x19000040 then d.latchMeas v
  else if 0x19000100 ≤ a ∧ a < 0x19000140 then
    if mayExtend ag then { d with boot := { d.boot with ext := lset d.boot.ext ((a - 0x19000100) / 4) (BitVec.ofNat 32 v) } } else d
  else if a = 0x19000140 ∧ bitAt v 0 then d.extendSeven ag
  else d

/-- A write to a PERT register (13 R434, R437 to R439). -/
def Device.writePert (d : Device) (md : Mode) (a v : Nat) : Device :=
  if a = 0x1B000004 then (if bitAt v 0 then d.pertClose else d)
  else if ¬ d.pertIsOpen then d.pertReject a
  else if 0x1B000100 ≤ a ∧ a < 0x1B000300 ∧ a % 0x20 = 0 then d.writeSlot ((a - 0x1B000100) / 0x20) v
  else d.putWord md a v

/-- A write to an application mailbox (16 R557, R558). -/
def State.writeMbx (s : State) (a v : Nat) : Device :=
  let m : Fin 4 := Fin.ofNat 4 ((a - 0x1A000100) / 0x40)
  if a < 0x1A000100 ∨ 0x1A000200 ≤ a then s.dev
  else if a % 0x40 = 0x08 then s.dev.configMailbox m v
  else if a % 0x40 = 0x0C then s.mailboxRequest m v
  else if a % 0x40 = 0x18 then s.mailboxFreed m v
  else s.dev.putWord s.mode a v

/-- A register is written by an agent that may write it. -/
def State.writeReg (s : State) (ag : Agent) (a v : Nat) : Device :=
  let d := s.dev
  let md := s.mode
  match a / 0x100000 with
  | 0x100 => d.writeSp md a v
  | 0x101 => d.writeNe md a v
  | 0x162 => if md = .replay ∧ 0x16200100 ≤ a ∧ a < 0x16200200 then d else d.putWord md a v
  | 0x170 =>
    match windowAt a with
    | some (receive, w, reg) => d.putWindow md receive w reg v
    | none => d.putWord md a v
  | 0x190 => d.writeHs ag a v
  | 0x1A0 => s.writeMbx a v
  | 0x1B0 => d.writePert md a v
  | _ => d.putWord md a v

-- Commands.

/-- SP_TIME_LO_READ (01 R64). -/
def execSpTimeLoRead (s : State) : Host.Outcome State Fault Refusal :=
  let d := s.dev
  nextD s (d.readLatching (d.sp.time % 2 ^ 32) 0x10000024 (d.sp.time / 2 ^ 32 % 2 ^ 32))

/-- REGISTER_WRITE: by the firmware cluster, at a word of the register regions (00 'Register tables'; 01 R53; 08 R265). -/
def execRegisterWrite (address : Nat) (value : Word) (s : State) : Host.Outcome State Fault Refusal :=
  if s.mode = .off ∨ ¬ isRegs address ∨ address % 4 ≠ 0 then .next s else nextD s (s.writeReg .kernel address value.toNat)

/-- REGISTER_CLEARING_READ: a read of a register, which clears its RC fields (00 'Register tables'; 01 R47; 16 R556). -/
def execRegisterClearingRead (address : Nat) (s : State) : Host.Outcome State Fault Refusal :=
  if s.mode = .off ∨ ¬ (isRegs address ∨ isMaint address) ∨ address % 4 ≠ 0 then .next s
  else if s.dev.boot.maintBlocked ∧ hiddenMaint address then nextD s { s.dev with bus := { data := leBytes 4 0, error := true } }
  else
    let (v, d) := s.dev.readReg s.mode address
    nextD s (d.answer v)

end Sys2Proof.Machine
end

