-- ==== Sys2Proof/Machine/Bus.lean ====
section
/-! DEFINITION. Accesses to the physical address space, and the maintenance port, which reaches it with debug open (02 R92 to R94,
R589, R590; 08 R264 to R278; 12 R396; 16 R524 to R528, R555, R556). -/

namespace Sys2Proof.Machine

-- One access (08 R265 to R278).

/-- An error response: no data but zeros (08 R266, R270). -/
def Device.busError (d : Device) (n : Nat) : Device := { d with bus := { data := List.replicate n 0, error := true } }

/-- A read of n bytes within a place that the agent may read. The ROM's contents and the private registers of the clusters are
given by no rule: they read free (16 R527). -/
def Device.busRead (d : Device) (md : Mode) (ag : Agent) (a n : Nat) : Device :=
  match d.place a with
  | .regs =>
    let (v, d) := d.readReg md a
    d.answer v
  | .headstockRom => { d with bus := { data := (List.range n).map fun i => Config.localByte (a + i) } }
  | .kernelRegs | .appRegs =>
    let (bs, d) := d.freeBytes n
    { d with bus := { data := bs } }
  | _ =>
    let (bs, bad, d) := d.readChecked md ag a n
    { d with bus := { data := bs, uncorrectable := bad.isSome } }

/-- A write of bytes within a place that the agent may write; a DMA write into a send window leaves its copy (12 R396). -/
def State.busWrite (s : State) (ag : Agent) (a : Nat) (bs : List Byte) : Device :=
  let d := { s.dev with bus := {} }
  match d.place a with
  | .regs => { s with dev := d }.writeReg ag a (leNat bs)
  | .headstockRom | .kernelRegs | .appRegs => d
  | _ =>
    let (bad, d) := d.writeChecked s.mode ag a bs
    match bad with
    | some _ => { d with bus := { uncorrectable := true } }
    | none => if ag = .dmaItem then d.forwardWrite none a bs else d

/-- An access that is mapped and allowed: its target may be down (07 R256), and it waits while its channel retrains (08 R288). -/
def State.reach (s : State) (ag : Agent) (a n : Nat) (store : Option (List Byte)) (errors : Nat) : Device :=
  let d := s.dev
  if d.targetDown a ∧ d.offlineAt a = false then d.busError n
  else if d.retrainingAt a then
    { d with bus := {} }.awaitChannel
      { agent := ag, address := a, bytes := n, store := store.map fun (bs : List Byte) => bs.take n ++ List.replicate (n - bs.length) 0, errors }
  else
    let d := if codeKind (d.place a) < 4 then d.injectErrors a errors else d
    match store with
    | none => d.busRead s.mode ag a n
    | some bs => { s with dev := d }.busWrite ag a (bs.take n ++ List.replicate (n - bs.length) 0)

/-- An access checked for width, mapping and rights (08 R265, R266, R269, R270; 16 R528). -/
def State.checkedAccess (s : State) (ag : Agent) (a n : Nat) (store : Option (List Byte)) (errors : Nat) : Device :=
  let d := s.dev
  let r := d.rights ag a
  if d.place a = .unmapped ∨ ¬ widthOk (d.place a == .regs) a n then (d.reportUnmapped ag a store.isSome).busError n
  else if ¬ (if store.isSome then r.2 else r.1) then (d.reportProtection ag a store.isSome).busError n
  else s.reach ag a n store errors

/-- A component breaks its regions: it is restarted and reported (16 R524, R525). -/
def State.componentFault (s : State) (id a n : Nat) : State :=
  let d := (s.dev.raise Ev.FW_ACCESS_FAULT (fwPayload 0xFF id (a % 2 ^ 32))).busError n
  if id = 4 then { s with dev := d }.hmExpires else { s with dev := d.restartComponent id }

/-- Agents that reach memory through the SRAM and caches of the firmware or the application cluster (13 R410). -/
def throughCluster : Agent → Bool
  | .component _ | .kernel | .application => true
  | _ => false

/-- An access of a cluster meets errors in the cluster's own SRAM or caches: an uncorrectable word ends it without its effect, and
one taken for correctable gives a read free bytes (13 R410, R416; DEDUCED, log entry 81). -/
def State.cachedAccess (s : State) (ag : Agent) (a n : Nat) (store : Option (List Byte)) (errors : AccessErrors) : Device :=
  if ¬ throughCluster ag then s.checkedAccess ag a n store errors.memory
  else
    match s.dev.readInside errors.cache with
    | (.uncorrectable, d) =>
      let (bs, d) := d.freeBytes n
      { d with bus := { data := if store.isSome then [] else bs, uncorrectable := true } }
    | (.wrong, d) =>
      let d := { s with dev := d }.checkedAccess ag a n store errors.memory
      let (bs, d) := d.freeBytes n
      if store.isSome ∨ d.bus.error then d else { d with bus := { d.bus with data := bs } }
    | (_, d) => { s with dev := d }.checkedAccess ag a n store errors.memory

/-- PHYS_ACCESS (08 R265 to R270; 13 R410, R416; 16 R524, R525, R528). -/
def execPhysAccess (agent : Agent) (address : Nat) (bytes : Nat) (store : Option (List Byte)) (errors : AccessErrors) (s : State) :
    Host.Outcome State Fault Refusal :=
  if s.mode = .off then .next s
  else
    match agent with
    | .component id | .componentDma id =>
      let r := s.dev.rights agent address
      if id.val = 0 then .next s
      else if ¬ (if store.isSome then r.2 else r.1) then .next (s.componentFault id.val address bytes)
      else settle s (s.cachedAccess agent address bytes store errors)
    | _ => settle s (s.cachedAccess agent address bytes store errors)

-- The maintenance port (16 R555, R556).

/-- The address of the next data access. -/
def Device.maintAddr (d : Device) : Nat := d.rd Reg.MBX_MAINT_ADDR_LO_addr * 4

/-- The address in the physical space: with its high bits. -/
def Device.maintPhys (d : Device) : Nat := d.maintAddr + d.rd Reg.MBX_MAINT_ADDR_HI_addr_hi * 2 ^ 32

/-- An access adds 4 to the address. -/
def Device.maintNext (d : Device) : Device :=
  if d.rdB Reg.MBX_MAINT_ADDR_HI_physical then
    let a := d.maintPhys + 4
    (d.wr Reg.MBX_MAINT_ADDR_LO_addr (a / 4 % 2 ^ 30)).wr Reg.MBX_MAINT_ADDR_HI_addr_hi (a / 2 ^ 32 % 2 ^ 16)
  else d.wr Reg.MBX_MAINT_ADDR_LO_addr ((d.maintAddr + 4) / 4 % 2 ^ 30)

/-- An access outside the buffer, or refused in physical mode. -/
def Device.maintRefuse (d : Device) : Device := { d.bump Reg.MBX_MAINT_ERR_refused 1 with bus := { data := leBytes 4 0, error := true } }

/-- A data access in physical mode: with debug open, with the firmware cluster's rights (16 R555). -/
def State.maintPhysical (s : State) (store : Option Nat) : Device :=
  if ¬ s.dev.boot.debugOpen then s.dev.maintRefuse
  else
    let d := s.checkedAccess .maintenance s.dev.maintPhys 4 (store.map (leBytes 4)) 0
    if d.bus.error then d.maintRefuse else d

/-- A data access: to the buffer, or to the physical space. -/
def State.maintAccess (s : State) (store : Option Nat) : Device :=
  let d := s.dev
  if d.rdB Reg.MBX_MAINT_ADDR_HI_physical then (s.maintPhysical store).maintNext
  else if maintSize ≤ d.maintAddr then d.maintRefuse.maintNext
  else
    match store with
    | none =>
      let (bs, d) := d.maintRead s.mode d.maintAddr 4
      (d.answer (leNat bs)).maintNext
    | some v => { d.maintStore s.mode d.maintAddr (leBytes 4 v) with bus := {} }.maintNext

/-- MAINT_DATA_READ: while the buffer is served (16 R555, R556). -/
def execMaintDataRead (s : State) : Host.Outcome State Fault Refusal :=
  if s.mode = .off ∨ ¬ s.dev.boot.maintServed then .next s else settle s (s.maintAccess none)

/-- A doorbell (16 R540, R555, R556): ignored while a request executes; a message of no legal length is answered with FORMAT. -/
def State.doorbell (s : State) (length : Nat) : Device :=
  let d := s.dev
  if ¬ d.boot.maintServed then (if d.boot.maintBlocked then d.bump Reg.MBX_MAINT_ERR_refused 1 else d)
  else if d.rdB Reg.MBX_MAINT_STATUS_busy then d
  else
    let d := (d.wr Reg.MBX_MAINT_STATUS_busy 1).wr Reg.MBX_MAINT_STATUS_rsp_ready 0
    let (head, d) := d.maintRead s.mode 0 32
    let n := fieldOf head 8 4
    let path : Path := if s.mode = .recovery then .recovery false else .maint
    if length < 32 ∨ maintResponse < length ∨ length < 32 + n ∨ ¬ hasMagic head then
      let r := requestOf path head
      d.respond s.mode r.hdr r.msgType St.FORMAT []
    else
      let (bs, d) := d.maintRead s.mode 0 (32 + n)
      d.addReady (requestOf path bs)

/-- A write frame's register number and word, when its CRC holds: the command byte 0x01, the number, the word with its high byte
first, the CRC (16 'The maintenance port'). -/
def maintFrame (frame : List Byte) : Option (Nat × Nat) :=
  if frame.length = 8 ∧ beNat (sliceOf frame 6 2) = crc16 (frame.take 6) then some (fieldOf frame 1 1, beNat (sliceOf frame 2 4)) else none

/-- A write frame (16 R555, R556). -/
def State.maintWrite (s : State) (frame : List Byte) : Device :=
  let d := s.dev
  match maintFrame frame with
  | none => d.bump Reg.MBX_MAINT_ERR_crc_errors 1
  | some (reg, v) =>
    if fieldOf frame 0 1 ≠ 1 then d
    else if reg = 5 then s.doorbell v
    else if ¬ d.boot.maintServed then d
    else if reg = 2 then d.wr Reg.MBX_MAINT_ADDR_LO_addr (v / 4)
    else if reg = 3 then (d.wr Reg.MBX_MAINT_ADDR_HI_physical (v / 2 ^ 31)).wr Reg.MBX_MAINT_ADDR_HI_addr_hi (v % 2 ^ 16)
    else if reg = 4 then s.maintAccess (some v)
    else d

/-- MAINT_DATA_WRITE (16 R556). -/
def execMaintDataWrite (frame : List Byte) (s : State) : Host.Outcome State Fault Refusal :=
  if s.mode = .off then .next s else settle s (s.maintWrite frame)

/-- MAINT_DOORBELL (16 R555). -/
def execMaintDoorbell (frame : List Byte) (s : State) : Host.Outcome State Fault Refusal :=
  if s.mode = .off then .next s else settle s (s.maintWrite frame)

end Sys2Proof.Machine
end

