-- ==== Sys2Proof/Machine/Camera.lean ====
section
/-! DEFINITION. Packets of the CSI receivers, frames and lines of the streams (09 R291 to R313; 01 R37 to R40). -/

namespace Sys2Proof.Machine

-- Receivers and headers (09 R293, R302, R306).

/-- A receiver has its lanes synchronised (09 R293, R323). -/
def Device.rxUp (d : Device) (r : Nat) : Bool := d.rdB (Reg.CSI_RX_CFG_enable r) && d.rd (Reg.CSI_RX_STATUS_state r) == 2

/-- Streams in use on a receiver's virtual channel. -/
def Device.onChannel (d : Device) (r vc : Nat) : List Nat :=
  (List.range 32).filter fun s => let st := d.inUse s; st.enabled && st.receiver == r && st.vc == vc

/-- A replayed stream's packets are discarded and not counted (11 R373). -/
def Device.shut (d : Device) (md : Mode) (s : Nat) : Bool := md == .replay && (d.stream s).replayed

/-- An event of a receiver, once per turn (09 R306). -/
def Device.raiseRx (d : Device) (code r : Nat) : Device := d.raise code (camPayload 0xFF r 0xFF 0)

/-- An uncorrectable header (09 R302, R306). A frame that the replay loader delivers has no packets of the receiver (11 R371). -/
def Device.headerLost (d : Device) (md : Mode) (r : Nat) : Device :=
  let d := d.bump (Reg.CSI_RX_PKT_ERR_hdr_uncorrectable r) 1
  let d := forL (List.range 32) (fun s d =>
    match (d.stream s).openNow with
    | some f => if (d.stream s).receiver = r ∧ ¬ d.shut md s then d.markFrame s f fmHdrLost else d
    | none => d) d
  if (d.rx r).hdrRaised then d else (d.setRx r { d.rx r with hdrRaised := true }).raiseRx Ev.CAM_HEADER_LOST r

/-- A corrected header of a packet that the receiver uses is counted (09 R302). -/
def Device.countHeader (d : Device) (r vc : Nat) (h : HeaderCheck) : Device :=
  if h = .corrected then d.bump (Reg.CSI_RX_VC_ERR_hdr_corrected r vc) 1 else d

/-- The streams of a packet that the receiver uses: without those that the replay set names, whose packets are discarded and not
counted; none when no stream is left (09 R302; 11 R373). -/
def Device.liveStreams (d : Device) (md : Mode) (mine : List Nat) : Option (List Nat) :=
  let live := mine.filter fun k => !d.shut md k
  if live = [] ∧ mine ≠ [] then none else some live

/-- A corrected header is marked on the open frame of a stream. -/
def Device.noteCorrected (d : Device) (s : Nat) (h : HeaderCheck) : Device :=
  match h, (d.stream s).openNow with
  | .corrected, some f => d.updFrame s f fun x => { x with marks := x.marks ||| fmHdrCorrected, hdrCorrected := x.hdrCorrected + 1 }
  | _, _ => d

/-- A packet of a channel without an enabled stream, or of a data type it does not have (09 R302). -/
def Device.unexpected (d : Device) (r vc : Nat) : Device := d.bump (Reg.CSI_RX_VC_ERR_unexpected_dt r vc) 1

/-- A framing condition outside a frame raises its event once until the next frame (09 R302, R306). -/
def Device.noteOrphan (d : Device) (s content : Nat) : Device :=
  let st := d.stream s
  if bitAt st.orphans content then d
  else (d.setStream s { st with orphans := st.orphans ||| 2 ^ content }).raiseCam Ev.CAM_FRAMING s content

/-- A lane error that is counted (09 R306). -/
def Device.phyError (d : Device) (r : Nat) : Device :=
  if (d.rx r).phyRaised then d else (d.setRx r { d.rx r with phyRaised := true }).raiseRx Ev.CAM_PHY_ERROR r

-- Frame Start (01 R37 to R40; 09 R294, R308, R311, R321; 10 R328, R344).

/-- The turn of the frame window at a moment (01 R39); bits 11:0 of an index field carry the index (00 R9). -/
def Device.windowTurn (d : Device) (s : Nat) : Nat :=
  if d.rd (Reg.SP_GEAR_CFG_window_open s) % 4096 ≤ d.index then d.turn else turnDiff d.turn 1

/-- The expected epoch of a frame: the latest written epoch completed before the capture time, or 0 (09 R321). -/
def StreamSt.expected (st : StreamSt) (capture : Nat) : Nat := ((st.epochs.find? fun e => e.2 < capture).map Prod.fst).getD 0


/-- A new frame of a stream at the present moment. -/
def Device.newFrame (d : Device) (s number : Nat) : Frame :=
  let st := d.committed s
  let turn := d.windowTurn s
  let n := (st.frames.filter fun f => f.turn == turn).length
  let capture := d.sp.time - st.tsOffset * 1000
  { turn, ordinal := n % 4, number, capture, startAt := d.sp.time, excess := decide (4 ≤ n)
    gear := d.rdB (Reg.SP_GEAR_CFG_enable s), expectedEpoch := st.expected capture, id := st.frameCount
    cfg := d.streamCommitted s }


/-- The frame enters the pipes its stream leads (10 R344). -/
def Device.enterPipes (d : Device) (md : Mode) (s : Nat) (f : Frame) : Device :=
  forL (d.ledBy s) (fun k d => d.pipeFrame md k.1 k.2 s f) d

/-- A frame opens: record bytes 0 to 15, registers, and the pipes (09 R308, R323; 10 R344). The replay loader places its frames (11
R371); a camera's stand where their window has them. The frame that ended last is kept, for SP_GEARs_STATUS (01 R64). -/
def Device.openFrame (d : Device) (md : Mode) (s number : Nat) (place : Frame → Frame) : Device :=
  let f := place (d.newFrame s number)
  let st := d.stream s
  let last := (st.frames.find? fun g => g.endAt.isSome).map Frame.id
  let kept := st.frames.filter fun g => !g.complete || decide (turnDiff f.turn g.turn ≤ 1) || last == some g.id
  let d := d.setStream s { st with
    cfg := d.streamCommitted s, frames := f :: kept, frameCount := st.frameCount + 1, orphans := 0, lost := false }
  let d := d.engineWrite md ((d.stream s).recBase + f.ordinal * 64) (f.recordHead 1)
  let d := (((d.wr (Reg.CSI_STREAM_STATUS_frame_number s) number).wr (Reg.CSI_STREAM_STATUS_slot s)
    (f.ordinal % (d.stream s).slots)).wr (Reg.CSI_STREAM_STATUS_lost s) 0).wrPair
    (Reg.CSI_STREAM_TS_LO_ts_lo s) (Reg.CSI_STREAM_TS_HI_ts_hi s) (f.capture % 2 ^ 64)
  let d := if f.excess then d.raise Ev.FRAME_WINDOW_OVERFLOW (s + f.turn * 2 ^ 32) else d
  d.enterPipes md s f

/-- Contexts led by a stream commit at its Frame Start (10 R328); frames in the pipe keep the fields they started with. -/
def Device.commitLed (d : Device) (md : Mode) (s : Nat) : Device :=
  forL (d.committing s) (fun k d => d.commitCtx md k.1 k.2) d

/-- Frame Start of one stream: the open frame ends, the committed values are taken, and a valid stream opens a frame (09 R294,
R296, R302). -/
def Device.startFrame (d : Device) (md : Mode) (r vc s number : Nat) (h : HeaderCheck) : Device :=
  let d := (d.endFrame md s fmNoFe 3).commitLed md s
  let u := d.committed s
  if u.enabled ∧ u.receiver = r ∧ u.vc = vc ∧ u.reject = 0 then (d.openFrame md s number id).noteCorrected s h
  else d.setStream s u

/-- FRAME_START (01 R37 to R40; 09 R294, R302, R308, R311). -/
def execFrameStart (rx : Fin 8) (vc : Fin 32) (number : Half) (header : HeaderCheck) (at_ : Nat) (s : State) :
    Host.Outcome State Fault Refusal :=
  let r := rx.val
  let v := vc.val
  let d := s.dev.stamp at_
  if ¬ d.rxUp r then .next s
  else if header = .uncorrectable then settle s (d.headerLost s.mode r)
  else
    let mine := (List.range 32).filter fun k =>
      (d.onChannel r v).contains k || ((d.committed k).enabled && (d.committed k).receiver == r && (d.committed k).vc == v)
    match d.liveStreams s.mode mine with
    | none => settle s d
    | some live =>
      let d := d.countHeader r v header
      let d := if mine = [] then d.unexpected r v else d
      settle s ((forL live (fun k d => d.startFrame s.mode r v k number.toNat header) d).sequence s.mode)

/-- FRAME_END (09 R302 to R304). -/
def execFrameEnd (rx : Fin 8) (vc : Fin 32) (number : Half) (header : HeaderCheck) (at_ : Nat) (s : State) :
    Host.Outcome State Fault Refusal :=
  let r := rx.val
  let v := vc.val
  let d := s.dev.stamp at_
  if ¬ d.rxUp r then .next s
  else if header = .uncorrectable then settle s (d.headerLost s.mode r)
  else
    match d.liveStreams s.mode (d.onChannel r v) with
    | none => settle s d
    | some live =>
      let d := d.countHeader r v header
      let d := if live = [] then d.unexpected r v else d
      settle s (forL live (fun k d =>
        match (d.stream k).openNow with
        | none => if (d.stream k).reject ≠ 0 then d else d.noteOrphan k 2
        | some f =>
          let wrong : Bool := f.number != 0 && number != 0 && f.number != number.toNat
          (d.noteCorrected k header).endFrame s.mode k (if wrong then fmFrameNumber else 0) (if wrong then 5 else 0)) d)

/-- IGNORED_SHORT_PACKET: accepted and ignored, but for the check of its header (09 R291, R302). -/
def execIgnoredShortPacket (rx : Fin 8) (vc : Fin 32) (_dataType : BitVec 6) (header : HeaderCheck) (s : State) :
    Host.Outcome State Fault Refusal :=
  let d := s.dev
  if ¬ d.rxUp rx.val then .next s
  else if header = .uncorrectable then settle s (d.headerLost s.mode rx.val)
  else
    match d.liveStreams s.mode (d.onChannel rx.val vc.val) with
    | none => settle s d
    | some live => settle s (forL live (fun k d => d.noteCorrected k header) (d.countHeader rx.val vc.val header))

-- Long packets (09 R297, R302, R322).

/-- An embedded line of a frame is stored, and its epoch read (09 R307, R322). -/
def Device.embedded (d : Device) (md : Mode) (s : Nat) (f : Frame) (data : List Byte) : Device :=
  let st := (d.stream s).during f
  let e := f.embLines
  let bytes := unpackEmb st.unpack data
  let d := if e < st.embStore ∧ e < 4 then d.engineWrite md (st.recBase + 256 + (f.ordinal * 4 + e) * 256) (bytes.take 256) else d
  let n := st.epochWidth + 1
  let here := st.epochEn ∧ e = st.epochLine ∧ st.epochByte + n ≤ bytes.length
  let value := beNat ((bytes.drop st.epochByte).take n)
  d.updFrame s f fun x => { x with embLines := e + 1, epoch := if here then some value else x.epoch }

/-- A checked image packet of a frame waits for the stream's path (09 R298, R302). -/
def Device.imageLine (d : Device) (r s : Nat) (f : Frame) (crcOk : Bool) (data : List Byte) : Device :=
  let st := (d.stream s).during f
  let d := if data.length * 8 = st.width * st.bits then d else d.markFrame s f fmLineLength
  let st := d.stream s
  d.setStream s { st with lines := st.lines ++ [{ rx := r, frame := f.id, data, crcOk }] }

/-- Bytes of image packets that a receiver's buffer holds (09 R297). -/
def Device.rxBuffered (d : Device) (r : Nat) : Nat :=
  (((List.range 32).flatMap fun s => (d.stream s).lines.filter fun l => l.rx == r).map fun l => l.data.length).sum

/-- A packet does not fit the receiver's 128 KiB: for the packets that the model holds, or for others that still stand in the buffer,
as the command says (09 R297; log entry 46). -/
def Device.rxFull (d : Device) (r n : Nat) (fits : Bool) : Bool := !fits || decide (131072 < d.rxBuffered r + n)

/-- CAM_OVERFLOW, once per stream per turn (09 R297). -/
def Device.raiseOverflow (d : Device) (s : Nat) : Device :=
  let st := d.stream s
  if st.overflowRaised then d else (d.setStream s { st with overflowRaised := true }).raiseCam Ev.CAM_OVERFLOW s 0

/-- A long packet of a stream is dropped because it does not fit (09 R297, R302). -/
def Device.dropPacket (d : Device) (s : Nat) (h : HeaderCheck) : Device :=
  match (d.stream s).openNow with
  | some f => ((d.noteCorrected s h).markFrame s f fmOverflow).raiseOverflow s
  | none => d.raiseOverflow s

/-- A long packet of a stream (09 R302). -/
def Device.streamPacket (d : Device) (md : Mode) (r s : Nat) (image : Bool) (h : HeaderCheck) (crcOk : Bool) (data : List Byte) :
    Device :=
  match (d.stream s).openNow with
  | none => if (d.stream s).reject ≠ 0 then d else (d.bump (Reg.CSI_STREAM_ERRS_lines_discarded s) 1).noteOrphan s 1
  | some f =>
    let d := d.noteCorrected s h
    let d := if crcOk then d else
      d.updFrame s f fun x => { x with marks := x.marks ||| fmCrc, crcErrors := x.crcErrors + 1 }
    if image then d.imageLine r s f crcOk data else d.embedded md s f data

/-- LONG_PACKET (09 R297, R298, R302). -/
def execLongPacket (rx : Fin 8) (vc : Fin 32) (dataType : BitVec 6) (header : HeaderCheck) (crcOk fits : Bool)
    (data : List Byte) (at_ : Nat) (s : State) : Host.Outcome State Fault Refusal :=
  let r := rx.val
  let v := vc.val
  let d := s.dev.stamp at_
  if ¬ d.rxUp r then .next s
  else if header = .uncorrectable then settle s (d.headerLost s.mode r)
  else
    let image := dataType != 0x12
    let mine := (d.onChannel r v).filter fun k =>
      if image then (d.inUse k).dataType == dataType.toNat else (d.inUse k).embEn
    match d.liveStreams s.mode mine with
    | none => settle s d
    | some live =>
      let d := d.countHeader r v header
      if d.rxFull r data.length fits then
        settle s (forL live (fun k d => d.dropPacket k header) (d.bump (Reg.CSI_RX_PKT_ERR_overflow_lines r) 1))
      else
        let d := if crcOk then d else d.bump (Reg.CSI_RX_VC_ERR_crc_errors r v) 1
        let d := if live = [] then d.unexpected r v else d
        settle s (forL live (fun k d => d.streamPacket s.mode r k image header crcOk data) d)

/-- LANE_SOT_ERROR: the damaged transmission is dropped (09 R302, R306). -/
def execLaneSotError (rx : Fin 8) (s : State) : Host.Outcome State Fault Refusal :=
  if s.dev.rxUp rx.val then settle s ((s.dev.bump (Reg.CSI_RX_PHY_ERR_sot_errors rx.val) 1).phyError rx.val) else .next s

-- Lines, timeouts, completion (09 R298, R302, R303, R305).

/-- LINE_ACCEPTED (01 R41; 09 R298; 10 R326, R340). -/
def execLineAccepted (stream : Fin 32) (lateTap : Bool) (at_ : Nat) (s : State) : Host.Outcome State Fault Refusal :=
  settle s (((s.dev.stamp at_).acceptLine s.mode stream.val lateTap).sequence s.mode)

/-- FRAME_TIMEOUT: a frame open one turn period after its Frame Start ends (09 R302). A replayed frame is not one of a receiver's
packets: the loader ends it (11 R371; DEDUCED, log entry 41). -/
def execFrameTimeout (stream : Fin 32) (at_ : Nat) (s : State) : Host.Outcome State Fault Refusal :=
  let d := s.dev.stamp at_
  match (d.stream stream.val).openNow with
  | some f =>
    if f.startAt + d.sp.period ≤ d.sp.time ∧ f.logged = none then settle s (d.endFrame s.mode stream.val fmNoFe 4) else settle s d
  | none => settle s d


/-- FRAME_COMPLETION (09 R303, R306, R308; 01 R42). -/
def execFrameCompletion (stream : Fin 32) (at_ : Nat) (s : State) : Host.Outcome State Fault Refusal :=
  let k := stream.val
  let d := s.dev.stamp at_
  match (d.stream k).pathFrame with
  | some f =>
    if d.mayComplete k f then settle s ((d.completeFrame s.mode k f).sequence s.mode) else settle s d
  | none => settle s d

/-- CAM_STREAM_LOST (09 R305), once the sensor front end is out of reset (15 R477). -/
def execCamStreamLost (stream : Fin 32) (s : State) : Host.Outcome State Fault Refusal :=
  let k := stream.val
  let d := s.dev
  let st := d.stream k
  let u := d.committed k
  let heard := match st.frames.head? with
    | some f => max f.startAt st.since
    | none => st.since
  let silent : Bool := decide (heard + u.lostTurns * d.sp.period ≤ d.sp.time)
  if s.mode.neRuns ∧ u.enabled ∧ u.lostTurns ≠ 0 ∧ ¬ st.lost ∧ silent ∧ ¬ d.shut s.mode k then
    let d := (d.setStream k { st with lost := true }).wr (Reg.CSI_STREAM_STATUS_lost k) 1
    settle s (d.raise Ev.CAM_STREAM_LOST (camPayload k u.receiver u.vc 0))
  else .next s

/-- The logical lanes a receiver is configured for (09 R291, R323). -/
def Device.laneMask (d : Device) (r : Nat) : Nat :=
  match d.rd (Reg.CSI_RX_CFG_lanes r) with
  | 0 => 1
  | 1 => 3
  | _ => if d.rdB (Reg.CSI_RX_CFG_phy r) then 7 else 15

/-- CSI_LANE_SYNC (09 R293, R302, R306, R323): of an enabled receiver, once the sensor front end is out of reset (15 R477). -/
def execCsiLaneSync (rx : Fin 8) (event : LaneEvent) (s : State) : Host.Outcome State Fault Refusal :=
  let r := rx.val
  let d := s.dev
  if ¬ s.mode.neRuns ∨ ¬ d.rdB (Reg.CSI_RX_CFG_enable r) then .next s
  else
    match event with
    | .synced lanes =>
      let d := d.wr (Reg.CSI_RX_STATUS_lane_sync r) lanes.toNat
      settle s (if lanes.toNat &&& d.laneMask r = d.laneMask r then d.setRxState r 2 else d)
    | .lost => settle s (d.setRxState r 3)
    | .deskewDone => settle s (d.wr (Reg.CSI_RX_STATUS_deskew_done r) 1)
    | .controlError => settle s ((d.bump (Reg.CSI_RX_PHY_ERR_ctrl_errors r) 1).phyError r)

/-- CSI_TS_LO_READ: the high word of the capture time is latched (09 R323). -/
def execCsiTsLoRead (stream : Fin 32) (s : State) : Host.Outcome State Fault Refusal :=
  let k := stream.val
  nextD s (s.dev.readLatching (s.dev.rd (Reg.CSI_STREAM_TS_LO_ts_lo k)) (Reg.CSI_STREAM_TS_HI_ts_hi k).addr
    (s.dev.rd (Reg.CSI_STREAM_TS_HI_ts_hi k)))

end Sys2Proof.Machine
end

