-- ==== Sys2Proof/Machine/Ethernet.lean ====
section
/-! DEFINITION. The Ethernet ports: frames that arrive and leave, reassembly, MACsec peers, gate lists, and the restart of a
firmware component ending (16 R526, R530 to R536, R559; 13 R432). -/

namespace Sys2Proof.Machine

-- Arrival (16 R530, R532).

/-- A port takes frames: enabled by the faceplate, or the 1000BASE-T1 port in RECOVERY (15 R491). -/
def State.portTakes (s : State) (p : Nat) : Bool :=
  if s.mode = .recovery then p == 0 else s.dev.boot.firmwareUp && s.dev.rdB (Reg.ETH_PORT_CTRL_enable p)

/-- VLAN that a port's entry names. -/
def Device.portVlan (d : Device) (p : Nat) : Nat :=
  match d.fpPort p with | some e => fieldOf e 2 2 % 4096 | none => 0

-- Reassembly (16 R535, R536).

/-- Two fragments belong to one message: same sender, session and sequence. -/
def Reassembly.same (r : Reassembly) (p a : Nat) (f : Fragment) : Bool :=
  r.port == p && r.address == a && r.hdr.session == f.session && r.hdr.sequence == f.sequence

/-- The fragments of a message carry one header apart from frag_offset and last_fragment (16 R535). -/
def fragmentAgrees (f g : Fragment) : Bool :=
  f.msgType == g.msgType && f.major == g.major && f.minor == g.minor && f.length == g.length && f.status == g.status &&
    (f.flags ||| 2) == (g.flags ||| 2)

/-- A fragment has a legal place and size, of at most so many bytes: only the last one ends the payload, and the others carry
multiples of 64 bytes (16 R535). -/
def fragmentLegal (f : Fragment) (most : Nat) : Bool :=
  let n := f.data.length
  let last := bitAt f.flags 1
  decide (f.offset + n ≤ f.length) && decide (n ≤ most) && (last == (f.offset + n == f.length)) &&
    (last || (n % 64 == 0 && n != 0))

/-- A message in reassembly is discarded and counted (16 R536). -/
def Device.dropReassembly (d : Device) (r : Reassembly) : Device :=
  { d with proto := { d.proto with reassembly := d.proto.reassembly.erase r } }.bump (Reg.ETH_PORT_DROP_reassembly r.port) 1

/-- Messages of the same session that a newer sequence cuts short (16 R536). -/
def Device.dropOlder (d : Device) (p a : Nat) (f : Fragment) : Device :=
  forL (d.proto.reassembly.filter fun r =>
    r.port == p && r.address == a && r.hdr.session == f.session && decide (r.hdr.sequence < f.sequence)) (fun r d => d.dropReassembly r) d

/-- Bytes of a message covered by its fragments. -/
def Reassembly.covered (r : Reassembly) : Nat := (r.got.map fun g => g.2.length).sum

/-- A fragment overlaps what has arrived. -/
def Reassembly.overlapped (r : Reassembly) (f : Fragment) : Bool :=
  r.got.any fun g => g.1 == f.offset || rangesOverlap g.1 g.2.length f.offset f.data.length
where
  /-- Two byte ranges share a byte. -/
  rangesOverlap (a n b m : Nat) : Bool := decide (a < b + m) && decide (b < a + n)

/-- The payload of a message whose fragments cover it. -/
def Reassembly.payload (r : Reassembly) : List Byte :=
  forL r.got (fun g bs => patchAt bs g.1 g.2) (List.replicate r.hdr.length 0)

/-- Path of a request that arrived over Ethernet (16 R541: recovery messages in RECOVERY). -/
def ethPath (md : Mode) (p : Fin 3) (a : Nat) : Path := if md = .recovery then .recovery true else .eth p a

/-- A complete message waits for execution (16 R540). -/
def Device.completeMessage (d : Device) (md : Mode) (p : Fin 3) (r : Reassembly) : Device :=
  { d with proto := { d.proto with reassembly := d.proto.reassembly.erase r } }.addReady
    { path := ethPath md p r.address, msgType := r.hdr.msgType, major := r.hdr.major, minor := r.hdr.minor
      sequence := r.hdr.sequence, session := r.hdr.session, payload := r.payload }

/-- A legal fragment joins its message. -/
def Device.joinFragment (d : Device) (md : Mode) (p : Fin 3) (a : Nat) (f : Fragment) : Device :=
  let r : Reassembly := (d.proto.reassembly.find? fun r => r.same p.val a f).getD { port := p.val, address := a, hdr := f, got := [] }
  if ¬ fragmentAgrees r.hdr f then d
  else if r.overlapped f then d.dropReassembly r
  else
    let r' := { r with got := r.got ++ [(f.offset, f.data)] }
    let d := { d with proto := { d.proto with reassembly := d.proto.reassembly.erase r ++ [r'] } }
    if f.length ≤ r'.covered then d.completeMessage md p r' else d

/-- A fragment of a request (16 R535, R536). A header that states too great a length is answered once its first fragment has
been read. -/
def Device.takeFragment (d : Device) (md : Mode) (p : Fin 3) (a : Nat) (f : Fragment) : Device :=
  let hdr : ReqHdr := { path := ethPath md p a, major := f.major, minor := f.minor, sequence := f.sequence, session := f.session }
  if maxPayload < f.length then
    if f.offset = 0 then d.respond md hdr f.msgType St.FORMAT [] else d
  else if ¬ fragmentLegal f (d.fragmentMax p.val) then d
  else (d.dropOlder p.val a f).joinFragment md p a f

/-- A link-local IPv6 address, fe80::/10, with its first byte in bits 7:0 (16 R533, R541). -/
def linkLocal (a : Nat) : Bool := a % 256 == 0xFE && a / 256 % 256 / 64 == 2

/-- A frame with a fragment passes the filters of a port (16 R530, R533, R538, R541; 15 R491): in RECOVERY from any link-local
source. An OPEN passes whoever sends it: R538 judges its address. Responses of the model server pass to their own command. -/
def State.admits (s : State) (p : Nat) (a : Nat) (f : Fragment) : Bool :=
  let d := s.dev
  if s.mode = .recovery then linkLocal a
  else d.carries p 0 && (f.msgType == 1 || (d.hostRoles a).isSome)

/-- A frame that a port accepts is counted (16 R559). -/
def Device.acceptFrame (d : Device) (p : Nat) : Device := d.bump (Reg.ETH_PORT_RX_frames p) 1

/-- A frame discarded by address, port, VLAN or host table is counted (16 R559). -/
def Device.filterFrame (d : Device) (p : Nat) : Device := d.bump (Reg.ETH_PORT_DROP_filtered p) 1

/-- MAC address of a port (15 R491). -/
def State.portMac (s : State) (p : Nat) : Nat := s.otp.macs.getD p 0

/-- Addresses under which a port is reached: the link-local one, and those of the faceplate; in RECOVERY, where no faceplate is
applied, the link-local one alone (15 R491; 16 R530, R533). -/
def State.portAddresses (s : State) (p : Nat) : List Nat := linkLocalOf (s.portMac p) :: s.dev.givenAddresses p

/-- A datagram is for the part: to an address of the port and its UDP port (16 R530, R533; 15 R491). -/
def State.datagramFor (s : State) (p : Nat) (u : Datagram) : Bool :=
  (s.portAddresses p).contains u.destination && u.destPort == s.dev.udpPort

/-- What an ARP request, a neighbour solicitation or an echo request for an address of the port is answered with (16 R530). -/
def State.netReply (s : State) (p : Nat) : EthPayload → Option NetReply
  | .resolve src target =>
    if (s.portAddresses p).contains target then some { port := p, dest := src, source := target, mac := some (s.portMac p), data := [] }
    else none
  | .echo src dst data =>
    if (s.portAddresses p).contains dst then some { port := p, dest := src, source := dst, mac := none, data } else none
  | _ => none

/-- A frame other than gPTP and MKA that the port's security, address or VLAN stops, counted as such (16 R532, R559). A resolution
request is also sent to a group address. In RECOVERY no VLAN is set. -/
def State.frameStopped (s : State) (p : Nat) (secured icvOk : Bool) (destMac vlan : Nat) (body : EthPayload) (d : Device) : Option Device :=
  let grouped : Bool := match body with | .resolve _ _ => bitAt destMac 0 | _ => false
  if d.portFlag p 2 ∧ (¬ secured ∨ ¬ d.proto.macsec.getD p false) then some (d.bump (Reg.ETH_PORT_MACSEC_unsecured p) 1)
  else if d.portFlag p 2 ∧ ¬ icvOk then some (d.bump (Reg.ETH_PORT_MACSEC_icv_failures p) 1)
  else if (destMac ≠ s.portMac p ∧ ¬ grouped) ∨ (s.mode ≠ .recovery ∧ vlan ≠ d.portVlan p) then some (d.filterFrame p)
  else none

/-- A datagram with a fragment of a message that has reached the port (16 R530, R535, R536). -/
def State.takeDatagram (s : State) (port : Fin 3) (u : Datagram) (f : Fragment) (d : Device) : Device :=
  let p := port.val
  if u.fragmented then d
  else if ¬ s.datagramFor p u then d.filterFrame p
  else if f.msgType = 0x40 ∧ bitAt f.flags 0 then d.acceptFrame p
  else if ¬ s.admits p u.source f then d.filterFrame p
  else if ¬ s.served (ethPath s.mode port u.source) then d.acceptFrame p
  else (d.acceptFrame p).takeFragment s.mode port u.source f

/-- ETH_FRAME_RECEIVED (16 R530, R532, R536, R559). A fragmented IP datagram is discarded, and no counter is for it. An answer of
the network layer goes out in a frame of its own (DEDUCED, log entry 77). -/
def execEthFrameReceived (port : Fin 3) (secured icvOk : Bool) (destMac vlan : Nat) (body : EthPayload) (at_ : Nat) (s : State) :
    Host.Outcome State Fault Refusal :=
  let p := port.val
  let d := s.dev.stamp at_
  if ¬ s.portTakes p then nextD s d
  else
    match body with
    | .gptp => nextD s (d.acceptFrame p)
    | .mka live =>
      let d := if d.portFlag p 2 then { d with proto := { d.proto with macsec := lset d.proto.macsec p live } } else d
      nextD s (d.acceptFrame p)
    | .fragment u f =>
      match s.frameStopped p secured icvOk destMac vlan body d with
      | some d => nextD s d
      | none => nextD s (s.takeDatagram port u f d)
    | .resolve _ _ | .echo _ _ _ =>
      match s.frameStopped p secured icvOk destMac vlan body d with
      | some d => nextD s d
      | none =>
        match s.netReply p body with
        | some r =>
          nextD s ({ d with proto := { d.proto with replies := r :: d.proto.replies } }.acceptFrame p |>.bump (Reg.ETH_PORT_TX_frames p) 1)
        | none => nextD s (d.filterFrame p)
    | .other fragmented =>
      match s.frameStopped p secured icvOk destMac vlan body d with
      | some d => nextD s d
      | none => nextD s (if fragmented then d else d.acceptFrame p)

/-- A frame leaves a port, with its class as the PCP, and is counted (16 R531, R559). -/
def Device.sendFrame (d : Device) (p : Nat) (f : TxFrame) : Device :=
  { d with proto := { d.proto with txLast := lset d.proto.txLast p (some f) } }.bump (Reg.ETH_PORT_TX_frames p) 1

/-- A fragment of a message leaves the output queue of a port in a frame: as many bytes as F allows, with last_fragment where it ends
the message's payload (16 R535; that no fragment is shorter than it can be is DEDUCED, log entry 77). -/
def Device.sendFragment (d : Device) (p : Nat) (e : TxEntry) : Device :=
  let n := min e.left (d.fragmentMax p)
  { d with proto := { d.proto with
      txq := lset d.proto.txq p (dequeue d.emitting e.cls n (d.sendQueue p)) } }.sendFrame p
    { cls := e.cls, offset := e.sent, bytes := n, last := e.more == 0 && n == e.left }

/-- EMITs whose bytes were refused offer them again (07 R256). -/
def Device.offerAgain (d : Device) (md : Mode) : Device :=
  forL d.usedChans (fun ch d =>
    match (d.chan ch).active with
    | some x =>
      match d.findItem x.item x.turn with
      | some r => if r.item.opcode = 4 ∧ (d.chan ch).refused then d.emitPump md ch else d
      | none => d
    | none => d) d

/-- ETH_FRAME_TRANSMITTED: a frame leaves the port with a fragment of the oldest message of the class that strict priority among the
open gates serves; a control frame is gPTP or MKA, of class 7, and on a port with MACsec and no live peer there is no other (16 R531,
R532, R535, R559). With no open gate for it no frame leaves. -/
def execEthFrameTransmitted (port : Fin 3) (control : Bool) (s : State) : Host.Outcome State Fault Refusal :=
  let p := port.val
  let d := s.dev
  if control then
    (if d.gateOpen p 7 then nextD s (d.sendFrame p { cls := 7, offset := 0, bytes := 0, last := false }) else .next s)
  else
    match (d.servedClass p).bind fun cls => d.headOf p cls with
    | none => .next s
    | some e => settle s ((d.sendFragment p e).offerAgain s.mode)

/-- MACSEC_PEER_TIMEOUT (16 R532, R560). -/
def execMacsecPeerTimeout (port : Fin 3) (s : State) : Host.Outcome State Fault Refusal :=
  let p := port.val
  let d := s.dev
  if ¬ s.portTakes p ∨ ¬ d.portFlag p 2 then nextD s d
  else nextD s ({ d with proto := { d.proto with macsec := lset d.proto.macsec p false } }.raise Ev.MACSEC_DOWN (fwPayload p 5 0))


/-- QBV_GATE_CHANGE: the next entry of the list is in force; the last one runs to the end of the turn (16 R530, R531, R533). -/
def execQbvGateChange (port : Fin 3) (s : State) : Host.Outcome State Fault Refusal :=
  let p := port.val
  let d := s.dev
  let k := d.proto.gate.getD p 0
  nextD s (if d.rdB (Reg.ETH_PORT_CTRL_gate_en p) ∧ k + 1 < d.gateCount p then
      { d with proto := { d.proto with gate := lset d.proto.gate p (k + 1) } } else d)

/-- COMPONENT_RESTART_DONE (13 R432; 16 R526). The health monitor itself comes back only with a start (13 R433). -/
def execComponentRestartDone (component : Fin 8) (s : State) : Host.Outcome State Fault Refusal :=
  if component.val = 4 then .next s else
  nextD s { s.dev with proto := { s.dev.proto with restarting := lset s.dev.proto.restarting component.val false } }

end Sys2Proof.Machine
end

