-- ==== Sys2Proof/Machine/Update.lean ====
section
/-! DEFINITION. The update agent and the recovery exchange: UPDATE_BEGIN to UPDATE_STATUS, RECOVERY_STATUS to RECOVERY_COMMIT (16
R541, R548, R549, R551; 15 R491, R492, R520, R522). -/

namespace Sys2Proof.Machine

-- Staged objects (16 R548).

/-- Payload type as which a kind of object is checked at UPDATE_END. -/
def stagedType (kind : Nat) : Nat :=
  match kind with
  | 1 => 1
  | 2 => 5
  | 3 | 4 => 3
  | _ => 4


/-- Place of a staged object of kinds 1 to 4 in the firmware area, and its room (16 R548; where in the area DESIGN CHOICE, log entry
21). -/
def Device.stagedBase (d : Device) (kind : Nat) : Nat :=
  (d.area 2).1 + (match kind with | 1 => 0x18000000 | 2 => 0x1A000000 | 3 => 0x20000000 | _ => 0x30000000)
def stagedRoom (kind : Nat) : Nat := match kind with | 1 => 0x2000000 | 2 => 0x6000000 | _ => 0x10000000

/-- The bytes of a staged object, as Headstock reads them (16 R548; 08 R276). -/
def Device.readStaged (d : Device) (md : Mode) (x : Staged) : List Byte × Device :=
  if x.kind = 5 then (cellsRead x.data 0 x.length, d)
  else
    let (bs, _, d) := d.readChecked md .headstock (d.stagedBase x.kind) x.length
    (bs, d)

/-- A staged object that has passed UPDATE_END, by kind. -/
def Device.stagedOf (d : Device) (kind : Nat) : Option Staged := d.upd.objects.find? fun x => x.kind == kind && x.ended

/-- Another BEGIN of the same object replaces the earlier one (16 R548). -/
def sameObject (kind modelId : Nat) (x : Staged) : Bool := x.kind == kind && (kind != 5 || x.modelId == modelId)

/-- DRAM offsets of an object or binding and its length overlap. -/
def rangesMeet (a n b m : Nat) : Bool := decide (a < b + m) && decide (b < a + n)

/-- An object finds no place. One of kind 5 or 6 overlaps another staged object or a binding of the active plan, or does not lie in
the NE area (16 R548; the last is DEDUCED, log entry 34); one of another kind is longer than its place in the firmware area (DESIGN
CHOICE, log entry 21). -/
def Device.noSpace (d : Device) (kind modelId offset length : Nat) : Bool :=
  let bound := match d.seq.plan with | some p => p.bindings.map (fun b => (fieldOf b 8 8, fieldOf b 16 8)) | none => []
  let others := (d.upd.objects.filter fun x => (x.kind == 5 || x.kind == 6) && !sameObject kind modelId x).map fun x => (x.neOffset, x.length)
  if kind = 5 ∨ kind = 6 then
    (bound ++ others).any (fun r => rangesMeet offset length r.1 r.2) || decide ((d.area 0).2 < offset + length)
  else decide (stagedRoom kind < length)

/-- Update state after BEGIN: staging, but a verdict stands until the next END (16 R549). -/
def Update.begun (u : Update) : Nat := if u.state = 4 ∨ u.state = 5 then u.state else 1

/-- Update state after END or after an object is discarded (16 R549). -/
def Update.afterEnd (u : Update) : Nat :=
  if u.objects.isEmpty then 0 else if u.state = 4 ∨ u.state = 5 ∨ u.objects.all (fun x => x.ended) then 2 else 1

/-- An object is staged, its data to come. Answers its handle. -/
def Device.beginObject (d : Device) (kind modelId length neOffset : Nat) (digest : List Byte) : Nat × Device :=
  let u := d.upd
  let x : Staged := { handle := u.nextHandle, kind, modelId, length, neOffset, digest }
  (x.handle, { d with upd := { u with
    objects := u.objects.filter (fun y => !sameObject kind modelId y) ++ [x], nextHandle := u.nextHandle + 1, state := u.begun } })

/-- UPDATE_BEGIN (16 R548). -/
def execUpdateBegin (hdr : ReqHdr) (kind modelId length neOffset : Nat) (digest : List Byte) (s : State) :
    Host.Outcome State Fault Refusal :=
  .next (s.serve hdr 0x50 roleM inParked fun s =>
    if kind = 0 ∨ 6 < kind ∨ digest.length ≠ 64 then (St.FORMAT, [], s)
    else if s.dev.noSpace kind modelId neOffset length then (St.NO_SPACE, [], s)
    else
      let (h, d) := s.dev.beginObject kind modelId length neOffset digest
      (St.OK, leBytes 4 h, { s with dev := d }))

/-- Data reaches a staged object: kinds 1 to 4 stand in the firmware area and a replay set in the NE area; a model's container waits
with the update agent (16 R548). -/
def Device.stageData (d : Device) (md : Mode) (x : Staged) (offset : Nat) (data : List Byte) : Device :=
  if x.kind = 6 then (d.writeChecked md .headstock ((d.area 0).1 + x.neOffset + offset) data).2
  else if x.kind ≠ 5 then (d.writeChecked md .headstock (d.stagedBase x.kind + offset) data).2
  else
    let y := { x with data := cellsWrite x.data offset data }
    { d with upd := { d.upd with objects := d.upd.objects.map fun z => if z.handle = x.handle then y else z } }

/-- UPDATE_DATA (16 R541, R548). -/
def execUpdateData (hdr : ReqHdr) (handle offset : Nat) (data : List Byte) (s : State) : Host.Outcome State Fault Refusal :=
  .next (s.serve hdr 0x51 roleM inParked fun s =>
    match s.dev.upd.objects.find? (fun x => x.handle == handle && !x.ended) with
    | none => (St.FORMAT, [], s)
    | some x =>
      if x.length < offset + data.length then (St.FORMAT, [], s)
      else (St.OK, [], { s with dev := s.dev.stageData s.mode x offset data }))

/-- Verdict on an object of such bytes at UPDATE_END: 0, or the reason of 15 R485, or 0xB (16 R541, R548). An image or a faceplate
longer than its slot or copy runs past its storage (15 R482). -/
def Device.stagedReason (d : Device) (o : Otp) (x : Staged) (bs : List Byte) : Nat :=
  if x.kind = 6 then 0
  else
    let r := match x.kind with
      | 1 => if slotSize < bs.length ∨ bs.length < cTotal bs then 1 else slotReason o d.life (sliceOf bs)
      | 2 => if copySize < bs.length then 1 else d.faceplateReason o bs.length (sliceOf bs)
      | k => containerReason o d.life (stagedType k) bs.length (fun _ => true) (sliceOf bs)
    if r ≠ 0 then r else if cDigest bs ≠ x.digest then 7 else 0

/-- An object that fails is reported; a container that fails a check of 15 R485 is reported as one too (15 R522; 16 R548, R560). -/
def Device.refuseObject (d : Device) (x : Staged) (r : Nat) : Device :=
  (if 1 ≤ r ∧ r ≤ 10 then d.rejectContainer r (stagedType x.kind) x.modelId else d).raise Ev.UPDATE_REFUSED (fwPayload 0xFF 7 (x.kind + r * 256))

/-- An object ends its staging: kept and reported, or discarded and reported (16 R548). A model's payload takes its place. -/
def Device.endObject (d : Device) (o : Otp) (md : Mode) (x : Staged) : Nat × Device :=
  let (bs, d) := if x.kind = 6 then ([], d) else d.readStaged md x
  let r := d.stagedReason o x bs
  let rest := d.upd.objects.map (fun z => if z.handle = x.handle then { z with ended := true } else z)
  let kept := if r = 0 then rest else rest.filter fun z => z.handle != x.handle
  let u := { d.upd with objects := kept }
  let d := { d with upd := { u with state := u.afterEnd } }
  let d := if r = 0 ∧ x.kind = 5 then (d.writeChecked md .headstock ((d.area 0).1 + x.neOffset) (containerPayload bs)).2 else d
  (r, if r = 0 then d.raise Ev.UPDATE_STAGED (fwPayload 0xFF 7 x.kind) else d.refuseObject x r)

/-- UPDATE_END (16 R541, R548). -/
def execUpdateEnd (hdr : ReqHdr) (handle : Nat) (s : State) : Host.Outcome State Fault Refusal :=
  .next (s.serve hdr 0x52 roleM inParked fun s =>
    match s.dev.upd.objects.find? (fun x => x.handle == handle && !x.ended) with
    | none => (St.FORMAT, [], s)
    | some x =>
      let (r, d) := s.dev.endObject s.otp s.mode x
      (reasonStatus r, leBytes 1 r, { s with dev := d }))

/-- UPDATE_DISCARD (16 R541). -/
def execUpdateDiscard (hdr : ReqHdr) (s : State) : Host.Outcome State Fault Refusal :=
  .next (s.serve hdr 0x56 roleM inParked fun s =>
    (St.OK, [], { s with dev := { s.dev with upd := { s.dev.upd with objects := [], state := 0 } } }))

/-- Payload of the UPDATE_STATUS response (16 R541): only objects that have passed their END count as staged. -/
def Update.payload (u : Update) : List Byte :=
  let done := u.objects.filter fun x => x.ended
  leBytes 1 u.state ++ leBytes 1 u.failing ++ leBytes 2 done.length ++
    leBytes 2 ((List.range 7).map fun k => if done.any (fun x => x.kind == k) then 2 ^ k else 0).sum

/-- UPDATE_STATUS (16 R541, R549). -/
def execUpdateStatus (hdr : ReqHdr) (s : State) : Host.Outcome State Fault Refusal :=
  .next (s.serve hdr 0x57 roleMO anyState fun s => (St.OK, s.dev.upd.payload, s))

-- Acceptance (16 R551, 15 R520).

/-- An image or a faceplate is written to the flash from an offset; the retained-state record flags it, and the next warm start
becomes a cold one (15 R514, R518). -/
def Device.writeFlash (d : Device) (face : Bool) (at_ : Nat) (bs : List Byte) : Device :=
  { d with boot := { d.boot with
    flash := flashWrite d.boot.flash at_ bs
    retained := d.boot.retained.map fun r => { r with pendingImage := r.pendingImage || !face, pendingFace := r.pendingFace || face }.seal } }

/-- What has been written reads back as it was checked (15 R492, R520). -/
def Device.readsBack (d : Device) (at_ : Nat) (bs : List Byte) : Bool := flashRead d.boot.flash at_ bs.length == bs

/-- UPDATE_SEQ_REFUSED (15 R520, R522): the payload names the type of the object. -/
def Device.refuseSequence (d : Device) (type : Nat) : Device := d.raise Ev.UPDATE_SEQ_REFUSED (0xA + type * 256)

/-- The firmware image goes into the slot that is not booted when its sequence exceeds the booted one's; it is read back and checked
(15 R482, R520). -/
def Device.writeImage (d : Device) (bs : List Byte) : Bool × Device :=
  if cSeq bs ≤ d.bootSeq then (false, d.refuseSequence 1)
  else
    let at_ := slotBase (1 - d.rd Reg.HS_STATUS_boot_slot)
    let d := d.writeFlash false at_ (bs.take slotSize)
    (d.readsBack at_ (bs.take slotSize), d)

/-- The faceplate goes into the copy that is not in use when its sequence exceeds that copy's; it is read back and checked (15 R482,
R520). -/
def Device.writeCopy (d : Device) (bs : List Byte) : Bool × Device :=
  if cSeq bs ≤ d.rd Reg.HS_FP_SEQ_seq then (false, d.refuseSequence 5)
  else
    let at_ := copyBase (1 - d.rd Reg.HS_FACEPLATE_copy_used)
    let d := d.writeFlash true at_ (bs.take copySize)
    (d.readsBack at_ (bs.take copySize), d)

/-- One object of step 2 of 16 R551. -/
def Device.acceptOne (d : Device) (md : Mode) (kind : Nat) : Bool × Device :=
  match d.stagedOf kind with
  | some x =>
    let (bs, d) := d.readStaged md x
    if kind = 1 then d.writeImage bs else d.writeCopy bs
  | none => (true, d)

/-- Step 2 of 16 R551, the image before the faceplate. -/
def Device.acceptFlash (d : Device) (md : Mode) : Bool × Device :=
  match d.acceptOne md 1 with
  | (false, d) => (false, d)
  | (true, d) => d.acceptOne md 2

/-- Step 3 of 16 R551: the plan is checked and activated; it is the plan that a warm start verifies (15 R515 W7), and the
retained-state record holds its digest (15 R514). -/
def Device.acceptPlan (d : Device) (md : Mode) (x : Staged) : Option (Nat × Nat) × Device :=
  let (bs, d) := d.readStaged md x
  match d.offerPlan md { replay := false } true (containerPayload bs) (cDigest bs) with
  | (some r, d) => (some r, d)
  | (none, d) =>
    let d := { d with boot := { d.boot with retained := d.boot.retained.map fun (r : Retained) => { r with planDigest := cDigest bs }.seal } }
    let d := d.placePlan md bs
    match d.planEntry with
    | some f => (none, d.setFetch { f with data := [], got := bs.length, complete := true, accepted := true })
    | none => (none, d)

/-- The staged update is cleared and reported with the kinds applied (16 R551). -/
def Device.acceptDone (d : Device) : Device :=
  let kinds := ((List.range 7).map fun k =>
    if (k = 1 ∨ k = 2 ∨ k = 3 ∨ k = 5) ∧ (d.stagedOf k).isSome then 2 ^ k else 0).sum
  { d with upd := { d.upd with objects := [], state := 0 } }.raise Ev.UPDATE_ACCEPTED (fwPayload 0xFF 7 kinds)

/-- UPDATE_ACCEPT's steps: status and response payload (16 R551). -/
def Device.acceptUpdate (d : Device) (md : Mode) : Nat × List Byte × Device :=
  if ((d.stagedOf 3).isSome ∨ (d.stagedOf 5).isSome) ∧ d.upd.state ≠ 4 then (St.REFUSED, leBytes 1 1, d)
  else
    match d.acceptFlash md with
    | (false, d) => (St.REFUSED, leBytes 1 2, d)
    | (true, d) =>
      match d.stagedOf 3 with
      | none => (St.OK, [], d.acceptDone)
      | some x =>
        match d.acceptPlan md x with
        | (some r, d) => (St.REFUSED, leBytes 1 3 ++ leBytes 1 r.1, d)
        | (none, d) => (St.OK, [], d.acceptDone)

/-- UPDATE_ACCEPT (16 R551). -/
def execUpdateAccept (hdr : ReqHdr) (s : State) : Host.Outcome State Fault Refusal :=
  .next (s.serve hdr 0x55 roleM inParked fun s =>
    let (st, payload, d) := s.dev.acceptUpdate s.mode
    (st, payload, { s with dev := d }))

-- The recovery exchange (15 R491, R492; 16 R541).

/-- A recovery message is served in RECOVERY only; it belongs to no session. -/
def State.recover (s : State) (h : ReqHdr) (type : Nat) (body : State → Nat × List Byte × State) : State :=
  let s' := { s with dev := s.dev.takeReady h }
  if ¬ s.takes h then s
  else if s.mode ≠ .recovery then { s' with dev := s'.dev.respond s.mode h type St.STATE [] }
  else
    match body s' with
    | (st, payload, t) => { t with dev := t.dev.respond s.mode h type st payload }

/-- RECOVERY_STATUS (16 R541, 15 R522). -/
def execRecoveryStatus (hdr : ReqHdr) (s : State) : Host.Outcome State Fault Refusal :=
  .next (s.recover hdr 0xF0 fun s =>
    let d := s.dev
    let r (f : Fld) : List Byte := leBytes 1 (d.rd f)
    (St.OK, r Reg.HS_STATUS_recovery_reason ++ r Reg.HS_SLOT_STATUS_a_reason ++ r Reg.HS_SLOT_STATUS_b_reason ++
      r Reg.HS_FACEPLATE_copy0_reason ++ r Reg.HS_FACEPLATE_copy1_reason ++ leBytes 11 0 ++ d.ev.held.flatMap EventRec.bytes, s))

/-- RECOVERY_WRITE: data of a slot image or a faceplate, kept in memory (15 R492). -/
def execRecoveryWrite (hdr : ReqHdr) (target offset : Nat) (data : List Byte) (s : State) : Host.Outcome State Fault Refusal :=
  .next (s.recover hdr 0xF1 fun s =>
    let b := s.dev.boot
    let put (b : Boot) : Nat × List Byte × State := (St.OK, [], { s with dev := { s.dev with boot := b } })
    if target = 1 ∧ offset + data.length ≤ slotSize then put { b with recoverySlot := cellsWrite b.recoverySlot offset data }
    else if target = 2 ∧ offset + data.length ≤ copySize then put { b with recoveryFace := cellsWrite b.recoveryFace offset data }
    else (St.FORMAT, [], s))

/-- The slot that a recovery image goes to: one with a non-zero verdict, A when both have one; none when both are valid (15
R492). -/
def Device.recoveryTarget (d : Device) : Option Nat :=
  if d.rd Reg.HS_SLOT_STATUS_a_reason ≠ 0 then some 0 else if d.rd Reg.HS_SLOT_STATUS_b_reason ≠ 0 then some 1 else none

/-- An object is checked in memory, as many bytes of it as the request names, and written: the reason when it fails, and whether what
was written reads back valid (15 R492). -/
def Device.commitRecovery (d : Device) (o : Otp) (target total : Nat) : Nat × List Byte × Bool × Device :=
  if target = 1 ∧ total ≤ slotSize then
    let bs := cellsRead d.boot.recoverySlot 0 total
    let r := if total < cTotal bs then 1 else slotReason o d.life (sliceOf bs)
    if r ≠ 0 then (St.REFUSED, leBytes 1 r, false, d)
    else
      match d.recoveryTarget with
      | some k =>
        let d := d.writeFlash false (slotBase k) bs
        (St.OK, leBytes 1 0, d.readsBack (slotBase k) bs, d)
      | none => (St.STATE, [], false, d)
  else if target = 2 ∧ total ≤ copySize then
    if d.rd Reg.HS_STATUS_recovery_reason ≠ 3 then (St.STATE, [], false, d)
    else
      let bs := cellsRead d.boot.recoveryFace 0 total
      let r := d.faceplateReason o total (sliceOf bs)
      if r ≠ 0 then (St.REFUSED, leBytes 1 r, false, d)
      else
        let d := d.writeFlash true (copyBase 0) bs
        (St.OK, leBytes 1 0, d.readsBack (copyBase 0) bs, d)
  else (St.FORMAT, [], false, d)

/-- RECOVERY_COMMIT: when the object that was written reads back valid, the part enters COLD_START (15 R492). -/
def execRecoveryCommit (hdr : ReqHdr) (target total : Nat) (s : State) : Host.Outcome State Fault Refusal :=
  let go := s.takes hdr && s.mode == .recovery && (s.dev.commitRecovery s.otp target total).2.2.1
  let t := s.recover hdr 0xF2 fun s =>
    let (st, payload, _, d) := s.dev.commitRecovery s.otp target total
    (st, payload, { s with dev := d })
  .next (if go then t.requestCold else t)

end Sys2Proof.Machine
end

