-- ==== Sys2Proof/Machine/Replay.lean ====
section
/-! DEFINITION. The replay loader and the validation of a candidate: replay sets, sample order, decoding, batches, injection,
start, end and verdict (11 R360 to R376; 16 R549, R550). -/

namespace Sys2Proof.Machine

-- Sample order (11 R366).

/-- Half width h of the Feistel network for N samples. -/
def feistelHalf (n : Nat) : Nat := max 1 (ceilDiv (if n ≤ 1 then 0 else lg2 (n - 1) + 1) 2)

/-- Round function of round r. -/
def feistelRound (key : List Byte) (h r v : Nat) : Nat :=
  fieldOf (shake256 (sliceOf key (16 * r) 16 ++ leBytes 4 v)) 0 8 % 2 ^ h

/-- One pass of the network over x. -/
def feistelPass (key : List Byte) (h x : Nat) : Nat :=
  let lr := (List.range 4).foldl (fun (p : Nat × Nat) r => (p.2, p.1 ^^^ feistelRound key h r p.2)) (x / 2 ^ h, x % 2 ^ h)
  lr.1 * 2 ^ h + lr.2

/-- Passes until the number lies below n; the network permutes 2^2h numbers, which bounds the passes. -/
def feistelWalk (key : List Byte) (h n : Nat) : Nat → Nat → Nat
  | 0, x => x
  | fuel + 1, x =>
    let y := feistelPass key h x
    if y < n then y else feistelWalk key h n fuel y

/-- The sample that position p of an epoch delivers (11 R366). -/
def samplePerm (seed epoch n p : Nat) : Nat :=
  let h := feistelHalf n
  feistelWalk (shake256 (leBytes 8 seed ++ leBytes 4 epoch)) h n (2 ^ (2 * h)) p

-- The set (11 R364, R365).

/-- A frame table entry from its bytes. -/
def parseRplFrame (b : List Byte) : RplFrame :=
  { stream := fieldOf b 0 1 % 32, decoder := fieldOf b 1 1, inject := fieldOf b 2 1, offset := fieldOf b 4 8, length := fieldOf b 12 4,
    startNs := fieldOf b 16 4, linePs := fieldOf b 20 4, epoch := fieldOf b 24 2, marks := fieldOf b 26 2, crc := fieldOf b 28 4 }

/-- Injection point and warp output of a frame. -/
def RplFrame.point (f : RplFrame) : Nat := f.inject % 16
def RplFrame.output (f : RplFrame) : Nat := f.inject / 16 % 4

/-- A frame table keeps 11 R365; a decoder stream that is not enabled is none of the loader's (DEDUCED, log entry 41). -/
def Device.tableOk (d : Device) (fs : List RplFrame) : Bool :=
  fs.all (fun f => decide (f.decoder < 48) && decide (f.point < 4) && d.rdB (Reg.VID_DEC_CFG_enable f.decoder)) &&
    decide ((fs.map RplFrame.stream).Nodup)

/-- A read of the set by the loader: bytes, whether every codeword was good, the device. -/
def Device.readSet (d : Device) (md : Mode) (off n : Nat) : List Byte × Bool × Device :=
  let (bs, bad, d) := d.guardedRead md .engine (d.vid.replay.setBase + off) n
  (bs, bad.isNone, d)

/-- The frames of a table. -/
def tableFrames (bs : List Byte) (count : Nat) : List RplFrame :=
  (List.range count).map fun k => parseRplFrame (sliceOf bs (32 * k) 32)

/-- The bitstreams of a sample are read and their CRCs checked: reason and stream of the first that fails (11 R367). -/
def Device.checkStreams (d : Device) (md : Mode) : List RplFrame → Option (Nat × Nat) × Device
  | [] => (none, d)
  | f :: fs =>
    let (bs, ok, d) := d.readSet md f.offset f.length
    if ¬ ok then (some (5, f.stream), d)
    else if crc32 bs ≠ f.crc then (some (2, f.stream), d)
    else d.checkStreams md fs

/-- A sample is loaded: its frames, or the reason it is corrupt and the failing stream, 0xFF when none (11 R367, R369). -/
def Device.loadSample (d : Device) (md : Mode) (k : Nat) : (RplSample ⊕ (Nat × Nat)) × Device :=
  let (e, ok, d) := d.readSet md (64 + 16 * k) 16
  let count := fieldOf e 8 2
  if ¬ ok then (.inr (5, 0xFF), d)
  else if count = 0 ∨ 32 < count then (.inr (1, 0xFF), d)
  else
    let (bs, ok, d) := d.readSet md (fieldOf e 0 8) (32 * count)
    let fs := tableFrames bs count
    if ¬ ok then (.inr (5, 0xFF), d)
    else if crc32 bs ≠ fieldOf e 12 4 ∨ ¬ d.tableOk fs then (.inr (1, 0xFF), d)
    else
      match d.checkStreams md fs with
      | (some r, d) => (.inr r, d)
      | (none, d) => (.inl { index := k, frames := fs }, d)

/-- The loader's state changed. -/
def Device.setReplay (d : Device) (g : Replay → Replay) : Device :=
  { d with vid := { d.vid with replay := g d.vid.replay } }

/-- Entries of the skip log (16 R550). -/
def skipLogEntries : Nat := 65536

/-- A corrupt sample is skipped: skip log, counts and event (11 R368, R369). The register's field shows a full log as 0xFFFF (DEDUCED,
log entry 41). -/
def Device.skipSample (d : Device) (md : Mode) (index reason stream : Nat) : Device :=
  let w := d.vid.replay.logged
  let base := d.rdPair Reg.VID_RPL_SKIPLOG_LO_log_lo Reg.VID_RPL_SKIPLOG_HI_log_hi
  let d := if w < skipLogEntries then
      ((d.engineWrite md (base + 8 * w) (leBytes 4 index ++ leBytes 1 reason ++ leBytes 1 stream ++ leBytes 2 0)).wr
        Reg.VID_RPL_SKIPLOG_CFG_written (min (w + 1) 0xFFFF)).setReplay fun r => { r with logged := w + 1 }
    else d
  let d := (d.bump Reg.VID_RPL_COUNT_skipped 1).setReplay fun r => { r with skipped := r.skipped + 1 }
  d.raise Ev.VID_RPL_SAMPLE_SKIPPED (0xFF + index * 2 ^ 32)

-- Batches (11 R368, R372).

/-- Samples of a batch (16 R550). -/
def Device.batchSize (d : Device) : Nat := d.rd Reg.VID_RPL_CFG_batch + 1

/-- Positions have run out: the batch being filled ends the epoch; with drop_last a short one is discarded (11 R368). -/
def RplBatch.ends (b : RplBatch) (size epoch : Nat) (dropLast : Bool) : RplBatch :=
  { samples := if dropLast ∧ b.samples.length < size then [] else b.samples, closed := true, epochEnd := some epoch }

/-- The batch that the loader fills: this turn's while it is short, else the next one (11 R372). -/
def Replay.filling (r : Replay) : RplBatch := if r.current.closed then r.next else r.current

/-- The batch being filled replaced. -/
def Replay.setFilling (r : Replay) (b : RplBatch) : Replay :=
  if r.current.closed then { r with next := b } else { r with current := b }

/-- A full batch closes, and ends its epoch when no position is left. -/
def Replay.closeIfDone (r : Replay) (size : Nat) (dropLast : Bool) : Replay :=
  let b := r.filling
  if b.closed then r
  else if r.samples ≤ r.pos then
    { (r.setFilling (b.ends size r.epoch dropLast)) with
      epochsLeft := r.epochsLeft - 1, epoch := (r.epoch + 1) % 2 ^ 32, pos := 0 }
  else if size ≤ b.samples.length then r.setFilling { b with closed := true }
  else r

/-- The loader takes samples until one is under decoding or both batches are closed (11 R367, R368, R372). -/
def Device.loadMore (d : Device) (md : Mode) : Nat → Device
  | 0 => d
  | fuel + 1 =>
    let size := d.batchSize
    let d := d.setReplay fun r => if r.decoding.isSome ∨ r.epochsLeft = 0 then r else r.closeIfDone size (d.rdB Reg.VID_RPL_CFG_drop_last)
    let d := d.wr Reg.VID_RPL_POS_position d.vid.replay.pos
    let r := d.vid.replay
    if r.decoding.isSome ∨ r.epochsLeft = 0 ∨ r.filling.closed then d
    else
      let k := samplePerm (d.rdPair Reg.VID_RPL_SEED_LO_seed Reg.VID_RPL_SEED_HI_seed) r.epoch r.samples r.pos
      let d := d.setReplay fun r => { r with pos := r.pos + 1 }
      match d.loadSample md k with
      | (.inl x, d) => (d.setReplay fun r => { r with decoding := some x }).wr Reg.VID_RPL_POS_position (r.pos + 1)
      | (.inr (reason, stream), d) => (d.skipSample md k reason stream).loadMore md fuel


/-- The loader goes on as far as it can without a decoder's result: at most the samples left and a few batch ends. -/
def Device.pumpLoader (d : Device) (md : Mode) : Device := (d.loadMore md (2 * d.vid.replay.samples + 4)).showReplay

-- Decoding (11 R361, R362, R367).

/-- A declared size keeps the decoder stream's limits (11 R361). -/
def Device.sizeOk (d : Device) (k w h : Nat) : Bool :=
  decide (w ≤ d.rd (Reg.VID_DEC_MAX_max_w k)) && decide (h ≤ d.rd (Reg.VID_DEC_MAX_max_h k)) && decide (w ≤ 8192) && decide (h ≤ 8192)

/-- The subsets of 11 R360. HEVC: Main (general_profile_idc 1) with 8 bits, Main 10 (2) with 8 or 10, up to level 6.2
(general_level_idc 186), 4:2:0. AV1: seq_profile 0 with 8 or 10 bits, 4:2:0 or monochrome. -/
def supported (b : Bitstream) : Bool :=
  !b.excluded && (if b.av1 then b.profile == 0 && (b.bits == 8 || b.bits == 10) && (b.chroma420 || b.mono)
    else ((b.profile == 1 && b.bits == 8) || (b.profile == 2 && (b.bits == 8 || b.bits == 10))) && decide (b.level ≤ 186) &&
      b.chroma420 && !b.mono)

/-- The decoder stream takes the bitstream: it is one of its codec, within the subset and the declared limits (11 R360, R361). -/
def Device.takes (d : Device) (k : Nat) (b : Bitstream) : Bool :=
  b.av1 == d.rdB (Reg.VID_DEC_CFG_codec k) && supported b && d.sizeOk k b.width b.height

/-- A plane of n samples, with grey for those that were not reconstructed (11 R362). -/
def greyFill (bits n : Nat) (plane : List (Option Half)) : List Half :=
  let grey := BitVec.ofNat 16 (2 ^ (bits - 1))
  (plane.map fun v => v.getD grey) ++ List.replicate (n - plane.length) grey

/-- The picture of a bitstream, the samples that are missing in grey (11 R360, R362). -/
def pictureOf (b : Bitstream) (width height : Nat) (luma cb cr : List (Option Half)) : Picture :=
  let n := ceilDiv width 2 * ceilDiv height 2
  { ten := b.bits == 10, width, height
    luma := greyFill b.bits (width * height) luma, cb := greyFill b.bits n cb, cr := greyFill b.bits n cr }

/-- The pictures that a decoder has decoded are counted, the incomplete ones reported, and the latest one is kept with its mark (11
R360, R362). -/
def Device.keepDecoded (d : Device) (k n spoiled : Nat) (b : Bitstream) (p : Picture) (incomplete : Bool) : Device :=
  let bad := spoiled + b2n incomplete
  let d := (d.bump (Reg.VID_DEC_STATUS_frames k) n).bump (Reg.VID_DEC_ERR_incomplete k) bad
  let d := forN bad (fun _ d => d.raise Ev.VID_DEC_INCOMPLETE k) d
  { d with vid := { d.vid with
    decPixels := d.vid.decPixels + n * (b.width * b.height)
    decoded := (k, p, incomplete) :: d.vid.decoded.filter fun e => e.1 != k } }

/-- What a result makes of a sample: the counts and event of the decoder, and the reason the sample is corrupt, if it is. -/
def Device.noteResult (d : Device) (k : Nat) (r : DecodeResult) : Option Nat × Option Picture × Device :=
  let rejected := (some 3, none, (d.bump (Reg.VID_DEC_ERR_rejected k) 1).raise Ev.VID_DEC_REJECTED k)
  match r with
  | .decoded b pictures spoiled width height luma cb cr =>
    if ¬ d.takes k b then rejected
    else
      let p := pictureOf b width height (luma.map some) (cb.map some) (cr.map some)
      (none, some p, d.keepDecoded k pictures spoiled b p false)
  | .incomplete b pictures spoiled width height luma cb cr =>
    if ¬ d.takes k b then rejected
    else (some 4, none, d.keepDecoded k pictures spoiled b (pictureOf b width height luma cb cr) true)
  | .readError => (some 5, none, d)

/-- The first frame of a list that waits for a decoder gets its picture. -/
def givePicture (k : Nat) (p : Picture) : List RplFrame → List RplFrame
  | [] => []
  | f :: fs => if f.decoder = k ∧ f.picture.isNone then { f with picture := some p } :: fs else f :: givePicture k p fs

/-- Frames of a batch for a stream, by slot. -/
def RplBatch.framesOf (b : RplBatch) (s : Nat) : List (Nat × RplFrame) :=
  ((List.range b.samples.length).zip b.samples).filterMap fun p => (p.2.frames.find? fun f => f.stream == s).map fun f => (p.1, f)

/-- The moment of a replayed frame's Frame Start in the current batch has come: its offset in the replay turn has passed, and the
batch's frames of its stream before it are complete (11 R371). -/
def Device.startDue (d : Device) (e : RplFrame) : Bool :=
  let r := d.vid.replay
  d.seq.jobBegun && (turnDiff d.turn r.turn != 0 || decide (e.startNs ≤ d.sp.offsetAt d.sp.time)) &&
    (r.current.framesOf e.stream).all fun p => p.2.started.all fun id => (d.frameOf e.stream id).all fun f => f.complete

/-- A frame of the sample under decoding is due in the batch of this turn (11 R372). -/
def Device.sampleLate (d : Device) (x : RplSample) : Bool :=
  let b := d.vid.replay.current
  !b.closed && x.frames.any fun e => d.startDue e && (b.framesOf e.stream).all fun p => p.2.started.isSome

/-- VID_RPL_UNDERRUN for a sample that is late, once (11 R372). -/
def Device.noteLateSample (d : Device) (x : RplSample) : RplSample × Device :=
  if d.sampleLate x ∧ ¬ x.underrun then ({ x with underrun := true }, d.raise Ev.VID_RPL_UNDERRUN 0xFF) else (x, d)

/-- A sample with every frame decoded joins the batch being filled. -/
def Replay.settleSample (r : Replay) (x : RplSample) : Replay :=
  if x.frames.all fun f => f.picture.isSome then
    let r := { r with decoding := none }
    let b := r.filling
    r.setFilling { b with samples := b.samples ++ [x] }
  else { r with decoding := some x }

/-- DECODE_COMPLETE: a picture of the sample under decoding (11 R361, R362, R367). -/
def execDecodeComplete (decoder : Fin 48) (result : DecodeResult) (s : State) : Host.Outcome State Fault Refusal :=
  let d := s.dev
  let k := decoder.val
  match d.vid.replay.decoding with
  | none => .next s
  | some x =>
    match x.frames.find? fun f => f.decoder == k && f.picture.isNone with
    | none => .next s
    | some f =>
      match d.noteResult k result with
      | (some reason, _, d) =>
        let d := d.setReplay fun r => { r with decoding := none }
        settle s ((d.skipSample s.mode x.index reason f.stream).pumpLoader s.mode)
      | (none, some p, d) =>
        let (x, d) := d.noteLateSample { x with frames := givePicture k p x.frames }
        settle s ((d.setReplay fun r => r.settleSample x).pumpLoader s.mode)
      | (none, none, d) => settle s d

-- Injection (11 R370, R371).

/-- The code of a sample at the bypass and T0 points (11 R370). That of a ten-bit sample in a stream of eight bits is not stated: a
free function of the sample (DESIGN CHOICE, log entry 41). -/
def rawCode (p : Picture) (bits v : Nat) : Nat :=
  if ¬ p.ten then v else if bits < 10 then Config.unstated 370 v % 2 ^ bits else v * 2 ^ (bits - 10)

/-- Pixel codes of a row for bypass and T0; pixels beyond the picture are black. -/
def rawRow (p : Picture) (bits width black y : Nat) : List Nat :=
  let got := (((p.luma.drop (y * p.width)).take (min p.width width)).map fun v => rawCode p bits v.toNat)
  got ++ List.replicate (width - got.length) black

/-- Bytes of a pixel for T3 and T4 (11 R370). The code of a ten-bit sample there is not stated: a free function of the sample (DESIGN
CHOICE, log entry 41). -/
def tensorPixel (p : Picture) (wide signed : Bool) (x y : Nat) : List Byte :=
  let c := (y / 2) * ceilDiv p.width 2 + x / 2
  let code (v : Nat) : Nat := if p.ten then Config.unstated 370 v else v
  let at_ (l : List Half) (i : Nat) : Byte := BitVec.ofNat 8 (code (l.getD i 0).toNat)
  let px := if wide then [at_ p.luma (y * p.width + x), at_ p.cb c, at_ p.cr c, 0] else [at_ p.luma (y * p.width + x)]
  px.map fun b => if signed then b ^^^ 0x80 else b

/-- Row y of a picture is written at its injection point (11 R370, R371); a line of the pipe may miss its bound (10 R340). -/
def Device.injectRow (d : Device) (md : Mode) (s : Nat) (f : Frame) (e : RplFrame) (p : Picture) (y : Nat) (late : Bool) : Device :=
  let st := (d.stream s).during f
  if e.point = 2 ∨ e.point = 3 then
    d.injectTensor md s f e.point e.output y fun v k _ => (List.range p.width).flatMap fun x =>
      tensorPixel p (v.rdB (Reg.ISP_C_TAPS_t3_wide k.1 k.2)) (v.rdB (Reg.ISP_C_TAPS_t3_signed k.1 k.2)) x y
  else d.enterLine md s f (e.point == 0) y (rawRow p st.bits st.width st.black y) late

/-- An entry of a slot's sample changed. -/
def RplBatch.upd (b : RplBatch) (slot s : Nat) (g : RplFrame → RplFrame) : RplBatch :=
  { b with samples := ((List.range b.samples.length).zip b.samples).map fun p =>
      if p.1 = slot then { p.2 with frames := p.2.frames.map fun f => if f.stream = s then g f else f } else p.2 }

/-- Every sample of a batch has been delivered. -/
def RplBatch.delivered (b : RplBatch) : Bool := b.samples.all fun x => x.frames.all fun f => f.delivered

/-- Samples that have just been delivered are counted, and the end of an epoch is reported once its last batch has been delivered
(11 R368, R375, R378). -/
def Device.noteDelivered (d : Device) : Device :=
  let b := d.vid.replay.current
  let fresh := (b.samples.filter fun x => !x.counted && x.frames.all fun f => f.delivered).length
  let d := (d.bump Reg.VID_RPL_COUNT_delivered fresh).setReplay fun r => { r with current := { r.current with
    samples := r.current.samples.map fun x => if x.frames.all (fun f => f.delivered) then { x with counted := true } else x } }
  match b.epochEnd with
  | some e =>
    if b.closed ∧ b.delivered then
      let last := d.vid.replay.epochsLeft == 0 && !d.vid.replay.next.closed
      (d.setReplay fun r => { r with current := { r.current with epochEnd := none }, ending := r.ending || last }).raise
        Ev.VID_RPL_EPOCH_END (0xFF + e * 2 ^ 32)
    else d
  | none => d

/-- The next batch becomes the current one at an index 0, once the current one has been delivered whole (11 R370, R372). -/
def Device.nextBatch (d : Device) (md : Mode) : Device :=
  let r := d.vid.replay
  if ¬ r.current.closed ∨ ¬ r.current.delivered then d
  else
    let d := d.setReplay fun r => { r with current := r.next, next := {}, turn := d.turn }
    ((d.wr Reg.VID_STATUS_replay 2).pumpLoader md).noteDelivered

/-- A replayed frame opens in the slot and turn of its sample, with the logged epoch and marks; a frame of a camera that is still open
ends (09 R302; 11 R370, R371). -/
def Device.openReplayed (d : Device) (md : Mode) (s slot : Nat) (e : RplFrame) (p : Picture) : Device :=
  let size := fun (w : Word) => BitVec.ofNat 32 (w.toNat / 65536 * 65536 + p.height % 65536)
  let d := ((d.endFrame md s fmNoFe 3).commitLed md s).openFrame md s 0 fun f => { f with
    turn := d.vid.replay.turn, ordinal := slot, excess := false, logged := some (e.epoch, e.marks)
    inject := some (e.point, e.output)
    cfg := if e.point = 3 then f.cfg.set 1 (size (f.cfg.getD 1 0)) else f.cfg }
  match (d.stream s).openNow with
  | none => d
  | some g =>
    d.setReplay fun r => { r with current := r.current.upd slot s fun x => { x with started := some g.id } }

/-- REPLAY_FRAME_START: the loader starts the next frame of a stream when it is due (11 R371, R372). -/
def execReplayFrameStart (stream : Fin 32) (at_ : Nat) (s : State) : Host.Outcome State Fault Refusal :=
  let k := stream.val
  let d := s.dev.stamp at_
  if s.mode ≠ .replay then .next s
  else
    match (d.vid.replay.current.framesOf k).find? fun p => p.2.started.isNone, d.vid.replay.decoding with
    | some (slot, e), _ =>
      match e.picture with
      | some p =>
        if d.startDue e ∧ (d.stream k).reject = 0 ∧ (d.committed k).enabled then
          settle s ((d.openReplayed s.mode k slot e p).sequence s.mode)
        else nextD s d
      | none => nextD s d
    | none, some x =>
      let (x, d) := d.noteLateSample x
      nextD s (d.setReplay fun r => { r with decoding := some x })
    | none, none => nextD s d

/-- The last line of a replayed frame has been delivered: it ends (11 R371). -/
def Device.endReplayed (d : Device) (md : Mode) (s slot : Nat) : Device :=
  let d := d.endFrame md s 0 0
  (d.setReplay fun r => { r with current := r.current.upd slot s fun x => { x with delivered := true } }).noteDelivered

/-- REPLAY_LINE_DELIVERY: the next line of a replayed frame, one every line period from its Frame Start (11 R371). -/
def execReplayLineDelivery (stream : Fin 32) (line : ReplayLine) (s : State) : Host.Outcome State Fault Refusal :=
  let k := stream.val
  let d := s.dev.stamp line.at_
  match (d.stream k).openNow with
  | none => .next s
  | some f =>
    match (d.vid.replay.current.framesOf k).find? fun p => p.2.started == some f.id && !p.2.delivered with
    | none => .next s
    | some (slot, e) =>
      match e.picture with
      | none => .next s
      | some p =>
        let st := (d.stream k).during f
        let y := f.linesReceived + f.linesDiscarded
        let now := d.sp.time
        if (now - f.startAt) * 1000 < y * e.linePs then .next s
        else
          let d := if y < st.height then
              (d.injectRow s.mode k f e p y line.late).updFrame k f fun x =>
                { x with
                  linesReceived := x.linesReceived + 1, firstLineAt := if x.linesReceived = 0 then now else x.firstLineAt
                  lastLineAt := now }.count st
            else (d.bump (Reg.CSI_STREAM_ERRS_lines_discarded k) 1).updFrame k f fun x =>
              { x with linesDiscarded := x.linesDiscarded + 1 }.count st
          let d := if p.height ≤ y + 1 then d.endReplayed s.mode k slot else d
          settle s (d.sequence s.mode)

-- Start (11 R363, R374; 16 R550).

/-- Bytes of a decoder stream's eight frame stores (11 R363). -/
def Device.storeBytes (d : Device) (k : Nat) : Nat :=
  d.rd (Reg.VID_DEC_MAX_max_w k) * d.rd (Reg.VID_DEC_MAX_max_h k) * 12 * (if d.rdB (Reg.VID_DEC_CFG_ten_bit k) then 2 else 1)

/-- Bytes of all frame stores. -/
def Device.stageBytes (d : Device) : Nat := (((List.range 48).filter fun k => d.rdB (Reg.VID_DEC_CFG_enable k)).map d.storeBytes).sum

/-- Ranges of the NE area that bindings of the active plan and staged objects hold. -/
def Device.heldRanges (d : Device) : List (Nat × Nat) :=
  (match d.seq.plan with | some p => p.bindings.map (fun b => (fieldOf b 8 8, fieldOf b 16 8)) | none => []) ++
    (d.upd.objects.filter fun x => x.kind == 5 || x.kind == 6).map fun x => (x.neOffset, x.length)

/-- The lowest place of n bytes in the NE area that meets none of the ranges, aligned to 64 bytes (DESIGN CHOICE, log entry 41). -/
def firstFit (held : List (Nat × Nat)) (area n : Nat) : Option Nat :=
  let starts := 0 :: held.map fun r => ceilDiv (r.1 + r.2) 64 * 64
  let fits := starts.filter fun a => decide (a + n ≤ area) && held.all fun r => !rangesMeet a n r.1 r.2
  fits.foldl (fun (m : Option Nat) a => match m with | some b => some (min a b) | none => some a) none

/-- Bytes of the skip log (16 R550). -/
def skipLogBytes : Nat := skipLogEntries * 8

/-- The validation record keeps 16 R550. -/
def recordOk (v : List Byte) : Bool :=
  fieldOf v 0 1 == 1 && fieldOf v 2 1 != 0 && decide (1 ≤ fieldOf v 3 1) && decide (fieldOf v 3 1 ≤ 4)

/-- The loader writes the record into the VID_RPL_ registers and places the staging area and the skip log (16 R550). The entry
count's field is one bit short of 65,536: it stores 0xFFFF, log entry 41. -/
def Device.writeRecordRegs (d : Device) (v : List Byte) (setOffset : Nat) : Device :=
  let base := (d.area 0).1
  let need := ceilDiv d.stageBytes (2 ^ 20) * 2 ^ 20
  let stage := firstFit d.heldRanges (d.area 0).2 need
  let held := match stage with | some a => (a, need) :: d.heldRanges | none => d.heldRanges
  let log := (firstFit held (d.area 0).2 skipLogBytes).getD (d.area 0).2
  let d := ((d.wr Reg.VID_RPL_CFG_drop_last (fieldOf v 1 1 % 2)).wr Reg.VID_RPL_CFG_epochs (fieldOf v 2 1)).wr Reg.VID_RPL_CFG_batch
    (fieldOf v 3 1 - 1)
  let d := (d.wrPair Reg.VID_RPL_SEED_LO_seed Reg.VID_RPL_SEED_HI_seed (fieldOf v 16 8)).wr Reg.VID_RPL_EPOCH_epoch (fieldOf v 24 4)
  let d := (d.wrPair Reg.VID_RPL_SET_LO_set_lo Reg.VID_RPL_SET_HI_set_hi (base + setOffset)).wrPair
    Reg.VID_RPL_STAGE_LO_stage_lo Reg.VID_RPL_STAGE_HI_stage_hi (base + stage.getD 0)
  let d := (d.wr Reg.VID_RPL_STAGE_SIZE_mib (if stage.isSome then need / 2 ^ 20 else 0)).wrPair
    Reg.VID_RPL_SKIPLOG_LO_log_lo Reg.VID_RPL_SKIPLOG_HI_log_hi (base + log)
  (((d.wr Reg.VID_RPL_SKIPLOG_CFG_entries 0xFFFF).wr Reg.VID_RPL_SKIPLOG_CFG_written 0).wr Reg.VID_RPL_POS_position 0).wr
    Reg.VID_RPL_COUNT_skipped 0 |>.wr Reg.VID_RPL_COUNT_delivered 0

/-- A span lies in the NE area. -/
def Device.inNe (d : Device) (a n : Nat) : Bool :=
  decide ((d.area 0).1 ≤ a) && decide (a + n ≤ (d.area 0).1 + (d.area 0).2)

/-- The set header keeps 11 R364. -/
def setHeaderOk (h : List Byte) : Bool :=
  h.take 4 == [0x4E, 0x4B, 0x52, 0x53] && fieldOf h 4 1 == 1 && decide (1 ≤ fieldOf h 8 4) && decide (fieldOf h 8 4 ≤ 2 ^ 31) &&
    decide (64 + 16 * fieldOf h 8 4 ≤ fieldOf h 16 8)

/-- First reason of 11 R374 that applies once the registers are written, 0 when the start is accepted, with the set's header as
read; the plan's verdict is recorded (06 R230). -/
def Device.replayReason (d : Device) (md : Mode) (image : List Byte) (setBase : Nat) : Nat × List Byte × Device :=
  let (verdict, d) := d.planReject md { replay := true } true image
  let d := d.recordVerdict verdict
  if verdict.isSome then (1, [], d)
  else
    let (head, bad, d) := d.guardedRead md .engine setBase 64
    if bad.isSome ∨ ¬ setHeaderOk head then (2, head, d)
    else if d.rd Reg.VID_RPL_STAGE_SIZE_mib * 2 ^ 20 < d.stageBytes then (3, head, d)
    else if ¬ d.inNe setBase (fieldOf head 16 8) ∨
        ¬ d.inNe (d.rdPair Reg.VID_RPL_SKIPLOG_LO_log_lo Reg.VID_RPL_SKIPLOG_HI_log_hi) skipLogBytes then (4, head, d)
    else (0, head, d)

/-- The streams that a set's n samples name (11 R373). -/
def Device.namedStreams (d : Device) (md : Mode) (setBase n : Nat) : List Nat × Device :=
  forN n (fun k (named, d) =>
    let (e, _, d) := d.guardedRead md .engine (setBase + 64 + 16 * k) 16
    let count := min 32 (fieldOf e 8 2)
    let (t, _, d) := d.guardedRead md .engine (setBase + fieldOf e 0 8) (32 * count)
    (forL (tableFrames t count) (fun f l => if l.contains f.stream then l else l ++ [f.stream]) named, d)) (([] : List Nat), d)

/-- The replay begins: the candidate becomes active, its constants are written, and its first turn is set (11 R374, R375; 01
R30). -/
def Device.beginReplay (d : Device) (md : Mode) (plan : Plan) (v head : List Byte) (setBase : Nat) : Device :=
  let n := fieldOf head 8 4
  let first := d.firstTurn
  let d := { d with seq := { d.seq with savedPlan := d.seq.plan, replayMaxLate := 0, replayOverrun := false } }
  let d := (d.activatePlan md plan).writeConstants md
  let (named, d) := d.namedStreams md setBase n
  let d := forL named (fun s d => d.setStream s { d.stream s with replayed := true }) d.resetJob
  let d := { d with
    seq := { d.seq with jobFirst := some first, runs := d.seq.runs + 1 }
    quant := { d.quant with driftInReplay := false }
    upd := { d.upd with state := 3 } }
  let d := d.setReplay fun _ =>
    { epoch := fieldOf v 24 4, epochsLeft := fieldOf v 2 1, samples := n, setBase, setLength := fieldOf head 16 8,
      latenessLimit := fieldOf v 4 2, skipLimit := fieldOf v 8 4, current := { closed := true }, turn := first }
  let d := (d.wr Reg.VID_STATUS_replay 1).pumpLoader .replay
  forN 80 (fun ch d => d.requestNext ch) d

/-- REPLAY_START's own steps: status, payload, and the state (11 R374; 16 R550). -/
def State.startReplay (s : State) (v : List Byte) : Nat × List Byte × State :=
  let refuse (d : Device) (r : Nat) : Nat × List Byte × State :=
    (St.REFUSED, leBytes 1 r, { s with dev := d.raise Ev.VID_RPL_REFUSED (0xFF + r * 2 ^ 32) })
  if ¬ recordOk v then (St.FORMAT, [], s)
  else
    match s.dev.stagedOf 4, s.dev.stagedOf 6 with
    | none, _ => refuse s.dev 1
    | some _, none => refuse s.dev 2
    | some x, some y =>
      let base := (s.dev.area 0).1 + y.neOffset
      let (bs, d) := (s.dev.writeRecordRegs v y.neOffset).readStaged s.mode x
      let image := containerPayload bs
      let (r, head, d) := d.replayReason s.mode image base
      if r ≠ 0 then refuse d r
      else (St.OK, leBytes 1 0, { s with mode := .replay, dev := d.beginReplay s.mode (parsePlan image (cDigest bs)) v head base })

/-- REPLAY_START (11 R374; 16 R550). -/
def execReplayStart (hdr : ReqHdr) (validation : List Byte) (s : State) : Host.Outcome State Fault Refusal :=
  let t := s.serve hdr 0x53 roleM inParked fun s => s.startReplay validation
  settle t t.dev

/-- REPLAY_STOP: the replay ends at the next index 0 (11 R375). -/
def execReplayStop (hdr : ReqHdr) (s : State) : Host.Outcome State Fault Refusal :=
  .next (s.serve hdr 0x54 roleM (fun m => m == .replay) fun s =>
    (St.OK, [], { s with dev := (s.dev.setReplay fun r => { r with ending := true }).showReplay }))

-- End (11 R375, R376).

/-- First criterion of 11 R376 that fails, counted from 1; 0 when the candidate passes. -/
def Device.verdict (d : Device) : Nat :=
  let r := d.vid.replay
  if r.retireMet then 1
  else if d.seq.replayOverrun then 2
  else if r.latenessLimit < d.seq.replayMaxLate then 3
  else if d.quant.driftInReplay then 4
  else if r.skipLimit < r.skipped then 5
  else 0

/-- The replay is over: the verdict stands, and the plan that was active before is active again (11 R375, R376; 16 R549). -/
def Device.endReplay (d : Device) (md : Mode) : Device :=
  let v := d.verdict
  let d := d.abandonRunning fun _ => true
  let saved := d.seq.savedPlan
  let d := { d with seq := { d.seq with savedPlan := none, jobFirst := none, jobBegun := false, stopping := false } }
  let d := match saved with
    | some p => d.activatePlan md p
    | none => d
  let d := forL (List.range 32) (fun s d =>
    let st := d.stream s
    if st.replayed then d.setStream s { st with replayed := false, frames := st.frames.filter fun f => f.complete } else d) d
  let d := { d with upd := { d.upd with state := if v = 0 then 4 else 5, failing := v } }
  let d := (d.setReplay fun _ => {}).wr Reg.VID_STATUS_replay 0
  d.raise Ev.VID_RPL_VERDICT (0xFF + (if v = 0 then 1 else v * 2) * 2 ^ 32)

end Sys2Proof.Machine
end

