-- ==== Sys2Proof/Machine/Scm.lean ====
section
/-! DEFINITION. The sensor-control masters: timed tables, results, written epochs and in-band interrupts (09 R314 to R321). -/

namespace Sys2Proof.Machine

/-- Fields of a table entry (09 R316). -/
def scmIndex (e : List Byte) : Nat := fieldOf e 0 2 % 4096
def scmFlag (e : List Byte) (k : Nat) : Bool := bitAt (fieldOf e 2 1) k

/-- Payload of a sensor-control event of an entry (09 R324). -/
def scmPayload (m content : Nat) : Nat := camPayload 0xFF m 0xFF content

/-- The master starts its next entry when the index has come and no transaction runs; an entry marked once runs in the first
turn after the commit only and is passed over later (09 R316, R318). -/
def Device.scmAdvance (d : Device) (m : Nat) : Nat → Device
  | 0 => d
  | fuel + 1 =>
    let c := d.scm m
    if ¬ d.rdB (Reg.CSI_SCM_CFG_enable m) ∨ c.running.isSome then d
    else
      match c.table[c.next]? with
      | none => d
      | some e =>
        if d.index < scmIndex e then d
        else if scmFlag e 1 ∧ ¬ c.fresh then (d.setScm m { c with next := c.next + 1 }).scmAdvance m fuel
        else
          ((d.setScm m { c with next := c.next + 1, running := some (c.next, e, c.base) }).wr (Reg.CSI_SCM_STATUS_busy m) 1).wr
            (Reg.CSI_SCM_STATUS_entry m) c.next

/-- Entries due at this index start. -/
def Device.scmStart (d : Device) (m : Nat) : Device := d.scmAdvance m 33

/-- At index 0 the entries of the turn that ended and have not started are skipped (09 R319). Of a skipped entry's result only
the status is written: DESIGN CHOICE, log entry 40. -/
def Device.scmTurn (d : Device) (md : Mode) (m : Nat) : Device :=
  let c := d.scm m
  let left := if d.rdB (Reg.CSI_SCM_CFG_enable m) then
      ((List.range c.table.length).drop c.next).filter fun k =>
        match c.table[k]? with
        | some e => c.fresh || !scmFlag e 1
        | none => false
    else []
  let d := forL left (fun k d =>
    (((d.engineWrite md (c.base + 512 + 16 * k) [3, 0]).bump (Reg.CSI_SCM_ERR_skipped m) 1)).raise Ev.CAM_CTRL_LATE (scmPayload m k)) d
  d.setScm m { c with next := 0, fresh := false }

/-- A transaction ends with a status: its result, counts, event and written epoch (09 R317, R318, R321). -/
def Device.scmEnd (d : Device) (md : Mode) (m status : Nat) (readData : List Byte) : Device :=
  match (d.scm m).running with
  | none => d
  | some (k, e, base) =>
    let now := d.sp.time
    let n := min (fieldOf e 6 1) 6
    let data := if scmFlag e 2 then sliceOf readData 0 n ++ List.replicate (6 - n) 0 else leBytes 6 0
    let d := d.engineWrite md (base + 512 + 16 * k) (leBytes 1 status ++ [0] ++ data ++ leBytes 8 now)
    let d := (d.setScm m { d.scm m with running := none }).wr (Reg.CSI_SCM_STATUS_busy m) 0
    let d := match status with
      | 1 => d.bump (Reg.CSI_SCM_ERR_nack m) 1
      | 2 => d.bump (Reg.CSI_SCM_ERR_bus_errors m) 1
      | 4 => d.bump (Reg.CSI_SCM_ERR_timeouts m) 1
      | _ => d
    let d := if status ≠ 0 then d.raise Ev.CAM_CTRL_FAILED (scmPayload m (k + status * 2 ^ 8)) else d
    let d := if status = 0 ∧ scmFlag e 4 then
        let s := fieldOf e 7 1 % 32
        let value := fieldOf e 8 2
        (d.setStream s { d.stream s with epochs := (value, now) :: (d.stream s).epochs }).wr
          (Reg.CSI_STREAM_EPOCH_written_epoch s) value
      else d
    d.scmStart m

/-- SCM_ENTRY_COMPLETE (09 R317, R318, R321). -/
def execScmEntryComplete (master : Fin 8) (status : Fin 3) (readData : List Byte) (at_ : Nat) (s : State) :
    Host.Outcome State Fault Refusal :=
  settle s ((s.dev.stamp at_).scmEnd s.mode master.val status.val readData)

/-- SCM_TIMEOUT: status 4 (09 R317, R318). -/
def execScmTimeout (master : Fin 8) (at_ : Nat) (s : State) : Host.Outcome State Fault Refusal :=
  settle s ((s.dev.stamp at_).scmEnd s.mode master.val 4 [])

/-- CAM_IBI: acknowledged and recorded on a bus that runs I3C (09 R314, R320; 15 R477). -/
def execCamIbi (master : Fin 8) (address : BitVec 7) (mdb : Byte) (s : State) : Host.Outcome State Fault Refusal :=
  let m := master.val
  let d := s.dev
  if ¬ s.mode.neRuns ∨ ¬ d.rdB (Reg.CSI_SCM_CFG_enable m) ∨ ¬ d.rdB (Reg.CSI_SCM_CFG_i3c_bus m) then .next s
  else
    let d := (((d.wr (Reg.CSI_SCM_IBI_valid m) 1).bump (Reg.CSI_SCM_IBI_count m) 1).wr (Reg.CSI_SCM_IBI_address m) address.toNat).wr
      (Reg.CSI_SCM_IBI_mdb m) mdb.toNat
    settle s (d.raise Ev.CAM_IBI (scmPayload m (address.toNat + mdb.toNat * 2 ^ 8)))

end Sys2Proof.Machine
end

