-- ==== Sys2Proof/Machine/Hevc.lean ====
section
/-! DEFINITION. What a bitstream of the encoder says of itself (11 R355): its NAL units, and the fields of its parameter sets that R355
settles. Their syntax is that of HEVC, which R355 cites: PRESUMED, log entry 79. -/

namespace Sys2Proof.Machine

-- Byte stream (Annex B of HEVC).

/-- The units of a byte stream, each behind a start code; the first element is what stands before the first one. Trailing zeros belong
to no unit. `zeros` and `unit` are the zeros just passed and the unit read so far, backwards. -/
def nalSplit (zeros : Nat) (unit : List Byte) : List Byte → List (List Byte)
  | [] => [(unit.drop zeros).reverse]
  | b :: bs =>
    if b = 1 ∧ 2 ≤ zeros then (unit.drop zeros).reverse :: nalSplit 0 [] bs
    else nalSplit (if b = 0 then zeros + 1 else 0) (b :: unit) bs

/-- The payload of a unit without its emulation prevention bytes. -/
def unescapeNal (zeros : Nat) : List Byte → List Byte
  | [] => []
  | b :: bs => if b = 3 ∧ 2 ≤ zeros then unescapeNal 0 bs else b :: unescapeNal (if b = 0 then zeros + 1 else 0) bs

/-- Type of a NAL unit. -/
def nalType (unit : List Byte) : Nat := fieldOf unit 0 1 / 2 % 64

/-- A header of two bytes: no forbidden bit, layer 0, a temporal identifier. -/
def nalOk (unit : List Byte) : Bool :=
  decide (2 ≤ unit.length) && decide (fieldOf unit 0 1 < 128) && fieldOf unit 0 1 % 2 == 0 && decide (fieldOf unit 1 1 / 8 = 0) &&
    fieldOf unit 1 1 % 8 != 0

-- Parameter sets.

/-- Bits of bytes, most significant first. -/
def bitsOfBytes (bs : List Byte) : List Bool := bs.flatMap fun b => (List.range 8).map fun i => b.getLsbD (7 - i)

/-- A number from its bits, most significant first. -/
def bitsNat (l : List Bool) : Nat := l.foldl (fun n b => 2 * n + b2n b) 0

/-- Fields read from bits: some n is a number of n bits, none an Exp-Golomb code. Answers their values and the bits that remain. -/
def readFields : List (Option Nat) → List Bool → List Nat × List Bool
  | [], l => ([], l)
  | some n :: fs, l =>
    let (v, rest) := readFields fs (l.drop n)
    (bitsNat (l.take n) :: v, rest)
  | none :: fs, l =>
    let z := (l.takeWhile fun b => !b).length
    let (v, rest) := readFields fs (l.drop (2 * z + 1))
    ((2 ^ z - 1 + bitsNat ((l.drop (z + 1)).take z)) :: v, rest)

/-- Bits of the profile and level of m sub-layers. -/
def subLayerBits (m : Nat) (l : List Bool) : Nat :=
  if m = 0 then 0
  else 16 + ((List.range m).map fun i => b2n (l.getD (2 * i) false) * 88 + b2n (l.getD (2 * i + 1) false) * 8).sum

/-- A sequence parameter set describes the coded picture (11 R355): Main or Main 10 at level 6.2 (186) or below, 4:2:0, the coded size
with a window on the source's, CTUs of 64 × 64, SAO. Scaling lists that it carries itself are not read, nor is what follows them. -/
def spsOk (c : Coding) (unit : List Byte) : Bool :=
  let (g, l) := readFields [some 4, some 3, some 1, some 3, some 5, some 80, some 8] (bitsOfBytes (unescapeNal 0 (unit.drop 2)))
  let m := g.getD 1 0
  let (h, l) := readFields [none, none, none, none, some 1] (l.drop (subLayerBits m l))
  let (w, l) := if h.getD 4 0 = 1 then readFields [none, none, none, none] l else ([0, 0, 0, 0], l)
  let (b, l) := readFields [none, none, none, some 1] l
  let (_, l) := readFields (List.replicate (3 * (if b.getD 3 0 = 1 then m + 1 else 1)) none) l
  let (q, l) := readFields [none, none, none, none, none, none, some 1] l
  let (lists, l) := if q.getD 6 0 = 1 then readFields [some 1] l else ([0], l)
  let (t, _) := readFields [some 1, some 1] l
  let depth := if c.picture.ten then 2 else 0
  g.getD 4 0 == (if c.picture.ten then 2 else 1) && decide (g.getD 6 0 ≤ 186) && h.getD 1 0 == 1 &&
    h.getD 2 0 == c.picture.width && h.getD 3 0 == c.picture.height && w.getD 0 0 == 0 && w.getD 2 0 == 0 &&
    2 * w.getD 1 0 + ceilDiv c.width 2 * 2 == c.picture.width && 2 * w.getD 3 0 + ceilDiv c.height 2 * 2 == c.picture.height &&
    b.getD 0 0 == depth && b.getD 1 0 == depth && q.getD 0 0 + 3 + q.getD 1 0 == 6 && (lists.getD 0 0 == 1 || t.getD 1 0 == 1)

/-- A picture parameter set keeps 11 R355: no tiles, deblocking not disabled, no more reference pictures than the frame may use. -/
def ppsOk (c : Coding) (unit : List Byte) : Bool :=
  let (g, l) := readFields [none, none, some 1, some 1, some 3, some 1, some 1, none, none, none, some 1, some 1, some 1]
    (bitsOfBytes (unescapeNal 0 (unit.drop 2)))
  let (_, l) := if g.getD 12 0 = 1 then readFields [none] l else ([], l)
  let (t, l) := readFields [none, none, some 1, some 1, some 1, some 1, some 1, some 1, some 1, some 1] l
  let (k, _) := if t.getD 9 0 = 1 then readFields [some 1, some 1] l else ([0, 0], l)
  decide (g.getD 7 0 < c.refs) && t.getD 6 0 == 0 && k.getD 1 0 == 0

/-- What the encoder makes of a picture conforms to 11 R355: an Annex B byte stream whose slices are those of an IDR picture (types 19
and 20), with the parameter sets that it needs, or of a picture that is none (0 and 1), and whose parameter sets keep the rule. -/
def Coding.conforms (c : Coding) (bitstream : List Byte) : Bool :=
  let units := (nalSplit 0 [] bitstream).tail
  let slices := units.filter fun u => decide (nalType u < 32)
  let has (t : Nat) : Bool := units.any fun u => nalType u == t
  (nalSplit 0 [] bitstream).head?.all List.isEmpty && units.all nalOk && !slices.isEmpty &&
    slices.all (fun u => if c.idr then nalType u == 19 || nalType u == 20 else decide (nalType u ≤ 1)) &&
    units.all (fun u => decide (nalType u ≤ 40)) && (!c.idr || (has 32 && has 33 && has 34)) &&
    (units.filter fun u => nalType u == 33).all (spsOk c) && (units.filter fun u => nalType u == 34).all (ppsOk c)

end Sys2Proof.Machine
end

