-- ==== Sys2Proof/Machine/Video.lean ====
section
/-! DEFINITION. Encoding for logs: access units in the encoder rings, and the log messages that carry them (11 R355 to R359; 16
R545). What the encoder makes of a picture (11 R355) is an operand of the command. -/

namespace Sys2Proof.Machine

/-- Base of an encoder stream's ring. -/
def Device.encRing (d : Device) (e : Nat) : Nat := d.rd (Reg.VID_ENC_RING_LO_ring_lo e) + d.rd (Reg.VID_ENC_RING_HI_ring_hi e) * 2 ^ 32

/-- Bytes written and not yet consumed in a ring. -/
def ringUsed (size wr rd : Nat) : Nat := if size = 0 then 0 else (wr + size - rd % size) % size


/-- Entry head of an access unit (11 R357). -/
def entryHead (n : Nat) (idr : Bool) (f : Frame) : List Byte :=
  leBytes 4 n ++ leBytes 1 (b2n idr) ++ leBytes 1 f.ordinal ++ leBytes 2 f.marks ++ leBytes 4 f.turn ++ leBytes 8 f.capture ++
    leBytes 2 (f.epoch.getD 0) ++ leBytes 42 0

/-- Bytes written round a ring by the encoder. -/
def Device.ringStore (d : Device) (md : Mode) (base size off : Nat) (bs : List Byte) : Device :=
  let first := size - off % size
  let d := d.engineWrite md (base + off % size) (bs.take first)
  if bs.length ≤ first then d else d.engineWrite md base (bs.drop first)

/-- An access unit enters its ring, or is dropped when it does not fit (11 R357). A ring that is full keeps one unit of 64 bytes
free, so that equal offsets mean empty: DESIGN CHOICE, log entry 39. -/
def Device.storeUnit (d : Device) (md : Mode) (e : Nat) (f : Frame) (idr : Bool) (bits : List Byte) : Device :=
  let size := d.rd (Reg.VID_ENC_RING_SIZE_bytes e)
  let wr := d.rd (Reg.VID_ENC_WR_offset e)
  let body := bits ++ List.replicate (padded bits.length - bits.length) 0
  let n := 64 + body.length
  if size ≤ ringUsed size wr (d.rd (Reg.VID_ENC_RD_offset e)) + n then
    ((d.bump (Reg.VID_ENC_STATUS_ring_full e) 1).idrAfter e 0).raise Ev.VID_ENC_RING_FULL e
  else
    let d := d.ringStore md (d.encRing e) size wr (entryHead bits.length idr f ++ body)
    (d.wr (Reg.VID_ENC_WR_offset e) ((wr + n) % size)).setEnc e
      { d.enc e with sinceIdr := if idr then 0 else (d.enc e).sinceIdr + 1 }

/-- The access unit of a frame: its SEI message, and what the encoder made of its picture (11 R355). -/
def Coding.unit (c : Coding) (bitstream : List Byte) : List Byte := seiMessage c.record ++ bitstream

/-- The frame under encoding is done: its coded area counts (11 R353), and its unit goes to the ring. -/
def Device.finishEncode (d : Device) (md : Mode) (c : Coding) (j : EncJob) (rest : List EncJob) (bitstream : List Byte) : Device :=
  let d := { d with vid := { d.vid with
    queue := rest, coding := none, encPixels := d.vid.encPixels + c.picture.width * c.picture.height } }
  d.storeUnit md j.encoder j.frame c.idr (c.unit bitstream)

/-- ENCODE_COMPLETE: the frame at the head of the queue has been encoded, and the next one starts (11 R356, R357). Bytes that do not
conform to 11 R355 are none that the encoder makes: they change nothing (DEDUCED, log entry 79). -/
def execEncodeComplete (encoder : Fin 16) (bitstream : List Byte) (s : State) : Host.Outcome State Fault Refusal :=
  let d := s.dev.startEncode s.mode
  match d.vid.coding, d.vid.queue with
  | some c, j :: rest =>
    if j.encoder ≠ encoder.val ∨ ¬ c.conforms bitstream then .next s
    else settle s ((d.finishEncode s.mode c j rest bitstream).startEncode s.mode)
  | _, _ => .next s

/-- An encoder stream has an entry in its ring. -/
def Device.hasEntry (d : Device) (e : Nat) : Bool :=
  ringUsed (d.rd (Reg.VID_ENC_RING_SIZE_bytes e)) (d.rd (Reg.VID_ENC_WR_offset e)) (d.rd (Reg.VID_ENC_RD_offset e)) != 0

/-- The encoder stream that the round robin serves next (16 R545). -/
def Device.logTurn (d : Device) : Option Nat :=
  ((List.range 16).map fun k => (d.vid.logLast + 1 + k) % 16).find? fun e => d.hasEntry e

/-- LOG_DATA: one ring entry leaves as a message and VID_ENCe_RD passes it (16 R526, R545). -/
def execLogData (encoder : Fin 16) (s : State) : Host.Outcome State Fault Refusal :=
  let d := s.dev
  let e := encoder.val
  match d.portFor 3 with
  | none => .next s
  | some p =>
    let size := d.rd (Reg.VID_ENC_RING_SIZE_bytes e)
    let rd := d.rd (Reg.VID_ENC_RD_offset e)
    let n := 64 + padded (d.num (d.encRing e + rd % size) 4)
    if ¬ d.boot.firmwareUp ∨ d.proto.restarting.getD 5 false ∨ d.logTurn ≠ some e ∨ txqCap < d.txUsed p + 96 + n then .next s
    else
      let count := (d.enc e).sentEntries
      let (entry, d) := d.ringRead s.mode (d.encRing e) size rd n
      let payload := leBytes 4 e ++ leBytes 4 count ++ leBytes 56 0 ++ entry
      let m : Message := {
        msgType := 0x38, status := 0, session := 0, sequence := 0, push := true, payload, sentTo := some (d.destinationOf p 3) }
      let d := ((d.post m).queueMessage p m).wr (Reg.VID_ENC_RD_offset e) ((rd + n) % size)
      nextD s ({ d with vid := { d.vid with logLast := e } }.setEnc e { d.enc e with sentEntries := (count + 1) % 2 ^ 32 })

end Sys2Proof.Machine
end

