-- ==== Sys2Proof/Machine/IndexBoundary.lean ====
section
/-! DEFINITION. An index boundary of the spindle and the steps that run there in order (01 R44, R46, R49, R50, R65; 13 R420): at
index 0 the turn that ends is closed, held work is applied, blocks commit and the next turn's items begin; at multiples of 64
the records of 13 R420; at every index the injections, LATE, GEAR_TIMEOUT and releases. -/

namespace Sys2Proof.Machine

-- Line waits whose frame never starts (01 R44; 09 R309).

/-- The wait of an item whose deadline has passed before its bound frame has started, at the start of an index (01 R44). -/
def Device.timeoutDue (d : Device) (idx : Nat) (r : ItemRt) : Bool :=
  r.phase == .waiting && r.item.lineWait && !r.lineMet && decide (r.item.deadline < idx) && (d.boundFrame r).isNone

/-- The record of the wait's ordinal (09 R309), at the record base in use (log entry 45). -/
def Device.writeNoFrame (d : Device) (md : Mode) (r : ItemRt) : Device :=
  d.engineWrite md ((d.inUse r.item.stream).recBase + r.item.frame * 64) (noFrameRecord r.turn r.item.frame)

/-- The wait is met with NO_FRAME and GEAR_TIMEOUT (01 R44, R66). -/
def Device.gearTimeout (d : Device) (md : Mode) (r : ItemRt) : Device :=
  let d := d.updItem r.item.num r.turn fun x => { x with lineMet := true, ownNoFrame := true, marks := x.marks ||| markNoFrame }
  (d.writeNoFrame md r).raise Ev.GEAR_TIMEOUT
    (r.item.num + r.item.deadline * 2 ^ 16 + r.item.stream * 2 ^ 32 + r.item.frame * 2 ^ 37)

/-- Every wait that has run out at the start of an index. -/
def Device.gearTimeouts (d : Device) (md : Mode) (idx : Nat) : Device :=
  forL (d.seq.items.filter fun r => d.timeoutDue idx r) (fun r d => d.gearTimeout md r) d

-- Lateness (01 R46).

/-- The item belongs to the turn's work and has not completed. -/
def ItemRt.unfinished (r : ItemRt) : Bool := r.phase == .waiting || r.phase == .released || r.phase == .running

/-- LATE for every unfinished item whose deadline lies before an index and has not been reported (01 R46). -/
def Device.lateItems (d : Device) (idx : Nat) : Device :=
  forL (d.seq.items.filter fun r => r.unfinished && !r.late && decide (r.item.deadline < idx)) (fun r d => d.raiseLate r) d

-- The end of a turn (01 R49).

/-- Items of the turn that are still running when it ends: released ones count, whether or not their lane let them start (log
entry 46). -/
def ItemRt.stillRunning (r : ItemRt) : Bool := r.phase == .released || r.phase == .running

/-- A still running item is abandoned; one that has not started leaves at once (01 R49, 06 R212). -/
def Device.abandonAtEnd (d : Device) (r : ItemRt) : Device :=
  if r.phase = Phase.running then d.abandonItem r else d.removeItem r.item.num r.turn

/-- Step 2 of 01 R50: LATE for what is unfinished, the running items abandoned, the others dropped; answers how many items were
abandoned. -/
def Device.endItems (d : Device) (md : Mode) : Nat × Device :=
  let d := (d.gearTimeouts md 4096).lateItems 4096
  let left := d.seq.items.filter ItemRt.stillRunning
  let d := forL left (fun r d => d.abandonAtEnd r) d
  (left.length, { d with seq := { d.seq with items := d.seq.items.filter fun r => r.phase == Phase.abandoned } })

/-- TURN_OVERRUN, once, with its count (01 R49, R66). -/
def Device.noteOverrun (d : Device) (n : Nat) : Device :=
  if n = 0 then d
  else
    let d := { d with seq := { d.seq with overrun := true } }
    (d.bump Reg.SP_LATE_COUNT_overrun_turns 1).raise Ev.TURN_OVERRUN (min n 65535)

/-- End index of the active list (01 SP_SLACK). -/
def Device.listEnd (d : Device) : Nat :=
  match d.seq.plan with
  | some p => if d.seq.fallbackActive then pFallbackEnd p.header else pNominal p.header
  | none => 4095

/-- Index of the last completion of the turn; free when no item completed (log entry 47). -/
def Device.lastCompletion (d : Device) : Nat × Device :=
  match d.seq.lastDone with
  | some k => (k, d)
  | none =>
    let (n, d) := d.tick
    (Config.unstated 335 n % 4096, d)

/-- Unused slack of the turn that ends (01 SP_SLACK). -/
def Device.unusedSlack (d : Device) : Nat :=
  if d.seq.overrun then 0 else 4095 - max d.listEnd (d.seq.lastDone.getD 0)

/-- SP_SLACK after a turn of a job or replay; the first one sets the least value (01 SP_SLACK). -/
def Device.noteSlack (d : Device) (ended : Nat) : Device :=
  let least := if some ended = d.seq.jobFirst then d.unusedSlack else min (d.rd Reg.SP_SLACK_min_unused) d.unusedSlack
  let (last, d) := d.lastCompletion
  (d.wr Reg.SP_SLACK_min_unused least).wr Reg.SP_SLACK_last_completion last

/-- TURN_END enters the output queue (16 R544). -/
def Device.sendTurnEnd (d : Device) (ended : Nat) : Device :=
  match d.portFor 1 with
  | none => d
  | some p =>
    let payload := leBytes 4 ended ++ leBytes 1 (b2n d.seq.overrun + 2 * b2n d.fo.degraded) ++ leBytes 3 0 ++
      leBytes 2 d.seq.outputsDone ++ leBytes 2 d.seq.partsSent
    let m : Message := {
      msgType := 0x31, status := 0, session := 0, sequence := 0, push := true, payload, sentTo := some (d.destinationOf p 1) }
    (d.post m).queueMessage p m

/-- What a turn of a job or replay leaves behind: overrun, slack, replay criteria, TURN_END (01 R49; 11 R376; 16 R544). -/
def Device.closeJobTurn (d : Device) (ended abandoned : Nat) : Device :=
  let d := (d.noteOverrun abandoned).noteSlack ended
  let d := { d with seq := { d.seq with
    replayMaxLate := max d.seq.replayMaxLate d.seq.maxLate, replayOverrun := d.seq.replayOverrun || d.seq.overrun } }
  d.sendTurnEnd ended

/-- The items counts of the turn latch (06 NE_ITEM_COUNT). -/
def Device.latchItemCounts (d : Device) : Device :=
  (d.wr Reg.NE_ITEM_COUNT_released (min d.seq.releasedCount 65535)).wr Reg.NE_ITEM_COUNT_completed (min d.seq.completedCount 65535)

/-- Time for which refresh blocked a channel in the turn that ends: how the controller places refresh is its own timing, so the
value is free for a channel in service (08 R287, R289; log entry 78). -/
def Device.refreshNs (d : Device) (c : Nat) : Nat × Device :=
  if d.rd Reg.MEM_CFG_capacity = 0 ∨ bitAt (d.rd Reg.MEM_STATUS_offline) c then (0, d)
  else
    let (n, d) := d.tick
    (Config.unstated 289 n, d)

/-- Blocked time of the memory channels and pixels of the codecs latch (08 MEM_CHc_MAINT, 11 VID_LOAD). -/
def Device.latchLoads (d : Device) : Device :=
  let d := forN 16 (fun c d =>
    let (refresh, d) := d.refreshNs c
    let m := d.memCh c
    (d.wr (Reg.MEM_CH_MAINT_blocked_ns c) (min (m.blockedNs + refresh) (2 ^ (Reg.MEM_CH_MAINT_blocked_ns c).width - 1))).setMemCh c
      { m with blockedNs := 0 }) d
  let d := (d.wr Reg.VID_LOAD_enc_mpix (min (d.vid.encPixels / 1000000) 65535)).wr Reg.VID_LOAD_dec_mpix
    (min (d.vid.decPixels / 1000000) 65535)
  { d with vid := { d.vid with encPixels := 0, decPixels := 0 } }

/-- Mean package power of the turn in W; free when no tick fell into it (14 R469, log entry 47). -/
def Device.meanPower (d : Device) : Nat × Device :=
  if d.pwr.powerTicks = 0 then
    let (n, d) := d.tick
    (Config.unstated 469 n % 65536, d)
  else (d.pwr.powerSum / d.pwr.powerTicks / 1000, d)

/-- What the group report will say of the turn, and power's once-per-turn bookkeeping begun anew (14 R450, R465, R469). -/
def Device.closePower (d : Device) (ended : Nat) : Device :=
  let (power, d) := d.meanPower
  let d := { d with pwr := { d.pwr with
    ended := [ended, b2n d.seq.critLate, d.seq.critEnd.getD 0xFFFF, d.rd Reg.SP_SLACK_last_completion, power]
    powerSum := 0, powerTicks := 0, capRaised := false } }
  forN 4 (fun q d => d.setRail q { d.rail q with gated := 0, gatedRaised := false }) d

/-- The safety frames ignored in the turn are reported at its end, since the report tells how many they were (16 R553, R560;
DEDUCED, log entry 35). -/
def Device.reportIgnored (d : Device) : Device :=
  { d with safety := { d.safety with ignored := 0 } }.raiseIf (d.safety.ignored != 0) Ev.SAFETY_FRAME_ERROR
    (fwPayload 0x30 5 (min d.safety.ignored 65535))

/-- What the turn health record will say of the turn (13 R431). -/
def Device.closeHealth (d : Device) (ended : Nat) : Device :=
  let e : EndedTurn :=
    { turn := ended, failedOver := d.seq.fallbackActive, overrun := d.seq.overrun, redone := d.seq.redone
      late := d.seq.lateEvents, maxLate := d.seq.maxLate, lastDone := d.rd Reg.SP_SLACK_last_completion, written := d.ev.written }
  { d with safety := { d.safety with ended := some e } }.reportIgnored

/-- Reports that are made once per turn may be made again (07 R246; 09 R297, R306; 12 R395). -/
def Device.rearmReports (d : Device) : Device :=
  let d := forL d.dma (fun (k, c) d => d.setChan k { c with stallRaised := false }) d
  let d := forL d.cam.streams (fun (k, x) d => d.setStream k { x with overflowRaised := false }) d
  let d := forL d.cam.rx (fun (k, _) d => d.setRx k {}) d
  { d with join := { d.join with fullRaised := false } }

/-- Counters, coverage set and the turn's counts begin anew (06 R216; 12 R403). -/
def Device.clearTurn (d : Device) : Device :=
  { d with seq := { d.seq with
    counters := [], coverage := [], heldSignals := [], releasedCount := 0, completedCount := 0
    lastDone := none, lateEvents := 0, maxLate := 0, overrun := false, outputs := [], outputsDone := 0, partsSent := 0
    redone := false, critEnd := none, critLate := false } }

/-- Remote signals held for the turn that begins are applied just after the counters have returned to zero; one for another turn,
since the spindle has stepped meanwhile, is dropped and counted (06 R217). -/
def Device.applyHeld (d : Device) (hs : List HeldSignal) : Device :=
  forL hs (fun h d =>
    if h.turn = d.turn then d.signalCounter h.counter h.bit h.marks else d.bump Reg.NE_CTR_DROPPED_signals 1) d

/-- Steps 1 and 2 of 01 R50 on everything but the device state. -/
def Device.closeTurn (d : Device) (md : Mode) (ended : Nat) : Device :=
  let ran := seqRuns md && d.seq.jobBegun
  let d := (d.resetBudgets.snapshot ended)
  let (n, d) := d.endItems md
  let d := if ran then d.closeJobTurn ended n else d
  let d := (d.latchItemCounts.latchLoads.closePower ended).closeHealth ended
  let held := d.seq.heldSignals
  d.rearmReports.clearTurn.applyHeld held

-- The end of a job or replay (00 R6; 11 R375; 12 R395; 13 R437).

/-- The loaders hold nothing between jobs. -/
def Device.stopLoaders (d : Device) : Device :=
  forL d.usedChans (fun ch d => d.setChan ch { d.chan ch with shadow := none, loading := none }) d

/-- A stopped job is over (00 R4, R6). -/
def Device.endJob (d : Device) : Device :=
  { d.jobEnded with seq := { d.jobEnded.seq with jobFirst := none, jobBegun := false, stopping := false } }.stopLoaders

/-- A stopped job parks, and a replay that ends returns to PARKED with its verdict (00 R6, R7; 11 R375). -/
def Device.endRun (d : Device) (md : Mode) : Mode × Device :=
  if md = .turning ∧ d.seq.stopping then (.parked, d.endJob)
  else if md = .replay ∧ d.vid.replay.ending then (.parked, (d.endReplay md).stopLoaders)
  else (md, d)

-- Steps 3 and 4 (01 R52 to R59, R65).

/-- Timed releases whose turn has come clear their holds (01 R59). -/
def Device.releaseHolds (d : Device) : Device :=
  let (due, rest) := d.sp.releases.partition fun p => !turnAhead p.2 d.turn
  let d := forL due (fun p d => d.clearHolds p.1) d
  { d with sp := { d.sp with releases := rest } }

/-- SP_PERIOD and SP_PHASE latch together, or both keep their previous values (01 R65). A follower whose turns differed from its
master's takes the master to have latched the same values, so that what was a lead of g old periods is one of as many new ones
as fit best (01 R63; DESIGN CHOICE, log entry 73). -/
def Device.latchPeriod (d : Device) : Device :=
  let p := d.rd Reg.SP_PERIOD_period_us
  let f := d.rd Reg.SP_PHASE_phase_ns
  if p = d.sp.periodUs ∧ f = d.sp.phaseNs then d
  else if p * 1000 ≤ f then
    ((d.wr Reg.SP_PERIOD_period_us d.sp.periodUs).wr Reg.SP_PHASE_phase_ns d.sp.phaseNs).spReject 0x00C
  else
    let new : Int := p * 1000
    { d with sp := { d.sp with
      periodUs := p, phaseNs := f, masterTurnDelta := (d.sp.masterTurnDelta * d.sp.period + new / 2) / new } }

/-- The commit of SP, with the two fields that take effect with the next turn (01 R52, R54, R65). -/
def Device.commitSpindle (d : Device) : Device :=
  let held := d.rdB (holdFld 0)
  let d := d.commitPoint 0 (inBlock 0)
  if held then d else d.latchPeriod

/-- The commit of NE, with the tensors' thresholds (03 R134, R135). -/
def Device.commitNe (d : Device) : Device :=
  let held := d.rdB (holdFld 1)
  let d := d.commitPoint 1 (inBlock 1)
  if held then d else d.latchThresholds

/-- The commit of VID: a changed source makes the next frame IDR (11 R358); a changed profile is seen as that frame is queued. -/
def Device.commitVideo (d : Device) : Device :=
  let before := (List.range 16).map d.encSource
  let d := d.commitPoint 7 (inBlock 7)
  forN 16 (fun e d => if some (d.encSource e) = before[e]? then d else d.setEnc e { d.enc e with nextIdr := true }) d

/-- The commit of FX, with the check of its windows (12 R406). -/
def Device.commitFx (d : Device) : Device :=
  let held := d.rdB (holdFld 8)
  let d := d.commitPoint 8 (inBlock 8)
  if held then d else d.checkWindows

/-- The sensor-control masters pass index 0, then CSI commits (09 R294, R315, R319). -/
def Device.commitCameras (d : Device) (md : Mode) : Device := (forN 8 (fun m d => d.scmTurn md m) d).commitCsi md

/-- Blocks that commit at index 0 without more ado: the cores, DMA and MEM. -/
def plainBlocks : List Nat := (List.range 32).map (16 + ·) ++ [3, 4]

/-- Step 4 of 01 R50, and the count of 01 R56. The ISP contexts commit at Frame Starts (10 R328). -/
def Device.commitIndex0 (d : Device) (md : Mode) : Device :=
  let d := d.commitSpindle.commitNe
  let d := forL plainBlocks (fun b d => d.commitPoint b (inBlock b)) d
  let d := (d.commitCameras md).commitVideo.commitFx
  let d := (d.commitPoint 9 (inBlock 9)).commitPoint 10 (inBlock 10)
  forL shadowBlocks (fun b d => d.countDeferral b) d

-- The turn that begins.

/-- The job's first turn has come (01 R30). -/
def Device.beginJob (d : Device) (md : Mode) : Device :=
  match d.seq.jobFirst with
  | some f => if seqRuns md ∧ ¬ turnAhead f d.turn then { d with seq := { d.seq with jobBegun := true } } else d
  | none => d

/-- The active list's items wait in the turn that begins, behind what is still being abandoned (01 R45, R49). -/
def Device.newItems (d : Device) : Device :=
  let turn := d.turn
  let fallback := d.seq.fallbackActive
  { d with seq := { d.seq with
    items := d.seq.items ++ (d.activeList).map fun (i : Item) => ({ item := i, turn, fallback } : ItemRt) } }

/-- The new turn's work: gate lists restart, the replay loader moves on, items wait, loaders discard what was dropped (07 R247;
11 R370; 16 R530). -/
def Device.openTurn (d : Device) (md : Mode) : Device :=
  let d := { d with proto := { d.proto with gate := [0, 0, 0] } }.beginJob md
  if seqRuns md ∧ d.seq.jobBegun then
    let d := if md = .replay then d.nextBatch md else d
    forL d.usedChans (fun ch d => d.refreshLoader ch) d.newItems
  else d

/-- Steps 1 to 4 of 01 R50 at index 0. A criterion met while the turn is closed retires the part although it was stopping (00
R7). -/
def Device.turnOver (d : Device) (md : Mode) (ended : Nat) : Mode × Device :=
  let (md, d) := (d.closeTurn md ended).settleAt md
  let (md, d) := d.endRun md
  (md, ((d.releaseHolds).commitIndex0 md).openTurn md)

-- Every index.

/-- The delay with which the index event reaches cores, DMA and SFE blocks under an active SPINDLE_JITTER, whose one event it is when
its duration is 0 (13 R438 kind 3). -/
def Device.drawJitter (d : Device) : Device :=
  match d.jitterBound with
  | some j =>
    let (n, d) := d.tick
    let d := forL (d.activeSlots 3) (fun i d => d.slotUsed i) d
    { d with sp := { d.sp with indexDelay := Config.jitter n % (j + 1) } }
  | none => { d with sp := { d.sp with indexDelay := 0 } }

/-- Injections of the sequencer's states fire (13 R438), after the steps of 13 R420 (log entry 48). -/
def Device.injectAt (d : Device) (md : Mode) : Mode × Device :=
  if seqRuns md then (d.firePert.drawJitter).settleAt md else (md, d)

/-- Steady's budget at budget_index (14 R471). -/
def Device.budgetAt (d : Device) (md : Mode) : Device :=
  if d.groupActive md ∧ d.steadyRuns ∧ d.index = d.rd Reg.PWR_GROUP_budget_index then d.computeBudget md else d

/-- Steps 6 and 7 of 01 R50 in a job or replay. LATE and GEAR_TIMEOUT fall to one boundary in an order that R50 does not give: here
LATE comes first, at the end of a turn GEAR_TIMEOUT (`endItems`; DESIGN CHOICE, log entry 72). -/
def Device.runIndex (d : Device) (md : Mode) : Device :=
  if seqRuns md then ((d.lateItems d.index).gearTimeouts md d.index).sequence md else d

/-- The steps of a boundary at an index, the time being that of the boundary (01 R50, 13 R420). -/
def Device.boundary (d : Device) (md : Mode) (ended : Nat) : Mode × Device :=
  let k := d.index
  let (md, d) := if k = 0 then d.turnOver md ended else (md, d)
  let (md, d) := if k % 64 = 0 then d.boundary64 md else (md, d)
  let (md, d) := d.injectAt md
  let d := forN 8 (fun m d => d.scmStart m) d
  (md, (d.budgetAt md).runIndex md)

/-- INDEX_BOUNDARY: the next boundary of the spindle (01 R24 to R26, R50). While the spindle does not count there is none. -/
def execIndexBoundary (s : State) : Host.Outcome State Fault Refusal :=
  let d := s.dev
  if ¬ d.sp.counting then .next s
  else
    let ended := d.turn
    let d := { d with sp := { d.sp with time := d.sp.nextBoundary d.sp.time } }
    let r := d.boundary s.mode ended
    settle { s with mode := r.1 } r.2

end Sys2Proof.Machine
end

