-- ==== Sys2Proof/Machine/Dispatch.lean ====
section
/-! DEFINITION. One arm per command of the operation and event table, each a direct call of its meaning. -/

namespace Sys2Proof.Machine

/-- The effect of a command on everything but the queue. -/
def exec (i : Instr) (s : State) : Host.Outcome State Fault Refusal :=
  match i with
  | .porstRise strapRecovery strapTest => Sys2Proof.Machine.execPorstRise strapRecovery strapTest s
  | .porstFall lowNs => Sys2Proof.Machine.execPorstFall lowNs s
  | .brownOut rail permilleBelow lowNs => Sys2Proof.Machine.execBrownOut rail permilleBelow lowNs s
  | .brownOutEnd => Sys2Proof.Machine.execBrownOutEnd s
  | .coldStart sfdpOk => Sys2Proof.Machine.execColdStart sfdpOk s
  | .warmStart recordCrcOk channelsFailing => Sys2Proof.Machine.execWarmStart recordCrcOk channelsFailing s
  | .memTrainingComplete failed gibPerChannel => Sys2Proof.Machine.execMemTrainingComplete failed gibPerChannel s
  | .fxTrainingComplete port ok neighbour neighbourPort signature delayNs => Sys2Proof.Machine.execFxTrainingComplete port ok neighbour neighbourPort signature delayNs s
  | .enterReady startMs => Sys2Proof.Machine.execEnterReady startMs s
  | .gptpSync sync reference stampAt => Sys2Proof.Machine.execGptpSync sync reference stampAt s
  | .ppsEdge stampAt => Sys2Proof.Machine.execPpsEdge stampAt s
  | .sourceTimeout source => Sys2Proof.Machine.execSourceTimeout source s
  | .holdoverExpired stampAt => Sys2Proof.Machine.execHoldoverExpired stampAt s
  | .indexBoundary => Sys2Proof.Machine.execIndexBoundary s
  | .fsyncAssert f => Sys2Proof.Machine.execFsyncAssert f s
  | .fsyncDeassert f => Sys2Proof.Machine.execFsyncDeassert f s
  | .ppsOutAssert => Sys2Proof.Machine.execPpsOutAssert s
  | .ppsOutDeassert => Sys2Proof.Machine.execPpsOutDeassert s
  | .stepRequest => Sys2Proof.Machine.execStepRequest s
  | .spPeriodWrite value => Sys2Proof.Machine.execSpPeriodWrite value s
  | .spPhaseWrite value => Sys2Proof.Machine.execSpPhaseWrite value s
  | .spSlewWrite value => Sys2Proof.Machine.execSpSlewWrite value s
  | .fsyncOffsetWrite f value => Sys2Proof.Machine.execFsyncOffsetWrite f value s
  | .holdReleaseNow mask => Sys2Proof.Machine.execHoldReleaseNow mask s
  | .holdReleaseAtTurn mask => Sys2Proof.Machine.execHoldReleaseAtTurn mask s
  | .ppsSecondsArm low => Sys2Proof.Machine.execPpsSecondsArm low s
  | .spTimeLoRead => Sys2Proof.Machine.execSpTimeLoRead s
  | .nePlanActiveLoRead => Sys2Proof.Machine.execNePlanActiveLoRead s
  | .dmaBadAddrLoRead channel => Sys2Proof.Machine.execDmaBadAddrLoRead channel s
  | .memUeAddrLoRead => Sys2Proof.Machine.execMemUeAddrLoRead s
  | .memProtAddrLoRead => Sys2Proof.Machine.execMemProtAddrLoRead s
  | .csiTsLoRead stream => Sys2Proof.Machine.execCsiTsLoRead stream s
  | .hsSlotSeqLoRead slotB => Sys2Proof.Machine.execHsSlotSeqLoRead slotB s
  | .hsNonceLoRead => Sys2Proof.Machine.execHsNonceLoRead s
  | .pertNonceLoRead => Sys2Proof.Machine.execPertNonceLoRead s
  | .neQstatSelWrite value => Sys2Proof.Machine.execNeQstatSelWrite value s
  | .neQthrWrite value => Sys2Proof.Machine.execNeQthrWrite value s
  | .neCtrSelWrite value => Sys2Proof.Machine.execNeCtrSelWrite value s
  | .fxWindowWrite receive window reg value => Sys2Proof.Machine.execFxWindowWrite receive window reg value s
  | .hsMeasSelWrite value => Sys2Proof.Machine.execHsMeasSelWrite value s
  | .hsExtExtend agent => Sys2Proof.Machine.execHsExtExtend agent s
  | .pertClose => Sys2Proof.Machine.execPertClose s
  | .pertSlotEnable slot value => Sys2Proof.Machine.execPertSlotEnable slot value s
  | .pertSlotEnd slot => Sys2Proof.Machine.execPertSlotEnd slot s
  | .registerWrite address value => Sys2Proof.Machine.execRegisterWrite address value s
  | .physAccess agent address bytes store errors => Sys2Proof.Machine.execPhysAccess agent address bytes store errors s
  | .dramScrubStep channel errors => Sys2Proof.Machine.execDramScrubStep channel errors s
  | .shmScrubStep slice errors => Sys2Proof.Machine.execShmScrubStep slice errors s
  | .dramRefreshPoll channel refreshMult => Sys2Proof.Machine.execDramRefreshPoll channel refreshMult s
  | .dramChannelFault channel => Sys2Proof.Machine.execDramChannelFault channel s
  | .dramRetrainDone channel ok => Sys2Proof.Machine.execDramRetrainDone channel ok s
  | .passFeedComplete core array => Sys2Proof.Machine.execPassFeedComplete core array s
  | .passDecisionPoint core array faults => Sys2Proof.Machine.execPassDecisionPoint core array faults s
  | .descriptorComplete core array => Sys2Proof.Machine.execDescriptorComplete core array s
  | .vectorOpComplete unit => Sys2Proof.Machine.execVectorOpComplete unit s
  | .constantsWritten => Sys2Proof.Machine.execConstantsWritten s
  | .dmaLoadComplete channel readOk waited => Sys2Proof.Machine.execDmaLoadComplete channel readOk waited s
  | .dmaReadData channel errors => Sys2Proof.Machine.execDmaReadData channel errors s
  | .dmaWriteAck channel => Sys2Proof.Machine.execDmaWriteAck channel s
  | .dmaAccessTimeout channel => Sys2Proof.Machine.execDmaAccessTimeout channel s
  | .mirrorAckTimeout channel => Sys2Proof.Machine.execMirrorAckTimeout channel s
  | .emitQueueTimeout channel => Sys2Proof.Machine.execEmitQueueTimeout channel s
  | .dmaDescBad channel => Sys2Proof.Machine.execDmaDescBad channel s
  | .frameStart rx vc number hdrCheck stampAt => Sys2Proof.Machine.execFrameStart rx vc number hdrCheck stampAt s
  | .frameEnd rx vc number hdrCheck stampAt => Sys2Proof.Machine.execFrameEnd rx vc number hdrCheck stampAt s
  | .ignoredShortPacket rx vc dataType hdrCheck => Sys2Proof.Machine.execIgnoredShortPacket rx vc dataType hdrCheck s
  | .longPacket rx vc dataType hdrCheck crcOk fits data stampAt => Sys2Proof.Machine.execLongPacket rx vc dataType hdrCheck crcOk fits data stampAt s
  | .laneSotError rx => Sys2Proof.Machine.execLaneSotError rx s
  | .lineAccepted stream lateTap stampAt => Sys2Proof.Machine.execLineAccepted stream lateTap stampAt s
  | .frameTimeout stream stampAt => Sys2Proof.Machine.execFrameTimeout stream stampAt s
  | .frameCompletion stream stampAt => Sys2Proof.Machine.execFrameCompletion stream stampAt s
  | .camStreamLost stream => Sys2Proof.Machine.execCamStreamLost stream s
  | .scmEntryComplete master status readData stampAt => Sys2Proof.Machine.execScmEntryComplete master status readData stampAt s
  | .scmTimeout master stampAt => Sys2Proof.Machine.execScmTimeout master stampAt s
  | .camIbi master address mdb => Sys2Proof.Machine.execCamIbi master address mdb s
  | .warpBandStart pipe context output => Sys2Proof.Machine.execWarpBandStart pipe context output s
  | .warpBandComplete pipe context output => Sys2Proof.Machine.execWarpBandComplete pipe context output s
  | .encodeComplete encoder bitstream => Sys2Proof.Machine.execEncodeComplete encoder bitstream s
  | .logData encoder => Sys2Proof.Machine.execLogData encoder s
  | .decodeComplete decoder result => Sys2Proof.Machine.execDecodeComplete decoder result s
  | .replayFrameStart stream stampAt => Sys2Proof.Machine.execReplayFrameStart stream stampAt s
  | .replayLineDelivery stream line => Sys2Proof.Machine.execReplayLineDelivery stream line s
  | .flitReceived port crcOk fecCorrected fecUncorrectable => Sys2Proof.Machine.execFlitReceived port crcOk fecCorrected fecUncorrectable s
  | .laneLockLoss port trigger => Sys2Proof.Machine.execLaneLockLoss port trigger s
  | .portRetrainDone port ok => Sys2Proof.Machine.execPortRetrainDone port ok s
  | .transitReceived port kind t correction residenceNs => Sys2Proof.Machine.execTransitReceived port kind t correction residenceNs s
  | .writeReceived t => Sys2Proof.Machine.execWriteReceived t s
  | .signalReceived t => Sys2Proof.Machine.execSignalReceived t s
  | .mirrorReceived t => Sys2Proof.Machine.execMirrorReceived t s
  | .ackReceived source sequence refused => Sys2Proof.Machine.execAckReceived source sequence refused s
  | .heartbeatReceived h => Sys2Proof.Machine.execHeartbeatReceived h s
  | .alignReceived port a stampAt => Sys2Proof.Machine.execAlignReceived port a stampAt s
  | .takeoverReceived sender retired turn index sequence => Sys2Proof.Machine.execTakeoverReceived sender retired turn index sequence s
  | .e2eTimeout destination => Sys2Proof.Machine.execE2eTimeout destination s
  | .logRecordMove => Sys2Proof.Machine.execLogRecordMove s
  | .turnHealthRecord => Sys2Proof.Machine.execTurnHealthRecord s
  | .watchdogExpiry component => Sys2Proof.Machine.execWatchdogExpiry component s
  | .hmWatchdogExpiry => Sys2Proof.Machine.execHmWatchdogExpiry s
  | .steadyTick rails other => Sys2Proof.Machine.execSteadyTick rails other s
  | .groupReportWrite => Sys2Proof.Machine.execGroupReportWrite s
  | .voltageReached quadrant => Sys2Proof.Machine.execVoltageReached quadrant s
  | .limiterWindow quadrant staticMa dynamicMa => Sys2Proof.Machine.execLimiterWindow quadrant staticMa dynamicMa s
  | .ballastWindow quadrant realMa perSixteenthMa => Sys2Proof.Machine.execBallastWindow quadrant realMa perSixteenthMa s
  | .ballastHoldExpiry quadrant => Sys2Proof.Machine.execBallastHoldExpiry quadrant s
  | .thermalSample quadrant temps => Sys2Proof.Machine.execThermalSample quadrant temps s
  | .railLoss quadrant millivolt => Sys2Proof.Machine.execRailLoss quadrant millivolt s
  | .ethFrameReceived port secured icvOk destMac vlan body stampAt => Sys2Proof.Machine.execEthFrameReceived port secured icvOk destMac vlan body stampAt s
  | .reassemblyTimeout session sequence => Sys2Proof.Machine.execReassemblyTimeout session sequence s
  | .macsecPeerTimeout port => Sys2Proof.Machine.execMacsecPeerTimeout port s
  | .sessionIdleTimeout session => Sys2Proof.Machine.execSessionIdleTimeout session s
  | .openSession hdr minMajor maxMajor maxMinor role => Sys2Proof.Machine.execOpenSession hdr minMajor maxMajor maxMinor role s
  | .closeSession hdr => Sys2Proof.Machine.execCloseSession hdr s
  | .keepalive hdr => Sys2Proof.Machine.execKeepalive hdr s
  | .status hdr => Sys2Proof.Machine.execStatus hdr s
  | .start hdr startTurn useStartTurn => Sys2Proof.Machine.execStart hdr startTurn useStartTurn s
  | .stop hdr => Sys2Proof.Machine.execStop hdr s
  | .restartWarm hdr => Sys2Proof.Machine.execRestartWarm hdr s
  | .restartCold hdr => Sys2Proof.Machine.execRestartCold hdr s
  | .eventRead hdr first count => Sys2Proof.Machine.execEventRead hdr first count s
  | .eventSubscribe hdr severity => Sys2Proof.Machine.execEventSubscribe hdr severity s
  | .unknownType hdr msgType => Sys2Proof.Machine.execUnknownType hdr msgType s
  | .modelReadResponse entry modelId offset length data => Sys2Proof.Machine.execModelReadResponse entry modelId offset length data s
  | .modelReadTimeout entry offset => Sys2Proof.Machine.execModelReadTimeout entry offset s
  | .fetchRetry entry => Sys2Proof.Machine.execFetchRetry entry s
  | .updateBegin hdr kind modelId length neOffset digest => Sys2Proof.Machine.execUpdateBegin hdr kind modelId length neOffset digest s
  | .updateData hdr handle offset data => Sys2Proof.Machine.execUpdateData hdr handle offset data s
  | .updateEnd hdr handle => Sys2Proof.Machine.execUpdateEnd hdr handle s
  | .updateAccept hdr => Sys2Proof.Machine.execUpdateAccept hdr s
  | .updateDiscard hdr => Sys2Proof.Machine.execUpdateDiscard hdr s
  | .updateStatus hdr => Sys2Proof.Machine.execUpdateStatus hdr s
  | .replayStart hdr validation => Sys2Proof.Machine.execReplayStart hdr validation s
  | .replayStop hdr => Sys2Proof.Machine.execReplayStop hdr s
  | .nonce hdr => Sys2Proof.Machine.execNonce hdr s
  | .quote hdr hostNonce => Sys2Proof.Machine.execQuote hdr hostNonce s
  | .securityRequest hdr record => Sys2Proof.Machine.execSecurityRequest hdr record s
  | .pertAuthorise hdr record => Sys2Proof.Machine.execPertAuthorise hdr record s
  | .provisionKey hdr slot key => Sys2Proof.Machine.execProvisionKey hdr slot key s
  | .provisionLifecycle hdr => Sys2Proof.Machine.execProvisionLifecycle hdr s
  | .recoveryStatus hdr => Sys2Proof.Machine.execRecoveryStatus hdr s
  | .recoveryWrite hdr target offset data => Sys2Proof.Machine.execRecoveryWrite hdr target offset data s
  | .recoveryCommit hdr target total => Sys2Proof.Machine.execRecoveryCommit hdr target total s
  | .safetyReadFrame offset count => Sys2Proof.Machine.execSafetyReadFrame offset count s
  | .safetyChallenge frame => Sys2Proof.Machine.execSafetyChallenge frame s
  | .safetyStopRequest frame => Sys2Proof.Machine.execSafetyStopRequest frame s
  | .safetyAliveTick => Sys2Proof.Machine.execSafetyAliveTick s
  | .maintDataRead => Sys2Proof.Machine.execMaintDataRead s
  | .maintDataWrite frame => Sys2Proof.Machine.execMaintDataWrite frame s
  | .maintDoorbell frame => Sys2Proof.Machine.execMaintDoorbell frame s
  | .appMailboxRequest m reqWr => Sys2Proof.Machine.execAppMailboxRequest m reqWr s
  | .appMailboxCfgWrite m value => Sys2Proof.Machine.execAppMailboxCfgWrite m value s
  | .appMailboxRspFreed m rspRd => Sys2Proof.Machine.execAppMailboxRspFreed m rspRd s
  | .registerClearingRead address => Sys2Proof.Machine.execRegisterClearingRead address s
  | .asCapableChange port linkUp asCapable => Sys2Proof.Machine.execAsCapableChange port linkUp asCapable s
  | .csiLaneSync rx event => Sys2Proof.Machine.execCsiLaneSync rx event s
  | .componentRestartDone component => Sys2Proof.Machine.execComponentRestartDone component s
  | .ethFrameTransmitted port control => Sys2Proof.Machine.execEthFrameTransmitted port control s
  | .qbvGateChange port => Sys2Proof.Machine.execQbvGateChange port s
  | .dramIntervalMaintenance channel blockedNs refreshMult => Sys2Proof.Machine.execDramIntervalMaintenance channel blockedNs refreshMult s

end Sys2Proof.Machine
end

