-- ==== Sys2Proof/Machine/Pins.lean ====
section
/-! DEFINITION. The states of the pins of 17 R568, as the device's state sets them (17 R568, R580 to R582; 01 R23, R33). -/

namespace Sys2Proof.Machine

/-- The pins that 17 R568 names, RESET_OUT_N and SAFE_ALERT_N each for itself. -/
inductive Pin where
  | fsync (f : Fin 8) | ppsOut
  | scmScl (m : Fin 8) | scmSda (m : Fin 8)
  | phyReset
  | flash
  | safeMiso | mntMiso
  | tdo
  | voltageControl
  | memReset
  | safeAlert | resetOut
  deriving DecidableEq, Repr

/-- State of a pin: a level, high impedance, or driven by the agent that R568 names for it. -/
inductive PinState where
  | low | high | highZ | driven
  deriving DecidableEq, Repr

/-- Level of an output with a polarity bit, 1 for active low (01 'SP registers'), asserted or not. -/
def outputLevel (asserted : Bool) (polarity : Nat) : PinState := if asserted == (polarity == 0) then .high else .low

/-- Level of an active-low output. -/
def activeLow (asserted : Bool) : PinState := if asserted then .low else .high

/-- The state of a pin (17 R568). FSYNCf and PPS_OUT are driven low until the spindle is configured after C4, and then as its
registers set them; a running pulse keeps the polarity with which it began (01 R23, R35). The sensor-control pins are released by the
master's enable. A port's MISO is released by its CS_N, which is high between frames. -/
def State.pinState (s : State) : Pin → PinState
  | .fsync f =>
    let d := s.dev
    let on := d.sp.fsync.getD f.val false
    if ¬ d.pins.spindleDriven then .low
    else outputLevel on (if on then (d.sp.fsyncPulse.getD f.val (0, 0)).2 else d.rd (Reg.SP_FSYNC_CTRL_polarity f.val))
  | .ppsOut =>
    let d := s.dev
    if ¬ d.pins.spindleDriven then .low
    else outputLevel d.sp.ppsOut (if d.sp.ppsOut then d.sp.ppsPulse.2 else d.rd Reg.SP_PPS_OUT_polarity)
  | .scmScl m | .scmSda m => if s.mode.neRuns && s.dev.rdB (Reg.CSI_SCM_CFG_enable m.val) then .driven else .highZ
  | .phyReset => activeLow s.dev.pins.phyReset
  | .flash => if s.dev.pins.flashDriven then .driven else .highZ
  | .safeMiso | .mntMiso => .highZ
  | .tdo => if s.dev.pins.jtag then .driven else .highZ
  | .voltageControl => if s.dev.pins.avsDriven then .driven else .highZ
  | .memReset => activeLow s.dev.pins.memReset
  | .safeAlert => activeLow s.dev.pins.safeAlert
  | .resetOut => activeLow s.dev.pins.resetOut

end Sys2Proof.Machine
end

