-- ==== Sys2Proof/Safety.lean ====
section
/-! DEFINITION. The terms in which statements are made: what a command answers, what it leaves alone, and the forms that every
run keeps. -/

namespace Sys2Proof.Safety

open Sys2Proof.Machine

/-- The command answers a next state of which post holds. -/
def Completes (c : Instr) (s : State) (post : State → Prop) : Prop := ∃ t, exec c s = .next t ∧ post t

/-- The command answers a next state in which the device part alone may have changed, and post holds of it. -/
def Does (c : Instr) (s : State) (post : Device → Prop) : Prop := ∃ e, exec c s = .next { s with dev := e } ∧ post e

/-- As Does, in two stages: post holds of the device part that the command's own work makes, and go makes of it the one that the
answer holds. -/
def DoesThen (c : Instr) (s : State) (go : Device → Device) (post : Device → Prop) : Prop :=
  ∃ e, exec c s = .next { s with dev := go e } ∧ post e

/-- A state whose device part has become d, once a retirement criterion that d has met has taken effect (13 R416 to R418). -/
def settled (s : State) (d : Device) : State := { s with mode := (d.settleAt s.mode).1, dev := (d.settleAt s.mode).2 }

/-- The command answers a next state: the device part becomes one of which post holds, and a retirement criterion that the
command has met takes effect. -/
def Settles (c : Instr) (s : State) (post : Device → Prop) : Prop := ∃ e, exec c s = .next (settled s e) ∧ post e

/-- As Settles, in two stages: post holds of the device part that the command's own work makes, and go (the release and start of
what may run now, or the channel's going on) makes of it the one that the answer holds. -/
def SettlesThen (c : Instr) (s : State) (go : Device → Device) (post : Device → Prop) : Prop :=
  ∃ e, exec c s = .next (settled s (go e)) ∧ post e

/-- No erroneous codeword, offline channel or injection touches a read of n bytes from an address. -/
def CleanRead (d : Device) (a n : Nat) : Prop := d.badCodewords a n = [] ∧ d.activeSlots 5 = []

/-- An agent may write n bytes at an address, and no erroneous codeword or offline channel touches them (08 R269). -/
def CleanStore (d : Device) (ag : Agent) (a n : Nat) : Prop :=
  d.badCodewords a n = [] ∧ (d.rights ag a).2 = true ∧ n ≤ rightsStep - a % rightsStep

/-- An agent may read n bytes at an address, and the read meets no error (08 R269). -/
def CleanLoad (d : Device) (ag : Agent) (a n : Nat) : Prop :=
  CleanRead d a n ∧ (d.rights ag a).1 = true ∧ n ≤ rightsStep - a % rightsStep

/-- A read of a low word: it is returned, the high word at its address stands still, and nothing else changes. -/
def Latches (lo hiAddr hi : Nat) (d e : Device) : Prop :=
  e.bus = { data := leBytes 4 lo } ∧ afind e.latch hiAddr = some hi ∧ (∀ a, a ≠ hiAddr → afind e.latch a = afind d.latch a) ∧
    { e with bus := d.bus, latch := d.latch } = d

/-- Every register field but those listed reads as before, and the writes that wait for a commit are the same. -/
def RegsBut (ks : List Fld) (d e : Device) : Prop :=
  e.regs.shd = d.regs.shd ∧ ∀ f, (∀ k ∈ ks, f.key ≠ k.key) → e.rd f = d.rd f

/-- Nothing of the sensor front end changes but the marks that its streams keep on the time scale, which move with a step (01 R19). -/
def TimesMoved (d e : Device) : Prop :=
  { e.cam with streams := d.cam.streams } = d.cam ∧ ∀ k, ∃ mv, e.stream k = (d.stream k).shifted mv

/-- The accumulators of an array that passes of a parity take (02 R83). -/
def bankAt (a : ArrayRt) (parity : Nat) : List Accum := if parity = 0 then a.bank0 else a.bank1

/-- A write of v to the register at an address has an effect beside or in place of that of the register's fields: SP (01 R19, R22,
R36, R59, R64, R65), NE (03 R135; 06 R233), the VID registers of a running replay (11 R377), FX windows (12 R405), HS (15 R521), the
mailboxes (16 R557, R558) and PERT (13 R434, R437, R438). -/
def ownWrite (s : State) (a v : Nat) : Bool :=
  (a == 0x10000000 && bitAt v 0) ||
    [0x10000008, 0x1000000C, 0x10000010, 0x10000014, 0x10000040, 0x100000E0, 0x10100104, 0x1010011C, 0x10100150].contains a ||
    (decide (0x10000104 ≤ a) && decide (a < 0x10000144) && a % 8 == 4) ||
    (s.mode == .replay && decide (0x16200100 ≤ a) && decide (a < 0x16200200)) || (windowAt a).isSome || a / 0x100000 == 0x190 ||
    (a / 0x100000 == 0x1A0 && (decide (a < 0x1A000100) || decide (0x1A000200 ≤ a) || [8, 0xC, 0x18].contains (a % 0x40))) ||
    (a / 0x100000 == 0x1B0 && (!s.dev.pertIsOpen || a == 0x1B000004 || (decide (0x1B000100 ≤ a) && decide (a < 0x1B000300) && a % 0x20 == 0)))

/-- What Steady takes for V × I of a rail at a tick, in uW: the measured voltage, or without a response that of the set point; and the
greater of measured and estimated current, or 1.2 times the estimate where the measurement is not plausible (14 R462, R464). -/
def railFigure (d : Device) (q : Nat) (m : RailReading) : Nat :=
  (if m.response then m.millivolt else stepMv (d.stepOf q)) *
    (if m.response && m.milliamp != 0 && !m.fullScale then max m.milliamp (d.estimate q) else d.estimate q * 12 / 10)

/-- The ceilings of the quadrants at a tick: 0 outside a job or replay (14 R444, R466). -/
def ceilingsAt (d : Device) (md : Mode) : List Nat :=
  (List.range 4).map fun q => if md = .turning ∨ md = .replay then d.ceiling q else 0

/-- The new steps at a tick at which the throttles stand in their bits (14 R467). -/
def stepsAt (d : Device) (md : Mode) (pq : List Nat) (p cap : Nat) : List Nat :=
  newSteps ((List.range 4).map d.setPoint) (ceilingsAt d md)
    ((List.range 4).map fun q => d.rdB (Reg.PWR_RAIL_STATUS_gap_throttle q) || d.rdB (Reg.PWR_RAIL_STATUS_thermal_throttle q))
    ((List.range 4).map d.waits) pq p cap

/-- Every byte of the physical space outside n bytes from an address is as before. -/
def BytesBut (a n : Nat) (d e : Device) : Prop := ∀ b, b < a ∨ a + n ≤ b → e.bytes b 1 = d.bytes b 1

/-- The response of a message command: it is the newest message sent, with its type, status and payload. -/
def Responds (h : ReqHdr) (msgType status : Nat) (payload : List Byte) (e : Device) : Prop :=
  ∃ m, e.proto.tx.head? = some m ∧ m.msgType = msgType ∧ m.status = status ∧ m.session = h.session ∧
    m.sequence = h.sequence ∧ m.push = false ∧ m.payload = payload

/-- A register that counts up to its greatest value has counted n more. -/
def Counts (k : Fld) (n : Nat) (d e : Device) : Prop := e.rd k = min (d.rd k + n) (2 ^ k.width - 1)

/-- Some device of the group that a route reached before has none now, as FX_ROUTE_CHANGED tells it (12 R391). -/
def newlyCut (d e : Device) : Nat := b2n (e.unreachable.any fun k => !d.unreachable.contains k)

/-- A record that the health monitor moves as number n meets no error where it stands in memory, once memory is up (13 R415). -/
def LogClean (d : Device) (n : Nat) : Prop :=
  d.rdB Reg.MEM_STATUS_init_done = true →
    d.badCodewords ((d.area 2).1 + (64 + 16 * (n % logCap))) 16 = [] ∧ d.badCodewords ((d.area 2).1 + 0) 64 = []

/-- The command answers a next state whose device part is d but for one more in a counting register. -/
def OnlyCounts (c : Instr) (s : State) (k : Fld) (d : Device) : Prop :=
  Does c s fun e => Counts k 1 d e ∧ { e with regs := d.regs } = d ∧ RegsBut [k] d e

/-- A frame passes the security, address and VLAN of a port (15 R491; 16 R530, R532). -/
def FrameSound (s : State) (p : Nat) (secured icvOk : Bool) (destMac vlan : Nat) (d : Device) : Prop :=
  (d.portFlag p 2 = true → secured = true ∧ icvOk = true ∧ d.proto.macsec.getD p false = true) ∧ destMac = s.portMac p ∧
    (s.mode = .recovery ∨ vlan = d.portVlan p)

/-- The bytes of a staged object, in memory of no error where they stand there (16 R548). -/
def StagedBytes (d : Device) (x : Staged) (bs : List Byte) : Prop :=
  if x.kind = 5 then bs = cellsRead x.data 0 x.length
  else if x.kind = 6 then bs = []
  else CleanRead d (d.stagedBase x.kind) x.length ∧ bs = d.bytes (d.stagedBase x.kind) x.length

/-- The open frame f of stream k ends (09 R302 to R304): n lines of it came; it takes further marks and the first framing
content; a short or long frame is marked, counted and reported. -/
def EndsFrame (d : Device) (k : Nat) (f : Frame) (n marks content : Nat) (e : Device) : Prop :=
  ∃ h, h = ((d.stream k).during f).height ∧
    e.frameOf k f.id = some { f with
      endAt := some d.sp.time, marks := f.marks ||| marks ||| (if n < h then 1 else 0) ||| (if h < n then 2 else 0)
      framing := if f.framing = 0 then content else f.framing } ∧
    (n < h → Counts (Reg.CSI_STREAM_ERRS_short_frames k) 1 d e ∧ e.ev = (d.raiseFrame Ev.CAM_FRAME_SHORT k f (n % 65536)).ev) ∧
    (h < n → Counts (Reg.CSI_STREAM_ERRS_long_frames k) 1 d e ∧ e.ev = (d.raiseFrame Ev.CAM_FRAME_LONG k f ((n - h) % 65536)).ev) ∧
    (n = h → e.regs = d.regs ∧ e.ev = d.ev) ∧
    { e with cam := d.cam, regs := d.regs, ev := d.ev } = d ∧ (∀ j, j ≠ k → e.stream j = d.stream j) ∧
    RegsBut [Reg.CSI_STREAM_ERRS_short_frames k, Reg.CSI_STREAM_ERRS_long_frames k] d e

/-- The sample under decoding is skipped (11 R368, R369): the skip log has an entry for it, and it is counted. -/
def SkipsSample (d : Device) (index reason stream : Nat) (e : Device) : Prop :=
  ∃ n a, n = d.vid.replay.logged ∧
    a = d.rdPair Reg.VID_RPL_SKIPLOG_LO_log_lo Reg.VID_RPL_SKIPLOG_HI_log_hi + 8 * n ∧
    e.bytes a 8 = leBytes 4 index ++ leBytes 1 reason ++ leBytes 1 stream ++ [0, 0] ∧ BytesBut a 8 d e ∧
    e.rd Reg.VID_RPL_SKIPLOG_CFG_written = min (n + 1) 0xFFFF ∧ Counts Reg.VID_RPL_COUNT_skipped 1 d e ∧
    e.vid.replay = { d.vid.replay with decoding := none, skipped := d.vid.replay.skipped + 1, logged := n + 1 }

/-- The skip log has room, and its next entry can be written (11 R369). -/
def SkipLogOpen (d : Device) : Prop :=
  d.vid.replay.logged < 65536 ∧
    CleanStore d .engine (d.rdPair Reg.VID_RPL_SKIPLOG_LO_log_lo Reg.VID_RPL_SKIPLOG_HI_log_hi + 8 * d.vid.replay.logged) 8

/-- The device part after the next transaction expected from a source has been taken: what it expects then is the one after it
(12 R394). It takes transactions in the mode, and no injected link drop is active. -/
def TakesNext (s : State) (source sequence : Nat) (d : Device) : Prop :=
  joinListens s.mode = true ∧ s.dev.activeSlots 6 = [] ∧ s.dev.join.expects source = sequence ∧
    d = { s.dev with join := { s.dev.join with rxSeq := mset 1 s.dev.join.rxSeq source (sequence + 1) } }

/-- A response is stored into n bytes from an address: with no error in memory, no channel offline and every byte of them within
the firmware's rights, it changes those bytes and the registers listed, and reports nothing. -/
def AnswerStored (a n : Nat) (ks : List Fld) (d e : Device) : Prop :=
  d.mem.errs = [] → d.rd Reg.MEM_STATUS_offline = 0 → (∀ b, a ≤ b → b < a + n → (d.rights .headstock b).2 = true) →
    BytesBut a n d e ∧ RegsBut ks d e ∧ e.ev = d.ev ∧ e.memc = d.memc ∧ e.fo = d.fo ∧ e.freeCtr = d.freeCtr

/-- What the response to a request may change beside the request's own effect, from d to e: the messages, sessions and line of the
service; over the maintenance port the response half of its buffer and its registers; over Ethernet the output queues and their
peaks; over a mailbox the response half of its ring and its interrupts; where the response stands in memory, what a store there may
report too. -/
def AnswerFrame (h : ReqHdr) (d e : Device) : Prop :=
  { e.proto with tx := d.proto.tx, ready := d.proto.ready, sessions := d.proto.sessions
                 txq := d.proto.txq, appPending := d.proto.appPending, appInterrupts := d.proto.appInterrupts } = d.proto ∧
    { e with proto := d.proto, regs := d.regs, mem := d.mem, ev := d.ev, memc := d.memc, fo := d.fo, freeCtr := d.freeCtr } = d ∧
    (pathKind h.path ≠ 2 → e.proto.appPending = d.proto.appPending ∧ e.proto.appInterrupts = d.proto.appInterrupts) ∧
    match h.path with
    | .app m => AnswerStored ((d.ringOf m.val).1 + (d.ringOf m.val).2) (d.ringOf m.val).2 [Reg.MBX_A_RSP_WR_offset m.val] d e
    | .maint | .recovery false =>
      ∃ base, (base = d.maintBase .recovery ∨ base = d.maintBase .ready) ∧ AnswerStored (base + maintResponse) maintResponse
        [Reg.MBX_MAINT_RSP_LEN_length, Reg.MBX_MAINT_STATUS_rsp_ready, Reg.MBX_MAINT_STATUS_busy] d e
    | .eth _ _ | .recovery true | .safety =>
      { e with proto := d.proto, regs := d.regs } = d ∧
        RegsBut [Reg.ETH_PORT_TXQ_peak_kib 0, Reg.ETH_PORT_TXQ_peak_kib 1, Reg.ETH_PORT_TXQ_peak_kib 2] d e

/-- A request without a session is answered once its own effect has made d: it leaves the line, and its response is sent. -/
def Replied (h : ReqHdr) (msgType status : Nat) (payload : List Byte) (d e : Device) : Prop :=
  Responds h msgType status payload e ∧ e.proto.tx.tail = d.proto.tx ∧ AnswerFrame h d e ∧
    e.proto.ready = (d.takeReady h).proto.ready

/-- A request of a session is answered once its own effect has made d: its response is sent and kept for a repetition. -/
def Answered (h : ReqHdr) (msgType status : Nat) (payload : List Byte) (d e : Device) : Prop :=
  Replied h msgType status payload d e ∧
    ∃ x, d.sessionOf h = some x ∧ e.proto.sessions = (d.setSession { x with
      lastSeq := some h.sequence, cached := payload, cachedStatus := status, cachedType := msgType }).proto.sessions

/-- The command answers a next state in which state and OTP stand, and the device part has been made by its own effect post and the
answer to its request. -/
def Answers (c : Instr) (s : State) (h : ReqHdr) (msgType status : Nat) (payload : List Byte) (post : Device → Prop) : Prop :=
  ∃ d e : Device, exec c s = .next { s with dev := e } ∧ Answered h msgType status payload d e ∧ post d

/-- The edges between the device states of 00 R5, with those of 15 R518 (a warm-start request carried out as a cold start). -/
def modeEdge : Mode → Mode → Bool
  | _, .off => true
  | .off, .coldStart => true
  | .coldStart, .ready | .coldStart, .recovery => true
  | .warmStart, .ready | .warmStart, .recovery | .warmStart, .coldStart => true
  | .recovery, .coldStart => true
  | .ready, .turning | .ready, .warmStart | .ready, .coldStart => true
  | .turning, .parked | .turning, .retired => true
  | .parked, .turning | .parked, .replay | .parked, .warmStart | .parked, .coldStart => true
  | .replay, .parked | .replay, .warmStart | .replay, .coldStart => true
  | .retired, .warmStart | .retired, .coldStart => true
  | a, b => a == b

/-- The lifecycle transitions that the fuses permit (15 R494). -/
def lifecycleEdge (a b : Lifecycle) : Prop :=
  a = b ∨ (a = .blank ∧ b = .development) ∨ (a = .development ∧ b = .production) ∨
    (a = .development ∧ b = .returned) ∨ (a = .production ∧ b = .returned)

/-- A key slot that holds a key. -/
def slotHeld (slots : List (List Byte)) (k : Nat) : Prop :=
  ∃ v, slots[k]? = some v ∧ allZero v = false

/-- OTP with content p has kept what it held with content o: every key, every revocation bit, the seed and the MAC addresses, and
a lifecycle no earlier. -/
def otpKept (o p : Otp) : Prop :=
  (∀ k, slotHeld o.vendor k → p.vendor[k]? = o.vendor[k]?) ∧ (∀ k, slotHeld o.owner k → p.owner[k]? = o.owner[k]?) ∧
    o.vendorRevoked &&& p.vendorRevoked = o.vendorRevoked ∧ o.ownerRevoked &&& p.ownerRevoked = o.ownerRevoked ∧
    p.seed = o.seed ∧ p.macs = o.macs ∧ lifecycleCode o.lifecycle ≤ lifecycleCode p.lifecycle

end Sys2Proof.Safety
end

