-- ==== Sys2Proof/Certificates/Slice0/Obligations.lean ====
section
/-! DEFINITION. The statements for the provers. Each is a proposition about the model, taken from the rules of spec/ that its
docstring names; a docstring that says so names the log entry of a choice of the model's own on which a clause rests. -/

open Sys2Proof Sys2Proof.Machine Sys2Proof.Safety

-- The block as a whole.

/-- A step with a command at the front of the queue is exec of that command on the state with the queue's rest. On an empty
queue the block idles (the model's choice, log entry 7). -/
def Obligations.StepExecutesFrontCommand : Prop :=
  (∀ (s : State) (c : Instr) (rest : List Instr), step { s with pending := c :: rest } = exec c { s with pending := rest }) ∧
  (∀ s : State, s.pending = [] → step s = .next s)

/-- Every command answers a next state, in every state, and leaves the queue alone; so a step shortens the queue by one. -/
def Obligations.EveryCommandCompletesAndKeepsQueue : Prop :=
  ∀ (c : Instr) (s : State), ∃ t, exec c s = .next t ∧ t.pending = s.pending

/-- After reset (power applied, PORST_N low): OFF, no command waiting, every register field at its Reset column (one that names the
faceplate, the plan or the fuses stands at 0, the model's choice, log entry 2), no byte of the physical space written and none in
error, every pin that 17 R568 names as that rule has it during reset. What OTP, fuses and unwritten memory hold is the model's
choice (log entries 3 and 4) and not stated here. -/
def Obligations.ResetLeavesOffWithResetColumns : Prop :=
  State.reset.mode = .off ∧ State.reset.pending = [] ∧ (∀ f : Fld, State.reset.dev.rd f = f.rst) ∧
    State.reset.dev.mem.cells = [] ∧ State.reset.dev.mem.errs = [] ∧ State.reset.dev.sp.counting = false ∧
    State.reset.dev.pins.porst = false ∧
    (∀ f, State.reset.pinState (.fsync f) = .low) ∧ State.reset.pinState .ppsOut = .low ∧
    (∀ m, State.reset.pinState (.scmScl m) = .highZ ∧ State.reset.pinState (.scmSda m) = .highZ) ∧
    State.reset.pinState .phyReset = .low ∧ State.reset.pinState .flash = .highZ ∧ State.reset.pinState .safeMiso = .highZ ∧
    State.reset.pinState .mntMiso = .highZ ∧ State.reset.pinState .tdo = .highZ ∧ State.reset.pinState .voltageControl = .highZ ∧
    State.reset.pinState .memReset = .low ∧ State.reset.pinState .safeAlert = .low ∧ State.reset.pinState .resetOut = .low

/-- Whatever the command, the device state stays or moves along an edge of 00 R5. REPLAY is left to COLD_START only where 15
R518 (firmware or a faceplate written) or R496 (another lifecycle state fused) carries the warm start of 13 R433 out as a cold
start. -/
def Obligations.DeviceStateMovesAlongEdges : Prop :=
  ∀ (c : Instr) (s t : State), exec c s = .next t →
    modeEdge s.mode t.mode = true ∧ (s.mode = .replay ∧ t.mode = .coldStart →
      s.dev.boot.retained.any (·.pending) = true ∨ s.dev.life ≠ lifecycleCode s.otp.lifecycle)

/-- OTP only gains. Whatever the command, a present key slot keeps its key, a revocation bit once set stays set, the identity seed
and the MAC addresses stay, and the lifecycle moves only as the fuses permit. So what was once in OTP is kept by every step: if a
state keeps the keys, revocations and lifecycle progress of some earlier content, so does the state after a step. -/
def Obligations.OtpOnlyGainsKeysAndRevocations : Prop :=
  (∀ (c : Instr) (s t : State), exec c s = .next t →
    (∀ k, slotHeld s.otp.vendor k → t.otp.vendor[k]? = s.otp.vendor[k]?) ∧
    (∀ k, slotHeld s.otp.owner k → t.otp.owner[k]? = s.otp.owner[k]?) ∧
    s.otp.vendorRevoked &&& t.otp.vendorRevoked = s.otp.vendorRevoked ∧
    s.otp.ownerRevoked &&& t.otp.ownerRevoked = s.otp.ownerRevoked ∧
    t.otp.seed = s.otp.seed ∧ t.otp.macs = s.otp.macs ∧ lifecycleEdge s.otp.lifecycle t.otp.lifecycle) ∧
  (∀ (o : Otp) (s t : State), otpKept o s.otp → step s = .next t → otpKept o t.otp)

/-- Only three commands write OTP or fuses; every other leaves all of it alone. -/
def Obligations.OnlyKeyCommandsWriteOtp : Prop :=
  ∀ (c : Instr) (s t : State), exec c s = .next t →
    (∀ h r, c ≠ .securityRequest h r) → (∀ h k b, c ≠ .provisionKey h k b) → (∀ h, c ≠ .provisionLifecycle h) → t.otp = s.otp

/-- A criterion that a command has met (13 R416): in TURNING the part enters RETIRED, asserts SAFE_ALERT_N, raises DEV_RETIRED
with the cause and keeps the cause, and the job it ends holds no transaction and freezes no coverage any longer (12 R395, 13 R427);
the only event that comes before is PERT_CLOSED, where that job was the last one of an authorisation (13 R437); in REPLAY the part
stays and the replay ends; elsewhere nothing more happens (for both, log entry 22). -/
def Obligations.MetCriterionTakesEffectByState : Prop :=
  ∀ (md : Mode) (d : Device) (c : Nat), d.fo.pendingCause = some c →
    (md = .turning → (d.settleAt md).1 = .retired ∧ (d.settleAt md).2.pins.safeAlert = true ∧
      (d.settleAt md).2.fo.cause = c ∧ (d.settleAt md).2.fo.pendingCause = none ∧ (d.settleAt md).2.seq.starting = none ∧
      (d.settleAt md).2.seq.frozen = false ∧ (d.settleAt md).2.join.held = [] ∧ (d.settleAt md).2.join.waiting = [] ∧
      (∀ r ∈ (d.settleAt md).2.seq.items, r.phase = .abandoned) ∧
      (d.settleAt md).2.ev = ((if d.pertIsOpen = true ∧ d.rd Reg.PERT_JOBS_LEFT_jobs ≤ 1 then d.raise Ev.PERT_CLOSED 1 else d).raise
        Ev.DEV_RETIRED c).ev ∧
      (d.ev.hmRunning = true → d.ev.queue.length + 1 < 4096 →
        ∃ l e, (d.settleAt md).2.ev.queue = l ++ [e] ∧ e.code = Ev.DEV_RETIRED ∧ e.payload = BitVec.ofNat 64 c)) ∧
    (md = .replay → (d.settleAt md).1 = .replay ∧ (d.settleAt md).2.vid.replay.ending = true ∧
      (d.settleAt md).2.vid.replay.retireMet = true ∧
      (d.settleAt md).2.rd Reg.VID_STATUS_replay = (if d.rd Reg.VID_STATUS_replay = 2 then 3 else d.rd Reg.VID_STATUS_replay) ∧
      { (d.settleAt md).2 with vid := d.vid, fo := d.fo, regs := d.regs } = d ∧ RegsBut [Reg.VID_STATUS_replay] d (d.settleAt md).2) ∧
    (md ≠ .turning → md ≠ .replay → d.settleAt md = (md, { d with fo := { d.fo with pendingCause := none } }))

/-- An event enters the hardware queue in the order raised, with the index and turn at which it was raised, while the queue has
room; a full queue discards it and counts it; before the health monitor runs Headstock holds it. Nothing else changes. -/
def Obligations.RaisedEventsQueueInOrder : Prop :=
  ∀ (d : Device) (src code payload : Nat),
    (∀ e, d.mkEvent src code payload = e → e.code = code ∧ e.index = d.index ∧ e.turn = d.turn ∧ e.source = src ∧
      e.payload = BitVec.ofNat 64 payload) ∧
    { d.raiseFrom src code payload with ev := d.ev } = d ∧
    (d.ev.hmRunning = true → d.ev.queue.length < 4096 →
      (d.raiseFrom src code payload).ev = { d.ev with queue := d.ev.queue ++ [d.mkEvent src code payload] }) ∧
    (d.ev.hmRunning = true → 4096 ≤ d.ev.queue.length →
      (d.raiseFrom src code payload).ev.queue = d.ev.queue ∧ (d.raiseFrom src code payload).ev.lost = d.ev.lost + 1) ∧
    (d.ev.hmRunning = false →
      (d.raiseFrom src code payload).ev = { d.ev with held := d.ev.held ++ [d.mkEvent src code payload] })

-- Position and time.

/-- Turn and index at a spindle time: with P the period and φ the phase, the turn is floor((t − φ) / P) modulo 2³²; index k
begins floor(k × P / 4096) ns after index 0; the index shown is the last one that has begun; the next boundary is the start of
the index after it. -/
def Obligations.PositionFollowsPeriodAndPhase : Prop :=
  ∀ (sp : Spindle) (t : Nat), 0 < sp.periodUs →
    (sp.turnAt t : Int) = (((t : Int) - sp.phaseNs) / ((sp.periodUs : Int) * 1000)) % 2 ^ 32 ∧
    (∃ m : Int, (t : Int) = sp.phaseNs + m * ((sp.periodUs : Int) * 1000) + sp.offsetAt t) ∧
    sp.offsetAt t < sp.periodUs * 1000 ∧
    (∀ k, sp.indexStart k = k * (sp.periodUs * 1000) / 4096) ∧
    sp.indexStart (sp.indexAt t) ≤ sp.offsetAt t ∧ sp.offsetAt t < sp.indexStart (sp.indexAt t + 1) ∧ sp.indexAt t < 4096

/-- A turn number lies ahead exactly when it is 1 to 2³¹ − 1 turns after the current one, modulo 2³²; so of two different turn
numbers not 2³¹ apart exactly one lies ahead of the other. -/
def Obligations.TurnLiesAheadWithinHalfRange : Prop :=
  (∀ t now k : Nat, t < 2 ^ 32 → now < 2 ^ 32 → (k < 2 ^ 32 ∧ (now + k) % 2 ^ 32 = t) →
    (turnAhead t now = true ↔ 1 ≤ k ∧ k ≤ 2 ^ 31 - 1)) ∧
  (∀ t now : Nat, t < 2 ^ 32 → now < 2 ^ 32 → t ≠ now → (t + 2 ^ 31) % 2 ^ 32 ≠ now → turnAhead t now = !turnAhead now t)

-- Memory.

/-- Channel and channel offset of a DRAM offset are those of 08 R273: the channel is the XOR of bits 11:8, 15:12, 19:16 and 23:20 of
the offset, and the offset within it joins what stands above bit 11 with bits 7:0. The map is one to one: channel and channel offset
give back the offset, for every channel and every offset within it. -/
def Obligations.DramInterleaveIsOneToOne : Prop :=
  (∀ x : Nat, channelOf x < 16 ∧ dramOffset (channelOf x) (channelOffset x) = x) ∧
  (∀ c y : Nat, c < 16 → channelOf (dramOffset c y) = c ∧ channelOffset (dramOffset c y) = y) ∧
  (∀ x, channelOf x = ((x >>> 8) &&& 0xF) ^^^ ((x >>> 12) &&& 0xF) ^^^ ((x >>> 16) &&& 0xF) ^^^ ((x >>> 20) &&& 0xF)) ∧
  (∀ x, channelOffset x = ((x >>> 12) <<< 8) ||| (x &&& 0xFF))

/-- Memory keeps what is written: a store reads back, every byte outside it reads as before, no other state changes, and the
canonical form is kept. -/
def Obligations.StoredBytesReadBack : Prop :=
  ∀ (d : Device) (a : Nat) (bs : List Byte),
    (d.poke a bs).bytes a bs.length = bs ∧ BytesBut a bs.length d (d.poke a bs) ∧ { d.poke a bs with mem := d.mem } = d ∧
    (d.mem.wf = true → (d.poke a bs).mem.wf = true)

-- Supply, reset and starts.

/-- PORST_N and the supply: the rise samples the straps and begins a cold start in which only Headstock leaves reset (the NE stays
in reset, the spindle does not count), or with STRAP_TEST high keeps Headstock in reset; a low pulse under 1 us is ignored; a longer
one, and a monitored rail more than 8% low for more than 1 us, lead to OFF, where every register reads its Reset column, flash and
OTP stay, and the reset pins are asserted; the end of brown-out begins a cold start. The commands whose completion it states:
PORST_RISE, PORST_FALL, BROWN_OUT, BROWN_OUT_END. -/
def Obligations.SupplyEventsResetAndStart : Prop :=
  (∀ s : State, ∀ r : Bool, s.mode = .off → s.dev.pins.porst = false → s.dev.pins.brownOut = false →
    Completes (.porstRise r false) s fun t => t.mode = .coldStart ∧ t.otp = s.otp ∧ t.dev.pins.porst = true ∧
      t.dev.pins.strapRecovery = r ∧ t.dev.rd Reg.NE_STATUS_quad_in_reset = 15 ∧ t.dev.sp.counting = false ∧
      t.dev.boot.firmwareUp = false ∧ t.dev.boot.applicationUp = false ∧ t.dev.boot.flash = s.dev.boot.flash) ∧
  (∀ s : State, ∀ r : Bool, s.mode = .off → s.dev.pins.porst = false →
    Does (.porstRise r true) s fun e => e = { s.dev with pins := { s.dev.pins with porst := true, strapRecovery := r, strapTest := true } }) ∧
  (∀ (s : State) (n : Nat), n < 1000 → exec (.porstFall n) s = .next s) ∧
  (∀ (s : State) (n : Nat), 1000 ≤ n →
    Completes (.porstFall n) s fun t => t.mode = .off ∧ t.otp = s.otp ∧ (∀ f : Fld, t.dev.rd f = f.rst) ∧
      t.dev.boot.flash = s.dev.boot.flash ∧ t.dev.pins.porst = false ∧ t.dev.pins.resetOut = true ∧
      t.dev.pins.safeAlert = true ∧ t.dev.pins.brownOut = s.dev.pins.brownOut) ∧
  (∀ (s : State) (r : MonitoredRail) (p n : Nat), 80 < p → 1000 < n →
    Completes (.brownOut r p n) s fun t => t.mode = .off ∧ t.otp = s.otp ∧ (∀ f : Fld, t.dev.rd f = f.rst) ∧
      t.dev.boot.flash = s.dev.boot.flash ∧ t.dev.pins.brownOut = true ∧ t.dev.pins.resetOut = true ∧
      t.dev.pins.safeAlert = true ∧ t.dev.pins.porst = s.dev.pins.porst) ∧
  (∀ (s : State) (r : MonitoredRail) (p n : Nat), p ≤ 80 ∨ n ≤ 1000 → exec (.brownOut r p n) s = .next s) ∧
  (∀ s : State, s.mode = .off → s.dev.pins.brownOut = true → s.dev.pins.porst = true → s.dev.pins.strapTest = false →
    Completes .brownOutEnd s fun t => t.mode = .coldStart ∧ t.otp = s.otp ∧ t.dev.pins.brownOut = false ∧
      t.dev.rd Reg.NE_STATUS_quad_in_reset = 15 ∧ t.dev.sp.counting = false ∧ t.dev.boot.flash = s.dev.boot.flash)

/-- COLD_START up to C4. The strap leads to RECOVERY with reason 4. With neither slot valid the part enters RECOVERY with reason 2
where a slot fails by revocation, else 1. With a slot that the ROM selects, a faceplate copy that Headstock chooses and sound
components, outside BLANK, the firmware cluster is released: the health monitor runs and SAFE_ALERT_N is released. Once begun, a
start is not begun again. The commands whose completion it states: COLD_START. -/
def Obligations.ColdStartSelectsSlotAndReleasesFirmware : Prop :=
  (∀ (s : State) (b : Bool), s.mode = .coldStart → s.dev.rd Reg.HS_STATUS_start_kind = 0 → s.dev.pins.strapRecovery = true →
    Completes (.coldStart b) s fun t => t.mode = .recovery ∧ t.otp = s.otp ∧
      t.dev.rd Reg.HS_STATUS_recovery_reason = 4 ∧ t.dev.rd Reg.MEM_CFG_speed = 1 ∧ t.dev.pins.safeAlert = true ∧
      t.dev.sp.counting = false ∧ t.dev.boot.flash = s.dev.boot.flash) ∧
  (∀ (s : State) (b : Bool) (d : Device), s.mode = .coldStart → s.dev.rd Reg.HS_STATUS_start_kind = 0 →
    s.dev.pins.strapRecovery = false → d.boot = { flash := s.dev.boot.flash, slowFlash := !b } →
    d = { s.dev.coldBegin s.otp with boot := d.boot } → d.slotVerdict s.otp 0 ≠ 0 → d.slotVerdict s.otp 1 ≠ 0 →
    Completes (.coldStart b) s fun t => t.mode = .recovery ∧ t.otp = s.otp ∧
      t.dev.rd Reg.HS_STATUS_recovery_reason = (if d.slotVerdict s.otp 0 = 8 ∨ d.slotVerdict s.otp 1 = 8 then 2 else 1) ∧
      t.dev.rd Reg.HS_SLOT_STATUS_a_reason = d.slotVerdict s.otp 0 % 16 ∧
      t.dev.rd Reg.HS_SLOT_STATUS_b_reason = d.slotVerdict s.otp 1 % 16) ∧
  (∀ (s : State) (b : Bool) (d x y : Device) (slot c : Nat), s.mode = .coldStart → s.dev.rd Reg.HS_STATUS_start_kind = 0 →
    s.dev.pins.strapRecovery = false → d.boot = { flash := s.dev.boot.flash, slowFlash := !b } →
    d = { s.dev.coldBegin s.otp with boot := d.boot } → d.romSelect s.otp = (.inl slot, x) →
    (x.headstockUp s.otp slot).life ≠ 0 → (x.headstockUp s.otp slot).chooseFaceplate s.otp = (some c, y) →
    componentsReason s.otp ((y.useFaceplate c).extendSecurity).life (((y.useFaceplate c).extendSecurity).slotGet slot) = 0 →
    Completes (.coldStart b) s fun t => t.mode = .coldStart ∧ t.otp = s.otp ∧ t.dev.boot.firmwareUp = true ∧
      t.dev.ev.hmRunning = true ∧ t.dev.ev.held = [] ∧ t.dev.pins.safeAlert = false ∧ t.dev.pins.phyReset = false) ∧
  (∀ (s : State) (b : Bool), s.mode = .coldStart → s.dev.rd Reg.HS_STATUS_start_kind ≠ 0 → exec (.coldStart b) s = .next s)

/-- WARM_START. A record whose CRC fails, as the command tells or as the record itself shows, leads to COLD_START with warm_fail 1 and
WARM_CHECK_FAILED with reason 1. Where W1 to W6 (the model's warmRun) end in WARM_START, that is the answer: every channel has
restored, which MEM_STATUS shows, and the scrubs begin anew. While a channel retrains the start waits for it, and once begun it is
not begun again. The polynomial of the record's CRC and what stands in the record are the model's choice (log entry 32). The commands
whose completion it states: WARM_START. -/
def Obligations.WarmStartRestoresOrFallsBack : Prop :=
  (∀ (s : State) (b : Bool) (x : BitVec 16), s.mode = .warmStart → s.dev.rd Reg.HS_STATUS_start_kind = 0 →
    (∀ p ∈ s.dev.memc.chans, p.2.retraining = false) →
    b = false ∨ (∀ r, s.dev.boot.retained = some r → r.crc ≠ r.computed) →
    Completes (.warmStart b x) s fun t => t.mode = .coldStart ∧ t.otp = s.otp ∧ t.dev.rd Reg.HS_STATUS_warm_fail = 1 ∧
      t.dev.sp.counting = false ∧ t.dev.boot.flash = s.dev.boot.flash ∧ t.dev.mem = s.dev.mem ∧
      ∃ l e, t.dev.ev.held = l ++ [e] ∧ e.code = Ev.WARM_CHECK_FAILED ∧ e.payload = 1) ∧
  (∀ (s : State) (x : BitVec 16) (r : Retained) (d : Device), s.mode = .warmStart → s.dev.rd Reg.HS_STATUS_start_kind = 0 →
    (∀ p ∈ s.dev.memc.chans, p.2.retraining = false) →
    s.dev.boot.retained = some r → r.crc = r.computed → s.dev.warmRun s.otp x = (.warmStart, d) →
    exec (.warmStart true x) s = .next { s with dev := d } ∧ x = 0 ∧ d.rd Reg.MEM_STATUS_warm_restored = 1 ∧
      d.memc.shmScrub = List.replicate 16 0 ∧ d.boot.maintServed = true) ∧
  (∀ (s : State) (b : Bool) (x : BitVec 16), (∃ p ∈ s.dev.memc.chans, p.2.retraining = true) → exec (.warmStart b x) s = .next s) ∧
  (∀ (s : State) (b : Bool) (x : BitVec 16), s.mode = .warmStart → s.dev.rd Reg.HS_STATUS_start_kind ≠ 0 →
    exec (.warmStart b x) s = .next s)

/-- Training of the memory channels and of the Finyx ports. Channels that train with one capacity of 4, 8 or 16 GiB are online and
the installed capacity shows; in RECOVERY and in BLANK that serves the maintenance buffer unless a channel has failed. In
COLD_START, where the faceplate's content stands at that capacity, memory is up: every DRAM byte reads zero but for the event log,
whose header stands at the base of the firmware area (where it stands there is the model's choice, log entry 21); where it does not
stand, Headstock starts again (the model's reading, log entry 29). A port whose neighbour and signature are those of the faceplate
comes up, and its equaliser settings are kept where it trained anew; one that does not train, or finds another signature, is down
with its event; routes are computed again, and FX_ROUTE_CHANGED tells whether a device that a route reached before has none now. A
restore that fails leaves the port to the full training. train_state shows 1 while a port trains, else 3 where one is down, else 2.
The commands whose completion it states: MEM_TRAINING_COMPLETE, FX_TRAINING_COMPLETE. -/
def Obligations.TrainingBringsChannelsAndPortsUp : Prop :=
  (∀ (s : State) (failed : BitVec 16) (g : Nat), (s.mode = .recovery ∨ (s.mode = .coldStart ∧ s.dev.life = 0 ∧
      s.dev.rd Reg.HS_STATUS_start_kind = 1)) → s.dev.rdB Reg.MEM_STATUS_trained = false → (g = 4 ∨ g = 8 ∨ g = 16) →
    s.dev.rd Reg.MEM_STATUS_offline = 0 →
    Does (.memTrainingComplete failed (List.replicate 16 g)) s fun e =>
      (∀ c < 16, e.rd (Reg.MEM_CH_STATUS_online c) = (if bitAt failed.toNat c then 0 else 1) ∧
        e.rd (Reg.MEM_CH_STATUS_training c) = (if bitAt failed.toNat c then 3 else 1)) ∧
      e.rd Reg.MEM_STATUS_offline = failed.toNat ∧ e.rd Reg.MEM_STATUS_trained = 1 ∧ e.dramSize = 16 * g * 2 ^ 30 ∧
      e.boot = { s.dev.boot with maintServed := (failed == 0), maintBlocked := !(failed == 0) } ∧
      { e with regs := s.dev.regs, ev := s.dev.ev, boot := s.dev.boot } = s.dev ∧ (failed = 0 → e.ev = s.dev.ev)) ∧
  (∀ (s : State) (g : Nat), s.mode = .coldStart → s.dev.rd Reg.HS_STATUS_start_kind = 1 → s.dev.life ≠ 0 →
    s.dev.rdB Reg.MEM_STATUS_trained = false → (g = 4 ∨ g = 8 ∨ g = 16) → s.dev.rd Reg.MEM_STATUS_offline = 0 →
    (s.dev.trainChannels 0 (List.replicate 16 g)).fpContentOk s.dev.boot.faceplate = true → (∀ x ∈ s.dev.fpSources, srcFrom x ≠ 1) →
    Does (.memTrainingComplete 0 (List.replicate 16 g)) s fun e =>
      (∀ c < 16, e.rd (Reg.MEM_CH_STATUS_online c) = 1 ∧ e.rd (Reg.MEM_CH_STATUS_training c) = 1) ∧
      e.rd Reg.MEM_STATUS_trained = 1 ∧ e.rd Reg.MEM_STATUS_init_done = 1 ∧ e.dramSize = 16 * g * 2 ^ 30 ∧ e.memc.stored = true ∧
      e.pins.memReset = false ∧ e.boot.maintServed = true ∧ e.boot.maintBlocked = s.dev.boot.maintBlocked ∧
      e.bytes (e.area 2).1 64 = s.dev.ev.header ∧ (∀ a, a < dramBase → e.bytes a 1 = s.dev.bytes a 1) ∧
      (∀ a, dramBase ≤ a → a < (e.area 2).1 ∨ (e.area 2).1 + 64 + 16 * s.dev.ev.log.length ≤ a → e.bytes a 1 = [0])) ∧
  (∀ (s : State) (g : Nat), s.mode = .coldStart → s.dev.rd Reg.HS_STATUS_start_kind = 1 → s.dev.life ≠ 0 →
    s.dev.rdB Reg.MEM_STATUS_trained = false → (g = 4 ∨ g = 8 ∨ g = 16) →
    (s.dev.trainChannels 0 (List.replicate 16 g)).fpContentOk s.dev.boot.faceplate = false →
    Does (.memTrainingComplete 0 (List.replicate 16 g)) s fun e =>
      e.rd Reg.HS_STATUS_start_kind = 0 ∧ e.rd Reg.MEM_STATUS_trained = 0 ∧ e.dramSize = 16 * g * 2 ^ 30 ∧
      { e with regs := s.dev.regs } = s.dev) ∧
  (∀ (s : State) (p q : Fin 8) (n delay : Nat) (sig : Long), (s.mode = .coldStart ∨ s.mode = .warmStart) →
    s.dev.rd (Reg.FX_PORT_STATUS_state p.val) = 1 → sig.toNat = s.dev.rdPair Reg.FX_GROUP_SIG_LO_sig Reg.FX_GROUP_SIG_HI_sig →
    (∃ k, s.dev.wiring p.val = some (n, k)) →
    Does (.fxTrainingComplete p true n q sig delay) s fun e =>
      e.rd (Reg.FX_PORT_STATUS_state p.val) = 2 ∧ e.rd (Reg.FX_PORT_STATUS_neighbour_id p.val) = n % 512 ∧
      e.rd (Reg.FX_PORT_STATUS_neighbour_port p.val) = q.val ∧ e.rd (Reg.FX_PORT_DELAY_delay_ns p.val) = min delay 65535 ∧
      e.ev = ((s.dev.raiseFx Ev.FX_LINK_UP p.val n 0).raiseFx Ev.FX_ROUTE_CHANGED p.val n (newlyCut s.dev e)).ev ∧
      e.rd Reg.FX_STATUS_train_state = (if ∃ k ∈ List.range 8, e.rd (Reg.FX_PORT_STATUS_state k) = 1 then 1
        else if ∃ k ∈ List.range 8, e.rd (Reg.FX_PORT_STATUS_state k) = 3 then 3 else 2) ∧
      ((s.dev.port p.val).restoring = false → (afind e.boot.equaliser p.val).isSome = true) ∧
      ((s.dev.port p.val).restoring = true → e.boot = s.dev.boot) ∧ { e.boot with equaliser := s.dev.boot.equaliser } = s.dev.boot ∧
      { e with regs := s.dev.regs, ev := s.dev.ev, boot := s.dev.boot, freeCtr := s.dev.freeCtr } = s.dev ∧
      RegsBut [Reg.FX_PORT_STATUS_state p.val, Reg.FX_PORT_STATUS_neighbour_id p.val, Reg.FX_PORT_STATUS_neighbour_port p.val,
        Reg.FX_PORT_DELAY_delay_ns p.val, Reg.FX_STATUS_train_state] s.dev e) ∧
  (∀ (s : State) (p q : Fin 8) (n delay : Nat) (sig : Long), (s.mode = .coldStart ∨ s.mode = .warmStart) →
    s.dev.rd (Reg.FX_PORT_STATUS_state p.val) = 1 → sig.toNat ≠ s.dev.rdPair Reg.FX_GROUP_SIG_LO_sig Reg.FX_GROUP_SIG_HI_sig →
    Does (.fxTrainingComplete p true n q sig delay) s fun e =>
      e.rd (Reg.FX_PORT_STATUS_state p.val) = 3 ∧
      e.ev = ((s.dev.raiseFx Ev.FX_NEIGHBOUR_MISMATCH p.val n 1).raiseFx Ev.FX_ROUTE_CHANGED p.val n (newlyCut s.dev e)).ev ∧
      e.rd Reg.FX_STATUS_train_state = (if ∃ k ∈ List.range 8, e.rd (Reg.FX_PORT_STATUS_state k) = 1 then 1 else 3)) ∧
  (∀ (s : State) (p q : Fin 8) (n delay : Nat) (sig : Long), (s.mode = .coldStart ∨ s.mode = .warmStart) →
    s.dev.rd (Reg.FX_PORT_STATUS_state p.val) = 1 → (s.dev.port p.val).restoring = false →
    Does (.fxTrainingComplete p false n q sig delay) s fun e =>
      e.rd (Reg.FX_PORT_STATUS_state p.val) = 3 ∧
      e.ev = ((s.dev.raiseFx Ev.FX_LINK_DOWN p.val 0x1FF 0).raiseFx Ev.FX_ROUTE_CHANGED p.val 0x1FF (newlyCut s.dev e)).ev ∧
      e.rd Reg.FX_STATUS_train_state = (if ∃ k ∈ List.range 8, e.rd (Reg.FX_PORT_STATUS_state k) = 1 then 1 else 3) ∧
      { e with regs := s.dev.regs, ev := s.dev.ev } = s.dev ∧
      RegsBut [Reg.FX_PORT_STATUS_state p.val, Reg.FX_STATUS_train_state] s.dev e) ∧
  (∀ (s : State) (p q : Fin 8) (n delay : Nat) (sig : Long), (s.mode = .coldStart ∨ s.mode = .warmStart) →
    s.dev.rd (Reg.FX_PORT_STATUS_state p.val) = 1 → (s.dev.port p.val).restoring = true →
    exec (.fxTrainingComplete p false n q sig delay) s =
      .next { s with dev := s.dev.setPort p.val { s.dev.port p.val with restoring := false } })

/-- ENTER_READY, once every earlier step is done, the plan's container as it stands in memory is valid and the plan accepted, and after
a warm start no model or application is damaged: the part is READY (becomeReady is the model's text of C9, which begins by writing
core and shared memory with zero, zeroSram), the application cluster is up, the spindle counts, and a cold start has written the
retained-state record of the slot it booted. Before that it changes nothing. The commands whose completion it states: ENTER_READY. -/
def Obligations.ReadyNeedsEveryStepAndAnAcceptedPlan : Prop :=
  (∀ (s : State) (ms : Nat) (f : Fetch) (x m n d : Device) (bs : List Byte), fetching s.mode = true → s.dev.life ≠ 0 →
    s.dev.startStepsDone = true →
    (if s.mode = .warmStart then s.dev.damagedModels s.mode = ([], x) ∧ x.damagedApps s.otp = ([], m) else m = s.dev) →
    m.planEntry = some f → m.readPlan s.mode f = (bs, n) → containerReason s.otp n.life 3 bs.length (fun _ => true) (sliceOf bs) = 0 →
    n.offerPlan s.mode { replay := false } true (containerPayload bs) (cDigest bs) = (none, d) →
    Completes (.enterReady ms) s fun t => t.mode = .ready ∧ t.otp = s.otp ∧
      t.dev = d.becomeReady (s.mode == .coldStart) (cDigest bs) ms ∧
      t.dev.boot.applicationUp = true ∧ t.dev.sp.counting = true ∧
      (s.mode = .coldStart → ∃ r, t.dev.boot.retained = some r ∧ r.slot = t.dev.rd Reg.HS_STATUS_boot_slot ∧
        r.faceplate = cDigest (t.dev.copyGet (t.dev.rd Reg.HS_FACEPLATE_copy_used) 0 128) ∧ r.pending = false)) ∧
  (∀ (d : Device) (a : Nat), shmBase ≤ a → a < dramBase → d.zeroSram.bytes a 1 = [0]) ∧
  (∀ (s : State) (ms : Nat), s.dev.startStepsDone = false → exec (.enterReady ms) s = .next s)

-- The spindle.

/-- Measurements and losses of time sources. A Sync of the faceplate's gPTP domain on a capable port whose gptp flag is set counts
for its source; where that source is the active one afterwards, SP_PHASE_ERR takes the error, outside TURNING a step that waits
sets spindle time to the reference, and in TURNING spindle time is never set; a Sync of another domain, or on a port that is not
capable or has the flag clear, is not used. An edge on PPS_IN that takes an armed seconds value is that whole second; one more
than 10 us off its expected time raises PPS_ANOMALY and leaves spindle time and the frequency correction alone. The commands whose
completion it states: GPTP_SYNC, PPS_EDGE. -/
def Obligations.MeasurementsCorrectTheActiveSource : Prop :=
  (∀ (s : State) (p : Fin 3) (m : Byte) (ref at_ : Nat) (d : Device), (s.dev.sp.src (p.val + 1)).capable = true →
    s.dev.portFlag p.val 1 = true → s.dev.sp.counting = true → m.toNat = s.dev.gptpDomain → d = (s.dev.stamp at_) →
    Does (.gptpSync { port := p, domain := m } ref at_) s fun e =>
      { e with sp := s.dev.sp, ev := s.dev.ev, cam := s.dev.cam } = s.dev ∧ TimesMoved s.dev e ∧
      (s.mode = .turning → e.sp.time = d.sp.time ∧ e.cam = s.dev.cam) ∧
      (((({ d with sp := d.sp.setSrc (p.val + 1) { d.sp.src (p.val + 1) with
            healthy := true, streak := (d.sp.src (p.val + 1)).streak + 1, lastAt := some d.sp.time, lastRef := ref, anomalies := 0 } } :
          Device).reselect).sp.active.map Prod.fst) = some (p.val + 1) →
        e.sp.phaseErr = clampInt (-2147483648) 2147483647 ((ref : Int) - d.sp.time)) ∧
      (s.mode ≠ .turning → d.sp.active = none → d.candidates = [(0, p.val + 1)] → p.val + 1 ≤ d.sp.sources.length →
        e.sp.time = ref ∧ e.sp.active = some (p.val + 1, 0) ∧ e.sp.lock = .acquiring ∧ e.sp.turnOffset = 0)) ∧
  (∀ (s : State) (m : SyncMessage) (ref at_ : Nat), (s.dev.sp.src (m.port.val + 1)).capable = false ∨
      s.dev.portFlag m.port.val 1 = false ∨ m.domain.toNat ≠ s.dev.gptpDomain →
    exec (.gptpSync m ref at_) s = .next { s with dev := s.dev.stamp at_ }) ∧
  (∀ (s : State) (at_ v : Nat) (d : Device), s.dev.sp.counting = true → d = s.dev.stamp at_ → d.sp.ppsArmed = some v →
    (d.sp.src 4).lastAt = none →
    ((({ d with sp := d.sp.setSrc 4 { d.sp.src 4 with
        healthy := true, streak := (d.sp.src 4).streak + 1, lastAt := some d.sp.time, anomalies := 0 } } : Device).reselect).sp.active.map
      Prod.fst) = some 4 →
    Does (.ppsEdge at_) s fun e =>
      e.sp.ppsSeconds = v ∧ e.sp.ppsArmed = none ∧ { e with sp := s.dev.sp, ev := s.dev.ev, cam := s.dev.cam } = s.dev ∧
      TimesMoved s.dev e ∧
      e.sp.phaseErr = clampInt (-2147483648) 2147483647 ((v * 1000000000 : Int) - d.sp.time)) ∧
  (∀ (s : State) (at_ t : Nat) (d : Device), s.dev.sp.counting = true → d = s.dev.stamp at_ → (d.sp.src 4).lastAt = some t →
    10000 < (edgeDeviation t d.sp.time).natAbs → (d.sp.src 4).anomalies = 0 →
    Does (.ppsEdge at_) s fun e =>
      e.ev = (d.raise Ev.PPS_ANOMALY (tcOf (clampInt (-2147483648) 2147483647 (edgeDeviation t d.sp.time)) 32)).ev ∧
      e.sp.time = d.sp.time ∧ e.sp.adjPpb = d.sp.adjPpb ∧ e.sp.lock = d.sp.lock ∧ { e with sp := s.dev.sp, ev := s.dev.ev } = s.dev)

/-- Loss of the active source with no other enabled source healthy: a spindle that is LOCKED enters HOLDOVER with the mean of its
last corrections (in whole ppb, rounded down, and of those there are where they are fewer than 8: the model's choice, log entry 72)
and raises HOLDOVER_ENTERED, and goes on counting; a spindle that never locked is FREE. After 10 s of HOLDOVER HOLDOVER_EXPIRED is
raised and the frozen correction stays. A port that loses link or asCapable, or whose gptp flag is clear, shows it and its source is
unhealthy. STEP_REQUEST with a reference at hand, outside TURNING: spindle time becomes the reference, the turn offset clears and
PHASE_STEP is raised when the step exceeds 1 us; where the active source's time is not known yet, the step waits for its next
measurement (the model's choice, log entry 72); in TURNING, or with no source active, nothing but WRITE_REJECTED. The commands whose
completion it states: SOURCE_TIMEOUT, HOLDOVER_EXPIRED, AS_CAPABLE_CHANGE, STEP_REQUEST. -/
def Obligations.LostSourcesAndStepsSetLockAndTime : Prop :=
  (∀ (s : State) (x : TimeSource) (slot : Nat), s.dev.sp.counting = true → s.dev.sp.active = some (srcCode x, slot) →
    srcCode x ≤ s.dev.sp.sources.length → (∀ p ∈ s.dev.candidates, p.2 ≠ srcCode x → (s.dev.sp.src p.2).healthy = false) →
    Does (.sourceTimeout x) s fun e =>
      e.sp.active = none ∧ (e.sp.src (srcCode x)).healthy = false ∧ e.sp.time = s.dev.sp.time ∧ e.sp.counting = true ∧
      { e with sp := s.dev.sp, ev := s.dev.ev, regs := s.dev.regs } = s.dev ∧ RegsBut [Reg.SP_ALIGN_master_valid] s.dev e ∧
      (s.dev.sp.lock = .locked → e.sp.lock = .holdover ∧ e.sp.holdoverFrom = s.dev.sp.time ∧
        e.ev = (s.dev.raise Ev.HOLDOVER_ENTERED (s.dev.sp.lastActive.getD 0)).ev ∧
        (s.dev.sp.corrections ≠ [] → e.sp.adjPpb = s.dev.sp.corrections.sum / (s.dev.sp.corrections.length : Int))) ∧
      (s.dev.sp.lock ≠ .locked → s.dev.sp.lockedAt = none → e.sp.lock = .free ∧ e.ev = s.dev.ev)) ∧
  (∀ (s : State) (at_ : Nat), s.dev.sp.lock = .holdover →
    Does (.holdoverExpired at_) s fun e =>
      e.sp = { (s.dev.stamp at_).sp with lock := .holdoverExpired } ∧ { e with sp := s.dev.sp, ev := s.dev.ev } = s.dev ∧
      e.ev = ((s.dev.stamp at_).raise Ev.HOLDOVER_EXPIRED (s.dev.sp.lastActive.getD 0)).ev) ∧
  (∀ (s : State) (p : Fin 3) (l c : Bool),
    Does (.asCapableChange p l c) s fun e =>
      e.rd (Reg.ETH_PORT_STATUS_speed p.val) = (if l then (if p.val = 0 then 1 else 2) else 0) ∧
      e.rd (Reg.ETH_PORT_STATUS_as_capable p.val) = b2n (l && c && s.dev.portFlag p.val 1) ∧
      { e with sp := s.dev.sp, ev := s.dev.ev, regs := s.dev.regs, cam := s.dev.cam } = s.dev ∧ TimesMoved s.dev e ∧
      RegsBut [Reg.ETH_PORT_STATUS_speed p.val, Reg.ETH_PORT_STATUS_as_capable p.val] s.dev e ∧
      (p.val < s.dev.sp.sources.length → (e.sp.src (p.val + 1)).capable = (l && c && s.dev.portFlag p.val 1) ∧
        ((l && c && s.dev.portFlag p.val 1) = false → (e.sp.src (p.val + 1)).healthy = false))) ∧
  (∀ (s : State) (r : Nat), s.mode ≠ .turning → s.dev.sp.counting = true → s.dev.referenceNow = some r →
    Does .stepRequest s fun e =>
      e.sp.time = r ∧ e.sp.turnOffset = 0 ∧ e.sp.lock = s.dev.sp.lock ∧
      { e with sp := s.dev.sp, ev := s.dev.ev, cam := s.dev.cam } = s.dev ∧ TimesMoved s.dev e ∧
      (∀ k f, (e.stream k).frames[0]? = some f → ∃ g, (s.dev.stream k).frames[0]? = some g ∧
        f.startAt = ((g.startAt : Int) + ((r : Int) - s.dev.sp.time)).toNat) ∧
      e.ev = (({ s.dev with sp := e.sp, cam := e.cam } : Device).raiseIf (decide (1000 < ((r : Int) - s.dev.sp.time).natAbs)) Ev.PHASE_STEP
        (tcOf ((r : Int) - s.dev.sp.time) 64)).ev) ∧
  (∀ s : State, s.mode ≠ .turning → s.dev.sp.counting = true → s.dev.sp.active.isSome = true → s.dev.referenceNow = none →
    exec .stepRequest s = .next { s with dev := { s.dev with sp := { s.dev.sp with stepPending := true } } }) ∧
  (∀ s : State, s.mode = .turning ∨ s.dev.sp.counting = false ∨ s.dev.sp.active = none →
    exec .stepRequest s = .next { s with dev := s.dev.raise Ev.WRITE_REJECTED 0 })

/-- SP_PERIOD and SP_PHASE take effect outside TURNING within their ranges and are refused with WRITE_REJECTED and the register's
offset otherwise; SP_SLEW takes 10 to 500; SP_FSYNCf_OFFSET takes a shadow value below P / 4096 and leaves the value in use.
SP_HOLD_RELEASE clears exactly the holds that its mask names, at once; with at_turn it arms the release for a turn that lies ahead,
and otherwise the holds stay set and WRITE_REJECTED is raised. How an armed release stands in the list of releases is the model's
choice (log entry 72). SP_PPS_SECONDS_LO arms the seconds value, high word included, for the next edge. The commands whose completion
it states: SP_PERIOD_WRITE, SP_PHASE_WRITE, SP_SLEW_WRITE, FSYNC_OFFSET_WRITE, HOLD_RELEASE_NOW, PPS_SECONDS_ARM,
HOLD_RELEASE_AT_TURN. -/
def Obligations.SpindleSettingsHoldsAndSecondsTakeEffect : Prop :=
  (∀ (s : State) (v : Word), s.mode ≠ .turning → 1000 ≤ v.toNat % 2 ^ 20 → v.toNat % 2 ^ 20 ≤ 1000000 →
    Does (.spPeriodWrite v) s fun e => e.rd Reg.SP_PERIOD_period_us = v.toNat % 2 ^ 20 ∧ { e with regs := s.dev.regs } = s.dev ∧
      RegsBut [Reg.SP_PERIOD_period_us] s.dev e) ∧
  (∀ (s : State) (v : Word), s.mode = .turning ∨ v.toNat % 2 ^ 20 < 1000 ∨ 1000000 < v.toNat % 2 ^ 20 →
    exec (.spPeriodWrite v) s = .next { s with dev := s.dev.raise Ev.WRITE_REJECTED 0x008 }) ∧
  (∀ (s : State) (v : Word), s.mode ≠ .turning → v.toNat % 2 ^ 30 ≤ 999999999 →
    Does (.spPhaseWrite v) s fun e => e.rd Reg.SP_PHASE_phase_ns = v.toNat % 2 ^ 30 ∧ { e with regs := s.dev.regs } = s.dev ∧
      RegsBut [Reg.SP_PHASE_phase_ns] s.dev e) ∧
  (∀ (s : State) (v : Word), s.mode = .turning ∨ 999999999 < v.toNat % 2 ^ 30 →
    exec (.spPhaseWrite v) s = .next { s with dev := s.dev.raise Ev.WRITE_REJECTED 0x00C }) ∧
  (∀ (s : State) (v : Word), 10 ≤ v.toNat % 2 ^ 10 → v.toNat % 2 ^ 10 ≤ 500 →
    Does (.spSlewWrite v) s fun e => e.rd Reg.SP_SLEW_max_ppm = v.toNat % 2 ^ 10 ∧ { e with regs := s.dev.regs } = s.dev ∧
      RegsBut [Reg.SP_SLEW_max_ppm] s.dev e) ∧
  (∀ (s : State) (v : Word), v.toNat % 2 ^ 10 < 10 ∨ 500 < v.toNat % 2 ^ 10 →
    exec (.spSlewWrite v) s = .next { s with dev := s.dev.raise Ev.WRITE_REJECTED 0x014 }) ∧
  (∀ (s : State) (f : Fin 8) (v : Word), v.toNat % 2 ^ 18 < s.dev.sp.period / 4096 →
    Does (.fsyncOffsetWrite f v) s fun e => e.rdShadow (Reg.SP_FSYNC_OFFSET_fine_ns f.val) = v.toNat % 2 ^ 18 ∧
      (∀ g : Fld, e.rd g = s.dev.rd g) ∧ { e with regs := s.dev.regs } = s.dev) ∧
  (∀ (s : State) (f : Fin 8) (v : Word), s.dev.sp.period / 4096 ≤ v.toNat % 2 ^ 18 →
    exec (.fsyncOffsetWrite f v) s = .next { s with dev := s.dev.raise Ev.WRITE_REJECTED (0x104 + 8 * f.val) }) ∧
  (∀ (s : State) (mask : BitVec 11),
    Does (.holdReleaseNow mask) s fun e =>
      { e with regs := s.dev.regs } = s.dev ∧ e.regs.shd = s.dev.regs.shd ∧
      (∀ b < 11, bitAt mask.toNat b = true → ∀ f ∈ holdFields b, e.rd f = 0) ∧
      (∀ g : Fld, (∀ b < 11, bitAt mask.toNat b = true → ∀ f ∈ holdFields b, g.key ≠ f.key) → e.rd g = s.dev.rd g)) ∧
  (∀ (s : State) (mask : BitVec 11), turnAhead (s.dev.rd Reg.SP_HOLD_TURN_turn) s.dev.turn = true →
    exec (.holdReleaseAtTurn mask) s = .next { s with dev := { s.dev with sp := { s.dev.sp with
      releases := s.dev.sp.releases ++ [(mask.toNat, s.dev.rd Reg.SP_HOLD_TURN_turn)] } } }) ∧
  (∀ (s : State) (mask : BitVec 11), turnAhead (s.dev.rd Reg.SP_HOLD_TURN_turn) s.dev.turn = false →
    exec (.holdReleaseAtTurn mask) s = .next { s with dev := s.dev.raise Ev.WRITE_REJECTED 0x0E0 }) ∧
  (∀ (s : State) (v : Word),
    Does (.ppsSecondsArm v) s fun e =>
      e.sp = { s.dev.sp with ppsArmed := some (v.toNat + 2 ^ 32 * s.dev.rd Reg.SP_PPS_SECONDS_HI_seconds_hi) } ∧
      e.rd Reg.SP_PPS_SECONDS_LO_seconds_lo = v.toNat ∧ { e with regs := s.dev.regs, sp := s.dev.sp } = s.dev ∧
      RegsBut [Reg.SP_PPS_SECONDS_LO_seconds_lo] s.dev e)

/-- FSYNC and PPS outputs: output f asserts in a turn and index that its settings place (turn modulo turn_div + 1 zero, index
(start_index + p × 4096 / N) modulo 4096), fine_ns after the index begins, with the width and polarity that stand then, and a pulse
ends when its width has passed; PPS_OUT asserts at the next whole second of spindle time while pps_out_en is set, and its pulse ends
so too. A moment that does not lie in the present index waits for the boundary (log entry 6). Nothing but the spindle changes. The
commands whose completion it states: FSYNC_ASSERT, FSYNC_DEASSERT, PPS_OUT_ASSERT, PPS_OUT_DEASSERT. -/
def Obligations.OutputsPulseWhereSettingsPlaceThem : Prop :=
  (∀ (s : State) (f : Fin 8), s.dev.fsyncRuns s.mode = true → s.dev.rdB (Reg.SP_FSYNC_CTRL_enable f.val) = true →
    s.dev.turn % (s.dev.rd (Reg.SP_FSYNC_CTRL_turn_div f.val) + 1) = 0 →
    (∃ p < 2 ^ s.dev.rd (Reg.SP_FSYNC_CTRL_ppt f.val), s.dev.index =
      (s.dev.rd (Reg.SP_FSYNC_CTRL_start_index f.val) + p * 4096 / 2 ^ s.dev.rd (Reg.SP_FSYNC_CTRL_ppt f.val)) % 4096) →
    f.val < s.dev.sp.fsyncPulse.length →
    Does (.fsyncAssert f) s fun e =>
      e.sp.fsync = s.dev.sp.fsync.set f.val true ∧ { e with sp := s.dev.sp } = s.dev ∧
      e.sp.time = (s.dev.stamp (s.dev.fsyncEdge f.val)).sp.time ∧
      e.sp.fsyncPulse = s.dev.sp.fsyncPulse.set f.val (s.dev.fsyncEdge f.val + 1000 * s.dev.rd (Reg.SP_FSYNC_CTRL_width_us f.val),
        s.dev.rd (Reg.SP_FSYNC_CTRL_polarity f.val)) ∧
      { e.sp with fsync := s.dev.sp.fsync, fsyncPulse := s.dev.sp.fsyncPulse, time := s.dev.sp.time } = s.dev.sp) ∧
  (∀ (s : State) (f : Fin 8), s.dev.fsyncPlaced f.val s.dev.turn s.dev.index = false ∨ s.dev.fsyncRuns s.mode = false →
    exec (.fsyncAssert f) s = .next s) ∧
  (∀ (s : State) (f : Fin 8) (stop pol : Nat), s.dev.sp.fsync.getD f.val false = true → s.dev.sp.fsyncPulse[f.val]? = some (stop, pol) →
    s.dev.sp.reaches stop = true →
    Does (.fsyncDeassert f) s fun e =>
      e.sp = { (s.dev.stamp stop).sp with fsync := s.dev.sp.fsync.set f.val false } ∧ { e with sp := s.dev.sp } = s.dev ∧
      { e.sp with fsync := s.dev.sp.fsync, time := s.dev.sp.time } = s.dev.sp) ∧
  (∀ s : State, s.dev.sp.counting = true → s.dev.rdB Reg.SP_CTRL_pps_out_en = true → s.dev.sp.reaches s.dev.sp.nextSecond = true →
    Does .ppsOutAssert s fun e => e.sp.ppsOut = true ∧ { e with sp := s.dev.sp } = s.dev ∧
      e.sp.time = s.dev.sp.nextSecond ∧
      e.sp.ppsPulse = (s.dev.sp.nextSecond + 1000 * s.dev.rd Reg.SP_PPS_OUT_width_us, s.dev.rd Reg.SP_PPS_OUT_polarity) ∧
      { e.sp with ppsOut := s.dev.sp.ppsOut, ppsPulse := s.dev.sp.ppsPulse, time := s.dev.sp.time } = s.dev.sp) ∧
  (∀ s : State, s.dev.rdB Reg.SP_CTRL_pps_out_en = false ∨ s.dev.sp.reaches s.dev.sp.nextSecond = false →
    exec .ppsOutAssert s = .next s) ∧
  (∀ s : State, s.dev.sp.ppsOut = true → s.dev.sp.reaches s.dev.sp.ppsPulse.1 = true →
    Does .ppsOutDeassert s fun e => e.sp = { (s.dev.stamp s.dev.sp.ppsPulse.1).sp with ppsOut := false } ∧
      { e with sp := s.dev.sp } = s.dev ∧ { e.sp with ppsOut := true, time := s.dev.sp.time } = s.dev.sp)

/-- INDEX_BOUNDARY while the spindle counts: spindle time moves to the next boundary, where the index is the next one, modulo 4096,
and the turn is the next one exactly when the index is 0; then the steps of the boundary run: at index 0 the turn is closed and the
next one opened (turnOver), at each multiple of 64 the steps of 13 R420 follow (boundary64), at every one injections, the
sensor-control masters, the budget of 14 R471 and the steps of 01 R50 at that index. Between two multiples of 64, with the
sensor-control masters disabled, nothing else happens outside a job or replay. While the spindle does not count there is no boundary.
A stop command ends the job at the next index 0: the part parks there, with no job left, unless a criterion of 13 R416 is met while
that turn is closed; then it is RETIRED (a stop before the job's first turn parks the part at that index 0 too: the model's choice,
log entry 11). At every other boundary, a multiple of 64 among them, a part in TURNING goes on there, also a stopping one, unless a
criterion retires it; the steps of 13 R420 leave the job's first turn and the stop command alone. The commands whose completion it
states: INDEX_BOUNDARY. -/
def Obligations.IndexBoundaryAdvancesPositionAndParksStoppedJob : Prop :=
  (∀ s : State, s.dev.sp.counting = false → exec .indexBoundary s = .next s) ∧
  (∀ s : State, s.dev.sp.counting = true → seqRuns s.mode = false → 5 ≤ s.dev.sp.periodUs →
    (s.dev.sp.indexAt s.dev.sp.time + 1) % 64 ≠ 0 → (∀ m < 8, s.dev.rdB (Reg.CSI_SCM_CFG_enable m) = false) →
    s.dev.fo.pendingCause = none →
    exec .indexBoundary s =
      .next { s with dev := { s.dev with sp := { s.dev.sp with time := s.dev.sp.nextBoundary s.dev.sp.time } } }) ∧
  (∀ s : State, s.dev.sp.counting = true → seqRuns s.mode = true → 5 ≤ s.dev.sp.periodUs →
    (s.dev.sp.indexAt s.dev.sp.time + 1) % 64 ≠ 0 → (∀ m < 8, s.dev.rdB (Reg.CSI_SCM_CFG_enable m) = false) →
    s.dev.fo.pendingCause = none → s.dev.pertIsOpen = false → s.dev.activeSlots 3 = [] →
    exec .indexBoundary s = .next (settled s ((({ s.dev with sp := { s.dev.sp with
      time := s.dev.sp.nextBoundary s.dev.sp.time, indexDelay := 0 } } : Device).budgetAt s.mode).runIndex s.mode))) ∧
  (∀ (s : State) (d e0 e1 e2 : Device) (m0 m1 m2 : Mode), s.dev.sp.counting = true →
    d = { s.dev with sp := { s.dev.sp with time := s.dev.sp.nextBoundary s.dev.sp.time } } →
    (if d.index = 0 then d.turnOver s.mode s.dev.turn else (s.mode, d)) = (m0, e0) →
    (if d.index % 64 = 0 then e0.boundary64 m0 else (m0, e0)) = (m1, e1) → e1.injectAt m1 = (m2, e2) →
    exec .indexBoundary s =
      .next (settled { s with mode := m2 } (((forN 8 (fun m e => e.scmStart m) e2).budgetAt m2).runIndex m2))) ∧
  (∀ (s : State) (d : Device), s.dev.sp.counting = true → 5 ≤ s.dev.sp.periodUs → s.mode = .turning → s.dev.seq.stopping = true →
    s.dev.index = 4095 → d = { s.dev with sp := { s.dev.sp with time := s.dev.sp.nextBoundary s.dev.sp.time } } →
    ((d.closeTurn .turning s.dev.turn).fo.pendingCause = none → Completes .indexBoundary s fun t =>
      t.mode = .parked ∧ t.dev.seq.jobFirst = none ∧ t.dev.seq.jobBegun = false ∧ t.dev.seq.stopping = false) ∧
    ((d.closeTurn .turning s.dev.turn).fo.pendingCause ≠ none → Completes .indexBoundary s fun t => t.mode = .retired)) ∧
  (∀ s : State, s.dev.sp.counting = true → 5 ≤ s.dev.sp.periodUs → s.mode = .turning → s.dev.index ≠ 4095 →
    Completes .indexBoundary s fun t => t.mode = .turning ∨ t.mode = .retired) ∧
  (∀ (d : Device) (md : Mode), (d.boundary64 md).2.seq.stopping = d.seq.stopping ∧
    (d.boundary64 md).2.seq.jobFirst = d.seq.jobFirst) ∧
  (∀ (sp : Spindle) (t : Nat), 5 ≤ sp.periodUs →
    t < sp.nextBoundary t ∧ sp.offsetAt (sp.nextBoundary t) = sp.indexStart (sp.indexAt t + 1) % sp.period ∧
    sp.indexAt (sp.nextBoundary t) = (sp.indexAt t + 1) % 4096 ∧
    sp.turnAt (sp.nextBoundary t) = (if sp.indexAt t = 4095 then (sp.turnAt t + 1) % 2 ^ 32 else sp.turnAt t)) ∧
  (∀ (d : Device) (ended : Nat), d.seq.stopping = true →
    ((d.closeTurn .turning ended).fo.pendingCause = none →
      (d.turnOver .turning ended).1 = .parked ∧ (d.turnOver .turning ended).2.seq.jobFirst = none ∧
      (d.turnOver .turning ended).2.seq.stopping = false) ∧
    ((d.closeTurn .turning ended).fo.pendingCause ≠ none → (d.turnOver .turning ended).1 = .retired))

-- Arrays and vector units.

/-- PASS_FEED_COMPLETE: the sums of the pass's valid dot units form from what the feeders have read, the pass joins those that wait
for their decision, and the accumulator bank of its parity takes the sums, row after row of 32, while the other bank stands; a dot
unit outside the valid rows and columns has a zero operand (Feed.outside, 02 R82). Where nothing is being fed nothing changes. The
commands whose completion it states: PASS_FEED_COMPLETE. -/
def Obligations.FedPassFormsItsSums : Prop :=
  (∀ (s : State) (c : Fin 32) (k : Fin 4) (p : PassRt) (x : MatDesc) (f : Feed) (bad : Bool) (d : Device)
      (rows cols par : Nat),
    (s.dev.array c.val k.val).feeding = some p → s.dev.arrayDesc (s.dev.array c.val k.val) = some x →
    s.dev.readPass s.mode c.val k.val x p.num = (f, bad, d) → (x.valid p.num) = (rows, cols) →
    (s.dev.array c.val k.val).passParity = par →
    SettlesThen (.passFeedComplete c k) s (fun e => e.startFeed c.val k.val) fun e =>
      (bankAt (e.array c.val k.val) par).length = 1024 ∧
      (∀ i < 32, ∀ j < 32, (bankAt (e.array c.val k.val) par)[32 * i + j]? = some (if i < rows ∧ j < cols
        then ((f.dots p.shift rows cols).map Prod.fst).getD (i * cols + j) (.int 0) else f.outside rows cols i j)) ∧
      bankAt (e.array c.val k.val) (if par = 0 then 1 else 0) = bankAt (s.dev.array c.val k.val) (if par = 0 then 1 else 0) ∧
      (e.array c.val k.val).feeding = none ∧
      (e.array c.val k.val).undecided = (s.dev.array c.val k.val).undecided ++ [{ p with
        badRead := bad
        accs := (f.dots p.shift rows cols).map Prod.fst
        checks := (f.dots p.shift rows cols).map Prod.snd }] ∧
      (e.array c.val k.val).passParity = (par + 1) % 2 ∧
      { e with arrays := d.arrays } = d ∧
      ∀ c' k', c' * 4 + k' ≠ c.val * 4 + k.val → e.array c' k' = s.dev.array c' k') ∧
  (∀ (s : State) (c : Fin 32) (k : Fin 4), (s.dev.array c.val k.val).feeding = none → exec (.passFeedComplete c k) s = .next s)

/-- A residue mismatch at the decision point of a pass: the first one of the pass, before the fourth of the turn, suppresses the
drain, and the pass is fed again with the same shift as its recompute, which no budget pays. A mismatch of the recompute, or a fourth
one of the array in the turn, on any pass of the descriptor, raises RESIDUE_REPEATED with row, column and which of the two it is, and
meets criterion 1; the array then goes on, or with the last pass is done with its item (settlePass), and in TURNING, where passes are
left, the part is RETIRED with cause 1. Nothing is written to memory for the pass. The commands whose completion it states:
PASS_DECISION_POINT. -/
def Obligations.ResidueMismatchRecomputesThenRetires : Prop :=
  (∀ (s : State) (c : Fin 32) (k : Fin 4) (i j : Fin 32) (a : ArrayRt) (p : PassRt) (rest : List PassRt) (x : MatDesc) (num : Nat),
    s.dev.array c.val k.val = a → a.undecided = p :: rest → a.item = some num → s.dev.arrayDesc a = some x → p.badRead = false →
    s.dev.residueSlots c.val k.val = [] → (∀ q, (p.checks.getD q ⟨none, []⟩).fails false false = false) →
    i.val < (x.valid p.num).1 → j.val < (x.valid p.num).2 →
    p.recompute = false → a.mismatchCount < 3 → a.abandoned = false → (a.feeding = none → a.redo = []) →
    Settles (.passDecisionPoint c k [(i, j)]) s fun e =>
      e.mem = s.dev.mem ∧ e.fo = s.dev.fo ∧ e.cores = s.dev.cores ∧ e.ev = s.dev.ev ∧ e.seq = s.dev.seq ∧
      (e.array c.val k.val).mismatchCount = a.mismatchCount + 1 ∧
      ∃ r, r.num = p.num ∧ r.shift = p.shift ∧ r.recompute = true ∧ r.place = (i.val, j.val) ∧
        ((e.array c.val k.val).feeding = some r ∨ r ∈ (e.array c.val k.val).redo)) ∧
  (∀ (s : State) (c : Fin 32) (k : Fin 4) (i j : Fin 32) (a : ArrayRt) (p : PassRt) (rest : List PassRt) (x : MatDesc) (num : Nat),
    s.mode = .turning → s.dev.fo.pendingCause = none →
    s.dev.array c.val k.val = a → a.undecided = p :: rest → a.item = some num → s.dev.arrayDesc a = some x → p.badRead = false →
    s.dev.residueSlots c.val k.val = [] → (∀ q, (p.checks.getD q ⟨none, []⟩).fails false false = false) →
    i.val < (x.valid p.num).1 → j.val < (x.valid p.num).2 →
    p.recompute = true ∨ 3 ≤ a.mismatchCount → a.abandoned = false → a.settled + 1 < x.passes →
    Completes (.passDecisionPoint c k [(i, j)]) s fun t =>
      t.mode = .retired ∧ t.dev.mem = s.dev.mem ∧ t.dev.fo.cause = 1 ∧ t.dev.pins.safeAlert = true ∧
      ∃ b, b = s.dev.raise Ev.RESIDUE_REPEATED (nePayload c.val k.val num p.num p.shift
          (i.val + j.val * 2 ^ 5 + (b2n p.recompute + 2 * b2n (decide (3 ≤ a.mismatchCount))) * 2 ^ 10)) ∧
        t.dev.ev = ((if s.dev.pertIsOpen = true ∧ s.dev.rd Reg.PERT_JOBS_LEFT_jobs ≤ 1 then b.raise Ev.PERT_CLOSED 1 else b).raise
          Ev.DEV_RETIRED 1).ev) ∧
  (∀ (s : State) (c : Fin 32) (k : Fin 4) (i j : Fin 32) (a : ArrayRt) (p : PassRt) (rest : List PassRt) (x : MatDesc) (num : Nat),
    s.dev.fo.pendingCause = none →
    s.dev.array c.val k.val = a → a.undecided = p :: rest → a.item = some num → s.dev.arrayDesc a = some x → p.badRead = false →
    s.dev.residueSlots c.val k.val = [] → (∀ q, (p.checks.getD q ⟨none, []⟩).fails false false = false) →
    i.val < (x.valid p.num).1 → j.val < (x.valid p.num).2 →
    p.recompute = true ∨ 3 ≤ a.mismatchCount →
    SettlesThen (.passDecisionPoint c k [(i, j)]) s (fun e => e.settlePass s.mode c.val k.val) fun e =>
      { e with arrays := s.dev.arrays, regs := s.dev.regs, fo := s.dev.fo, ev := s.dev.ev } = s.dev ∧
      e.rd (Reg.CORE_ARRAY_RESIDUE_mismatches_this_turn c.val k.val) = min (a.mismatchCount + 1) 4 ∧
      RegsBut [Reg.CORE_ARRAY_RESIDUE_mismatches_this_turn c.val k.val, Reg.CORE_RESIDUE_LAST_array c.val,
        Reg.CORE_RESIDUE_LAST_row c.val, Reg.CORE_RESIDUE_LAST_column c.val, Reg.CORE_RESIDUE_LAST_pass c.val,
        Reg.CORE_RESIDUE_LAST_valid c.val] s.dev e ∧ e.fo = { s.dev.fo with pendingCause := some 1 } ∧
      e.array c.val k.val = { a with undecided := rest, mismatchCount := a.mismatchCount + 1 } ∧
      e.ev = (s.dev.raise Ev.RESIDUE_REPEATED (nePayload c.val k.val num p.num p.shift
        (i.val + j.val * 2 ^ 5 + (b2n p.recompute + 2 * b2n (decide (3 ≤ a.mismatchCount))) * 2 ^ 10))).ev)

/-- A pass whose residue check passes and that holds no overflowed sum drains its results and counts as decided; an overflowed pass
with replays left raises ACC_REPLAY and is fed again with its shift raised by 2, writing nothing. The commands whose completion it
states: PASS_DECISION_POINT. -/
def Obligations.CheckedPassDrainsOrReplays : Prop :=
  (∀ (s : State) (c : Fin 32) (k : Fin 4) (a : ArrayRt) (p : PassRt) (rest : List PassRt) (x : MatDesc) (num : Nat),
    s.dev.array c.val k.val = a → a.undecided = p :: rest → a.item = some num → s.dev.arrayDesc a = some x → p.badRead = false →
    p.recompute = false → a.abandoned = false → s.dev.residueSlots c.val k.val = [] →
    (∀ q, (p.checks.getD q ⟨none, []⟩).fails false false = false) → (∀ z ∈ p.accs, z.overflowed = false) →
    SettlesThen (.passDecisionPoint c k []) s (fun e => e.settlePass s.mode c.val k.val) fun e =>
      e = ((s.dev.setArray c.val k.val { a with undecided := rest }).drain s.mode c.val k.val x p false) ∧
      e.rd (Reg.CORE_ARRAY_PASSES_passes c.val k.val) =
        min (s.dev.rd (Reg.CORE_ARRAY_PASSES_passes c.val k.val) + 1) (2 ^ (Reg.CORE_ARRAY_PASSES_passes c.val k.val).width - 1)) ∧
  (∀ (s : State) (c : Fin 32) (k : Fin 4) (a : ArrayRt) (p : PassRt) (rest : List PassRt) (x : MatDesc) (num : Nat),
    s.dev.array c.val k.val = a → a.undecided = p :: rest → a.item = some num → s.dev.arrayDesc a = some x → p.badRead = false →
    p.recompute = false → a.abandoned = false → s.dev.residueSlots c.val k.val = [] →
    (∀ q, (p.checks.getD q ⟨none, []⟩).fails false false = false) → (∃ z ∈ p.accs, z.overflowed = true) → p.shift < 6 →
    (s.dev.core c.val).replays + s.dev.grantedReplays c.val < 8 →
    Settles (.passDecisionPoint c k []) s fun e =>
      e.mem = s.dev.mem ∧ e.fo = s.dev.fo ∧
      e.ev = (s.dev.raise Ev.ACC_REPLAY (nePayload c.val k.val num p.num (p.shift + 2) 0)).ev ∧
      ∃ r, r.num = p.num ∧ r.shift = p.shift + 2 ∧ r.recompute = false ∧
        ((e.array c.val k.val).feeding = some r ∨ r ∈ (e.array c.val k.val).redo))

/-- Completion of items: DESCRIPTOR_COMPLETE and VECTOR_OP_COMPLETE end the item at the front of the drain, or on the vector unit:
its phase is done, it counts as completed at the present index, SP_LATE_MAX takes the lateness when it is the greatest, and what may
run now is released and started (sequence). The commands whose completion it states: DESCRIPTOR_COMPLETE, VECTOR_OP_COMPLETE. -/
def Obligations.FinishedWorkCompletesItsItem : Prop :=
  (∀ (s : State) (c : Fin 32) (k : Fin 4) (num turn : Nat) (rest : List (Nat × Nat)) (r : ItemRt),
    (s.dev.array c.val k.val).draining = (num, turn) :: rest → s.dev.findItem num turn = some r → r.item.signal = false →
    SettlesThen (.descriptorComplete c k) s (fun e => e.sequence s.mode) fun e =>
      (e.array c.val k.val).draining = rest ∧ (e.findItem num turn).map ItemRt.phase = some Phase.done ∧
      e.seq.completedCount = s.dev.seq.completedCount + 1 ∧ e.seq.lastDone = some s.dev.index ∧
      e.seq.counters = s.dev.seq.counters ∧
      e.rd Reg.SP_LATE_MAX_lateness = (if s.dev.rd Reg.SP_LATE_MAX_lateness < s.dev.index - r.item.deadline
        then min (s.dev.index - r.item.deadline) 65535 else s.dev.rd Reg.SP_LATE_MAX_lateness) ∧
      { e with arrays := s.dev.arrays, seq := s.dev.seq, regs := s.dev.regs } = s.dev ∧
      RegsBut [Reg.SP_LATE_MAX_lateness, Reg.SP_LATE_MAX_item] s.dev e) ∧
  (∀ (s : State) (c : Fin 32) (num turn : Nat) (r : ItemRt), (s.dev.core c.val).vec = some (num, turn) →
    s.dev.findItem num turn = some r → r.phase ≠ .abandoned → r.item.signal = false →
    ∃ d, d = ((s.dev.tick.2).vecRun s.mode
        { core := c.val, num, op := vopOf r.item.body, window := s.dev.planWindow (vopOf r.item.body) } allResults) ∧
      SettlesThen (.vectorOpComplete { core := c, table := 0 }) s (fun e => e.sequence s.mode) fun e =>
        (e.core c.val).vec = none ∧ e.mem = d.mem ∧ e.quant = d.quant ∧
        (e.findItem num turn).map ItemRt.phase = some Phase.done ∧ e.seq.completedCount = s.dev.seq.completedCount + 1) ∧
  (∀ (s : State) (c : Fin 32) (k : Fin 4), (s.dev.array c.val k.val).draining = [] → exec (.descriptorComplete c k) s = .next s) ∧
  (∀ (s : State) (u : VectorEnd), (s.dev.core u.core.val).vec = none → exec (.vectorOpComplete u) s = .next s)

-- DMA.

/-- The funnel divides a line into accesses of at most 64 bytes that follow one another without gap and cover it exactly; each
whole-codeword access is of 8, 16, 32 or 64 bytes and aligned to its size, and each smaller one stays within one codeword. -/
def Obligations.FunnelCoversLineExactly : Prop :=
  ∀ a n : Nat,
    ((lineAccesses a n).map Prod.snd).sum = n ∧
    (∀ k p, (lineAccesses a n)[k]? = some p →
      p.1 = a + (((lineAccesses a n).take k).map Prod.snd).sum ∧ 0 < p.2 ∧ p.2 ≤ 64 ∧
      ((p.2 = 8 ∨ p.2 = 16 ∨ p.2 = 32 ∨ p.2 = 64) ∧ p.1 % p.2 = 0 ∨ p.2 < 8 ∧ p.1 % 8 + p.2 ≤ 8))

/-- DMA_LOAD_COMPLETE puts the loaded record into the shadow set and clears the request; then the shadow set becomes active where 07
R245 allows (trySwap). A record that could not be read is kept as bad. A wait that the channel has spent is counted and shown.
DMA_READ_DATA of a transfer descriptor, not the last read of its unit: the bytes at the access's address enter the channel's buffer
and the channel goes on to the next read; nothing else changes. A read from a target that is down marks the descriptor with cause 3
and its address and moves nothing; one from a DRAM channel that retrains waits. The commands whose completion it states:
DMA_LOAD_COMPLETE, DMA_READ_DATA. -/
def Obligations.LoadsAndReadsEnterTheChannel : Prop :=
  (∀ (s : State) (ch : Fin 80) (ok : Bool) (num turn record w : Nat) (i : Item),
    (s.dev.chan ch.val).loading = some (num, turn, record) → s.dev.itemRecord num turn = some i → i.implicit = false →
    CleanRead s.dev ((s.dev.area 4).1 + 64 * (i.first + record)) 64 →
    SettlesThen (.dmaLoadComplete ch ok w) s (fun e => e.trySwap s.mode ch.val) fun e =>
      (e.chan ch.val).loading = none ∧
      (e.chan ch.val).shadow = some { item := num, turn, record, bad := !ok
                                      bytes := s.dev.bytes ((s.dev.area 4).1 + 64 * (i.first + record)) 64 } ∧
      (e.chan ch.val).active = (s.dev.chan ch.val).active ∧
      { e with dma := s.dev.dma, regs := s.dev.regs, ev := s.dev.ev } = s.dev ∧ (∀ k, k ≠ ch.val → e.chan k = s.dev.chan k) ∧
      RegsBut [Reg.DMA_CH_STALL_cycles ch.val, Reg.DMA_CH_STATUS_load_stall ch.val] s.dev e ∧
      (w = 0 → e.regs = s.dev.regs ∧ e.ev = s.dev.ev) ∧
      (0 < w → (s.dev.chan ch.val).active = none → s.dev.mayRun num turn = true →
        e.rd (Reg.DMA_CH_STALL_cycles ch.val) =
          min (s.dev.rd (Reg.DMA_CH_STALL_cycles ch.val) + w) (2 ^ (Reg.DMA_CH_STALL_cycles ch.val).width - 1) ∧
        e.rd (Reg.DMA_CH_STATUS_load_stall ch.val) = 1 ∧ (e.chan ch.val).stallRaised = true)) ∧
  (∀ (s : State) (ch : Fin 80) (ok : Bool) (w : Nat), (s.dev.chan ch.val).loading = none → exec (.dmaLoadComplete ch ok w) s = .next s) ∧
  (∀ (s : State) (ch : Fin 80) (c : DmaCh) (x : DescRt) (i : Item) (r : ItemRt) (a n : Nat), s.dev.chan ch.val = c →
    c.active = some x → c.cause = none → c.readsDone = false → s.dev.held ch.val = false → s.dev.itemRecord x.item x.turn = some i →
    i.implicit = false → s.dev.findItem x.item x.turn = some r → r.ownNoFrame = false →
    (s.dev.unitReads x c.line c.buffer)[c.pos]? = some (a, n) → s.dev.targetDown a = false → s.dev.retrainingAt a = false →
    s.dev.reachable a = true → (s.dev.rights .dmaItem a).1 = true → n ≤ rightsStep - a % rightsStep → CleanRead s.dev a n →
    c.pos + 1 < (s.dev.unitReads x c.line (c.buffer ++ s.dev.bytes a n)).length →
    Settles (.dmaReadData ch {}) s fun e =>
      e.chan ch.val = { c with pos := c.pos + 1, buffer := c.buffer ++ s.dev.bytes a n } ∧ { e with dma := s.dev.dma } = s.dev ∧
      ∀ k, k ≠ ch.val → e.chan k = s.dev.chan k) ∧
  (∀ (s : State) (ch : Fin 80) (c : DmaCh) (x : DescRt) (i : Item) (r : ItemRt) (a n : Nat) (errors : ReadErrors),
    s.dev.chan ch.val = c → c.active = some x → c.cause = none → c.readsDone = false → s.dev.held ch.val = false →
    s.dev.itemRecord x.item x.turn = some i → i.implicit = false → s.dev.findItem x.item x.turn = some r → r.ownNoFrame = false →
    (s.dev.unitReads x c.line c.buffer)[c.pos]? = some (a, n) → s.dev.targetDown a = true → s.dev.offlineAt a = false →
    Settles (.dmaReadData ch errors) s fun e =>
      e.chan ch.val = { c with cause := some (3, a) } ∧ { e with dma := s.dev.dma } = s.dev ∧
      ∀ k, k ≠ ch.val → e.chan k = s.dev.chan k) ∧
  (∀ (s : State) (ch : Fin 80) (c : DmaCh) (x : DescRt) (i : Item) (r : ItemRt) (a n : Nat) (errors : ReadErrors),
    s.dev.chan ch.val = c → c.active = some x → c.cause = none → c.readsDone = false → s.dev.held ch.val = false →
    s.dev.itemRecord x.item x.turn = some i → i.implicit = false → s.dev.findItem x.item x.turn = some r → r.ownNoFrame = false →
    (s.dev.unitReads x c.line c.buffer)[c.pos]? = some (a, n) → s.dev.retrainingAt a = true →
    exec (.dmaReadData ch errors) s = .next (settled s s.dev))

/-- Acknowledgements and time-outs of a channel: an acknowledgement that is not the descriptor's last takes the oldest write that
waits for one (that it is the oldest is the model's choice, log entry 75) and changes nothing else, and the last one of a descriptor
whose reads are done ends it; an access without response marks cause 2 with its address, a MIRROR not acknowledged cause 5, an EMIT
whose queue refuses cause 6 (the addresses with causes 2 and 6 are the model's reading, log entry 27), and a cause that stands is
kept. DMA_DESC_BAD of a descriptor that writes no strips: the counts rise, the status shows the cause, the BAD registers take item,
record, address and cause unless a record stands, DMA_DESC_BAD is raised, no byte of memory changes, and the channel goes on
(endDescriptor). The commands whose completion it states: DMA_WRITE_ACK, DMA_ACCESS_TIMEOUT, MIRROR_ACK_TIMEOUT, EMIT_QUEUE_TIMEOUT,
DMA_DESC_BAD. -/
def Obligations.ChannelKeepsFirstCauseAndRecordsIt : Prop :=
  (∀ (s : State) (ch : Fin 80) (c : DmaCh) (a : Nat) (rest : List Nat), s.dev.chan ch.val = c → c.active.isSome = true →
    c.unacked = a :: rest → s.dev.held ch.val = false → s.dev.retrainingAt a = false → (c.readsDone = false ∨ rest ≠ []) →
    Settles (.dmaWriteAck ch) s fun e =>
      e.chan ch.val = { c with unacked := rest } ∧ { e with dma := s.dev.dma } = s.dev ∧ ∀ k, k ≠ ch.val → e.chan k = s.dev.chan k) ∧
  (∀ (s : State) (ch : Fin 80) (c : DmaCh) (x : DescRt) (a : Nat), s.dev.chan ch.val = c → c.active = some x →
    c.unacked = [a] → s.dev.held ch.val = false → s.dev.retrainingAt a = false → c.readsDone = true → c.cause = none →
    x.record ≠ 0xFFFF →
    SettlesThen (.dmaWriteAck ch) s (fun e => e.endDescriptor s.mode ch.val) fun e =>
      e.chan ch.val = { c with unacked := [] } ∧ { e with dma := s.dev.dma } = s.dev ∧ ∀ k, k ≠ ch.val → e.chan k = s.dev.chan k) ∧
  (∀ (s : State) (ch : Fin 80) (c : DmaCh) (x : DescRt) (a : Nat), s.dev.chan ch.val = c → c.active = some x →
    s.dev.inFlight ch.val x = some a →
    Does (.dmaAccessTimeout ch) s fun e =>
      (e.chan ch.val).cause = some (c.cause.getD (2, a)) ∧ { e.chan ch.val with cause := c.cause } = c ∧
      { e with dma := s.dev.dma } = s.dev ∧ ∀ k, k ≠ ch.val → e.chan k = s.dev.chan k) ∧
  (∀ (s : State) (ch : Fin 80) (x : DescRt), (s.dev.chan ch.val).active = some x → s.dev.inFlight ch.val x = none →
    exec (.dmaAccessTimeout ch) s = .next s) ∧
  (∀ (s : State) (ch : Fin 80) (c : DmaCh) (x : DescRt) (i : Item), s.dev.chan ch.val = c → c.active = some x →
    s.dev.itemRecord x.item x.turn = some i → i.opcode = 5 →
    Does (.mirrorAckTimeout ch) s fun e =>
      (e.chan ch.val).cause = some (c.cause.getD (5, x.bodySource)) ∧ { e.chan ch.val with cause := c.cause } = c ∧
      { e with dma := s.dev.dma } = s.dev ∧ ∀ k, k ≠ ch.val → e.chan k = s.dev.chan k) ∧
  (∀ (s : State) (ch : Fin 80) (c : DmaCh) (x : DescRt), s.dev.chan ch.val = c → c.active = some x → c.refused = true →
    Does (.emitQueueTimeout ch) s fun e =>
      (e.chan ch.val).cause = some (c.cause.getD (6, x.bodySource + c.handed)) ∧ { e.chan ch.val with cause := c.cause } = c ∧
      { e with dma := s.dev.dma } = s.dev ∧ ∀ k, k ≠ ch.val → e.chan k = s.dev.chan k) ∧
  (∀ (s : State) (ch : Fin 80) (c : DmaCh) (x : DescRt) (cause a : Nat), s.dev.chan ch.val = c → c.active = some x →
    c.cause = some (cause, a) → s.dev.writesStrips x = false → c.badBlocks = 0 → cause < 16 →
    SettlesThen (.dmaDescBad ch) s (fun e => e.endDescriptor s.mode ch.val) fun e =>
      e.rd (Reg.DMA_CH_COUNT_bad ch.val) = min (s.dev.rd (Reg.DMA_CH_COUNT_bad ch.val) + 1) (2 ^ (Reg.DMA_CH_COUNT_bad ch.val).width - 1) ∧
      e.rd Reg.DMA_BAD_TOTAL_descriptors =
        min (s.dev.rd Reg.DMA_BAD_TOTAL_descriptors + 1) (2 ^ Reg.DMA_BAD_TOTAL_descriptors.width - 1) ∧
      e.rd (Reg.DMA_CH_STATUS_bad ch.val) = 1 ∧ e.rd (Reg.DMA_CH_STATUS_last_cause ch.val) = cause ∧
      (s.dev.rdB (Reg.DMA_CH_BAD_ADDR_HI_valid ch.val) = false →
        e.rd (Reg.DMA_CH_BAD_item ch.val) = x.item % 2 ^ 16 ∧ e.rd (Reg.DMA_CH_BAD_record ch.val) = x.record % 2 ^ 16 ∧
        e.rd (Reg.DMA_CH_BAD_ADDR_LO_addr_lo ch.val) = a % 2 ^ 32 ∧ e.rd (Reg.DMA_CH_BAD_ADDR_HI_addr_hi ch.val) = a / 2 ^ 32 % 2 ^ 16 ∧
        e.rd (Reg.DMA_CH_BAD_ADDR_HI_cause ch.val) = cause ∧ e.rdB (Reg.DMA_CH_BAD_ADDR_HI_valid ch.val) = true) ∧
      (s.dev.rdB (Reg.DMA_CH_BAD_ADDR_HI_valid ch.val) = true →
        e.rd (Reg.DMA_CH_BAD_item ch.val) = s.dev.rd (Reg.DMA_CH_BAD_item ch.val) ∧
        e.rd (Reg.DMA_CH_BAD_ADDR_LO_addr_lo ch.val) = s.dev.rd (Reg.DMA_CH_BAD_ADDR_LO_addr_lo ch.val)) ∧
      e.ev = (s.dev.raise Ev.DMA_DESC_BAD (dmaPayload ch.val cause x.item x.record 0)).ev ∧
      { e with regs := s.dev.regs, ev := s.dev.ev } = s.dev)

-- Registers.

/-- The reads of a low word that latch the high word behind it: SP_TIME, NE_PLAN_ACTIVE, DMA_CHc_BAD_ADDR, MEM_UE_ADDR,
MEM_PROT_ADDR, CSI_STREAMs_TS, HS_SLOTA_SEQ and HS_SLOTB_SEQ, HS_NONCE, PERT_NONCE. The selecting writes of NE and HS: NE_QSTAT_SEL
latches the selected tensor's snapshot, NE_QTHR gives the selected tensor a threshold that waits for the next turn, NE_CTR_SEL
latches the selected counter, HS_MEAS_SEL the selected measurement register; HS_EXT_CTRL extends M7 with HS_EXTw, which clears, for
the clusters and for nobody else. The commands whose completion it states: SP_TIME_LO_READ, NE_PLAN_ACTIVE_LO_READ,
DMA_BAD_ADDR_LO_READ, MEM_UE_ADDR_LO_READ, MEM_PROT_ADDR_LO_READ, CSI_TS_LO_READ, HS_SLOT_SEQ_LO_READ, HS_NONCE_LO_READ,
PERT_NONCE_LO_READ, NE_QSTAT_SEL_WRITE, NE_QTHR_WRITE, NE_CTR_SEL_WRITE, HS_MEAS_SEL_WRITE, HS_EXT_EXTEND. -/
def Obligations.LowWordReadsAndSelectionsLatch : Prop :=
  (∀ s : State,
    Does .spTimeLoRead s (Latches (s.dev.sp.time % 2 ^ 32) 0x10000024 (s.dev.sp.time / 2 ^ 32 % 2 ^ 32) s.dev) ∧
    Does .nePlanActiveLoRead s (Latches (s.dev.rd Reg.NE_PLAN_ACTIVE_LO_plan_id_lo) Reg.NE_PLAN_ACTIVE_HI_plan_id_hi.addr
      (s.dev.rd Reg.NE_PLAN_ACTIVE_HI_plan_id_hi) s.dev) ∧
    (∀ ch : Fin 80, Does (.dmaBadAddrLoRead ch) s (Latches (s.dev.rd (Reg.DMA_CH_BAD_ADDR_LO_addr_lo ch.val))
      (Reg.DMA_CH_BAD_ADDR_HI_valid ch.val).addr
      (s.dev.rd (Reg.DMA_CH_BAD_ADDR_HI_addr_hi ch.val) + s.dev.rd (Reg.DMA_CH_BAD_ADDR_HI_cause ch.val) * 2 ^ 16 +
        s.dev.rd (Reg.DMA_CH_BAD_ADDR_HI_valid ch.val) * 2 ^ 31) s.dev)) ∧
    Does .memUeAddrLoRead s (Latches (s.dev.rd Reg.MEM_UE_ADDR_LO_addr_lo) Reg.MEM_UE_ADDR_HI_addr_hi.addr
      (atBits (s.dev.rd Reg.MEM_UE_ADDR_HI_valid) 31 31 + atBits (s.dev.rd Reg.MEM_UE_ADDR_HI_source) 30 28 +
        atBits (s.dev.rd Reg.MEM_UE_ADDR_HI_live) 27 27 + s.dev.rd Reg.MEM_UE_ADDR_HI_addr_hi) s.dev) ∧
    Does .memProtAddrLoRead s (Latches (s.dev.rd Reg.MEM_PROT_ADDR_LO_addr_lo) Reg.MEM_PROT_ADDR_HI_addr_hi.addr
      (atBits (s.dev.rd Reg.MEM_PROT_ADDR_HI_valid) 31 31 + s.dev.rd Reg.MEM_PROT_ADDR_HI_addr_hi) s.dev) ∧
    (∀ k : Fin 32, Does (.csiTsLoRead k) s (Latches (s.dev.rd (Reg.CSI_STREAM_TS_LO_ts_lo k.val))
      (Reg.CSI_STREAM_TS_HI_ts_hi k.val).addr (s.dev.rd (Reg.CSI_STREAM_TS_HI_ts_hi k.val)) s.dev)) ∧
    Does (.hsSlotSeqLoRead false) s (Latches (s.dev.rd Reg.HS_SLOTA_SEQ_LO_seq) Reg.HS_SLOTA_SEQ_HI_seq.addr
      (s.dev.rd Reg.HS_SLOTA_SEQ_HI_seq) s.dev) ∧
    Does (.hsSlotSeqLoRead true) s (Latches (s.dev.rd Reg.HS_SLOTB_SEQ_LO_seq) Reg.HS_SLOTB_SEQ_HI_seq.addr
      (s.dev.rd Reg.HS_SLOTB_SEQ_HI_seq) s.dev) ∧
    Does .hsNonceLoRead s (Latches (s.dev.rd Reg.HS_NONCE_LO_nonce) Reg.HS_NONCE_HI_nonce.addr (s.dev.rd Reg.HS_NONCE_HI_nonce) s.dev) ∧
    Does .pertNonceLoRead s (Latches (s.dev.rd Reg.PERT_NONCE_LO_nonce) Reg.PERT_NONCE_HI_nonce.addr
      (s.dev.rd Reg.PERT_NONCE_HI_nonce) s.dev)) ∧
  (∀ (s : State) (v : Word) (x : TensorSt), s.dev.tensor (v.toNat % 1024) = x →
    Does (.neQstatSelWrite v) s fun e =>
      e.rd Reg.NE_QSTAT_SEL_tensor = v.toNat % 1024 ∧ e.rd Reg.NE_QSTAT_TURN_turn = s.dev.quant.snapTurn % 2 ^ 32 ∧
      e.rd Reg.NE_QSTAT_PRODUCED_produced = x.snapProduced % 2 ^ 32 ∧ e.rd Reg.NE_QSTAT_CLIP_LO_clipped_lo = x.snapLo % 2 ^ 32 ∧
      e.rd Reg.NE_QSTAT_CLIP_HI_clipped_hi = x.snapHi % 2 ^ 32 ∧ e.rd Reg.NE_QSTAT_PPM_share_ppm = x.snapPpm % 2 ^ 20 ∧ e.rd Reg.NE_QSTAT_PPM_counted = b2n x.snapCounted ∧
      e.rd Reg.NE_QSTAT_PPM_nan_seen = b2n x.snapNan ∧ e.rd Reg.NE_QSTAT_PPM_drift = b2n x.drift ∧
      { e with regs := s.dev.regs } = s.dev) ∧
  (∀ (s : State) (v : Word) (x : TensorSt), s.dev.tensor (s.dev.rd Reg.NE_QSTAT_SEL_tensor) = x →
    Does (.neQthrWrite v) s fun e =>
      e.tensor (s.dev.rd Reg.NE_QSTAT_SEL_tensor) = { x with thresholdShadow := some (min (v.toNat % 2 ^ 20) 1000000) } ∧
      (∀ t, t ≠ s.dev.rd Reg.NE_QSTAT_SEL_tensor → e.tensor t = s.dev.tensor t) ∧ { e with quant := s.dev.quant } = s.dev) ∧
  (∀ (s : State) (v : Word),
    Does (.neCtrSelWrite v) s fun e =>
      e.rd Reg.NE_CTR_SEL_counter = v.toNat % 512 ∧ e.rd Reg.NE_CTR_VALUE_value = (s.dev.ctr (v.toNat % 512)).value % 2 ^ 16 ∧
      e.rd Reg.NE_CTR_VALUE_marks = (s.dev.ctr (v.toNat % 512)).marks % 2 ^ 8 ∧ { e with regs := s.dev.regs } = s.dev ∧
      RegsBut [Reg.NE_CTR_SEL_counter, Reg.NE_CTR_VALUE_value, Reg.NE_CTR_VALUE_marks] s.dev e) ∧
  (∀ (s : State) (v : Word),
    Does (.hsMeasSelWrite v) s fun e =>
      e.rd Reg.HS_MEAS_SEL_reg = v.toNat % 8 ∧
      (∀ w < 16, e.rd (Reg.HS_MEAS_word w) = fieldOf (s.dev.meas (v.toNat % 8)) (4 * w) 4) ∧ { e with regs := s.dev.regs } = s.dev) ∧
  (∀ (s : State) (ag : Agent), mayExtend ag = true →
    Does (.hsExtExtend ag) s fun e =>
      e.boot.ext = List.replicate 16 0 ∧
      e.boot.meas = s.dev.boot.meas.set 7 (shake256 (s.dev.meas 7 ++ s.dev.boot.ext.flatMap fun w => leBytes 4 w.toNat)) ∧
      { e with boot := s.dev.boot } = s.dev ∧ { e.boot with meas := s.dev.boot.meas, ext := s.dev.boot.ext } = s.dev.boot) ∧
  (∀ (s : State) (ag : Agent), mayExtend ag = false → exec (.hsExtExtend ag) s = .next s)

/-- A window register of FX takes a write into its shadow copies outside TURNING and REPLAY; in them the write is ignored and
FX_CFG_REJECTED is raised. REGISTER_WRITE and REGISTER_CLEARING_READ, outside OFF: SP_HOLD_TURN (RW) takes the word;
SP_FSYNC0_CTRL (RWS) takes it into its shadow copy while the value in use stays; NE_PARAM0 (RO) takes nothing; SP_LATE_MAX (RC) is
returned and cleared; NE_MESH_CONGEST (RC) reads zero where the mesh does not run and nothing has run since it was last cleared
(what it counts otherwise is free, log entry 44). In OFF no access has an effect. The commands whose completion it states:
FX_WINDOW_WRITE, REGISTER_WRITE, REGISTER_CLEARING_READ. -/
def Obligations.RegisterAccessTakesReturnsAndClears : Prop :=
  (∀ (s : State) (w : Fin 16) (v : Word), s.mode ≠ .turning → s.mode ≠ .replay →
    Does (.fxWindowWrite false w 0 v) s (fun e =>
      e.rdShadow (Reg.FX_SEND_LOCAL_enable w.val) = bitsOf v.toNat 31 31 ∧ e.rdShadow (Reg.FX_SEND_LOCAL_dest w.val) = bitsOf v.toNat 30 22 ∧
      e.rdShadow (Reg.FX_SEND_LOCAL_local_base w.val) = bitsOf v.toNat 21 0 ∧ (∀ f : Fld, e.rd f = s.dev.rd f) ∧
      { e with regs := s.dev.regs } = s.dev) ∧
    Does (.fxWindowWrite false w 1 v) s (fun e => e.rdShadow (Reg.FX_SEND_SIZE_size w.val) = bitsOf v.toNat 21 0 ∧
      (∀ f : Fld, e.rd f = s.dev.rd f) ∧ { e with regs := s.dev.regs } = s.dev) ∧
    Does (.fxWindowWrite false w 2 v) s (fun e => e.rdShadow (Reg.FX_SEND_REMOTE_remote_base w.val) = bitsOf v.toNat 21 0 ∧
      (∀ f : Fld, e.rd f = s.dev.rd f) ∧ { e with regs := s.dev.regs } = s.dev) ∧
    Does (.fxWindowWrite true w 0 v) s (fun e =>
      e.rdShadow (Reg.FX_RECV_SRC_enable w.val) = bitsOf v.toNat 31 31 ∧ e.rdShadow (Reg.FX_RECV_SRC_source w.val) = bitsOf v.toNat 30 22 ∧
      e.rdShadow (Reg.FX_RECV_SRC_for_device w.val) = bitsOf v.toNat 21 13 ∧ (∀ f : Fld, e.rd f = s.dev.rd f) ∧
      { e with regs := s.dev.regs } = s.dev) ∧
    Does (.fxWindowWrite true w 1 v) s (fun e => e.rdShadow (Reg.FX_RECV_BASE_base w.val) = bitsOf v.toNat 21 0 ∧
      (∀ f : Fld, e.rd f = s.dev.rd f) ∧ { e with regs := s.dev.regs } = s.dev) ∧
    Does (.fxWindowWrite true w 2 v) s (fun e => e.rdShadow (Reg.FX_RECV_SIZE_size w.val) = bitsOf v.toNat 21 0 ∧
      (∀ f : Fld, e.rd f = s.dev.rd f) ∧ { e with regs := s.dev.regs } = s.dev)) ∧
  (∀ (s : State) (b : Bool) (w : Fin 16) (r : Fin 3) (v : Word), s.mode = .turning ∨ s.mode = .replay →
    exec (.fxWindowWrite b w r v) s = .next { s with dev := s.dev.raiseFx Ev.FX_CFG_REJECTED 0xFF 0x1FF (w.val + b2n b * 32) }) ∧
  (∀ (s : State) (v : Word), s.mode ≠ .off →
    Does (.registerWrite 0x100000E4 v) s (fun e => e.rd Reg.SP_HOLD_TURN_turn = v.toNat ∧
      { e with regs := s.dev.regs, latch := s.dev.latch } = s.dev ∧ RegsBut [Reg.SP_HOLD_TURN_turn] s.dev e) ∧
    Does (.registerWrite 0x10000100 v) s (fun e =>
      e.rdShadow (Reg.SP_FSYNC_CTRL_width_us 0) = bitsOf v.toNat 31 20 ∧ e.rdShadow (Reg.SP_FSYNC_CTRL_start_index 0) = bitsOf v.toNat 19 8 ∧
      e.rdShadow (Reg.SP_FSYNC_CTRL_enable 0) = bitsOf v.toNat 0 0 ∧ (∀ f : Fld, e.rd f = s.dev.rd f) ∧
      { e with regs := s.dev.regs, latch := s.dev.latch } = s.dev) ∧
    Does (.registerWrite 0x10100004 v) s (fun e => e.regs = s.dev.regs ∧ { e with latch := s.dev.latch } = s.dev) ∧
    Does (.registerClearingRead 0x1000004C) s (fun e =>
      e.rd Reg.SP_LATE_MAX_lateness = 0 ∧ e.rd Reg.SP_LATE_MAX_item = 0 ∧
      (afind s.dev.latch 0x1000004C = none → e.bus.data =
        leBytes 4 (atBits (s.dev.rd Reg.SP_LATE_MAX_item) 31 16 + atBits (s.dev.rd Reg.SP_LATE_MAX_lateness) 15 0)) ∧
      { e with regs := s.dev.regs, bus := s.dev.bus } = s.dev ∧
      RegsBut [Reg.SP_LATE_MAX_lateness, Reg.SP_LATE_MAX_item] s.dev e)) ∧
  (∀ s : State, s.mode ≠ .off → s.mode.neRuns = false → mget 0 s.dev.seq.cycleMarks 0x10100048 = s.dev.seq.runs →
    Does (.registerClearingRead 0x10100048) s fun e => e.bus = { data := leBytes 4 0 } ∧ e.regs = s.dev.regs ∧
      mget 0 e.seq.cycleMarks 0x10100048 = e.seq.runs) ∧
  (∀ (a : Nat) (v : Word) (s : State), s.mode = .off → exec (.registerWrite a v) s = .next s ∧ exec (.registerClearingRead a) s = .next s)

/-- The perturbation facility: closing it disables every slot, and an open facility raises PERT_CLOSED with reason 3; a slot of an
allowed kind that is enabled waits, or is over when its turn has passed, and one written without the enable bit is disabled; with a
kind that is not allowed the slot keeps its enable bit, and while the facility is closed it keeps everything, each with
PERT_WRITE_REJECTED; a slot whose duration has passed waits again when it recurs and is over otherwise. The commands whose
completion it states: PERT_CLOSE, PERT_SLOT_ENABLE, PERT_SLOT_END. -/
def Obligations.PerturbationSlotsOpenCloseAndEnd : Prop :=
  (∀ s : State, s.dev.pertIsOpen = true →
    Does .pertClose s fun e =>
      e.pertIsOpen = false ∧ e.rd Reg.PERT_STATUS_kinds = 0 ∧ e.rd Reg.PERT_JOBS_LEFT_jobs = 0 ∧ e.rd Reg.HS_STATUS_pert_open = 0 ∧
      (∀ i < 16, e.rd (Reg.PERT_SLOT_CFG_enable i) = 0 ∧ e.rd (Reg.PERT_SLOT_STATUS_state i) = 0) ∧
      e.ev = (s.dev.raise Ev.PERT_CLOSED 3).ev ∧ { e with regs := s.dev.regs, ev := s.dev.ev, boot := s.dev.boot } = s.dev) ∧
  (∀ s : State, s.dev.pertIsOpen = false → exec .pertClose s = .next s) ∧
  (∀ (s : State) (i : Fin 16) (v : Word), s.dev.pertIsOpen = true → bitAt v.toNat 31 = true →
    s.dev.kindAllowed (bitsOf v.toNat 3 0) = true →
    Does (.pertSlotEnable i v) s fun e =>
      e.rd (Reg.PERT_SLOT_CFG_enable i.val) = 1 ∧ e.rd (Reg.PERT_SLOT_CFG_kind i.val) = bitsOf v.toNat 3 0 ∧
      e.rd (Reg.PERT_SLOT_CFG_duration i.val) = bitsOf v.toNat 27 16 ∧
      (s.dev.sp.counting = false → e.rd (Reg.PERT_SLOT_STATUS_state i.val) = 1) ∧
      (bitAt v.toNat 30 = false → s.dev.sp.counting = true → e.rd (Reg.PERT_SLOT_STATUS_state i.val) =
        (if turnAhead (s.dev.rd (Reg.PERT_SLOT_TURN_turn i.val)) s.dev.turn then 1 else 3)) ∧
      { e with regs := s.dev.regs } = s.dev ∧
      RegsBut [Reg.PERT_SLOT_CFG_enable i.val, Reg.PERT_SLOT_CFG_relative i.val, Reg.PERT_SLOT_CFG_every_turn i.val,
        Reg.PERT_SLOT_CFG_duration i.val, Reg.PERT_SLOT_CFG_kind i.val, Reg.PERT_SLOT_STATUS_state i.val] s.dev e) ∧
  (∀ (s : State) (i : Fin 16) (v : Word), s.dev.pertIsOpen = true → bitAt v.toNat 31 = false →
    s.dev.kindAllowed (bitsOf v.toNat 3 0) = true →
    Does (.pertSlotEnable i v) s fun e =>
      e.rd (Reg.PERT_SLOT_CFG_enable i.val) = 0 ∧ e.rd (Reg.PERT_SLOT_STATUS_state i.val) = 0 ∧
      e.rd (Reg.PERT_SLOT_CFG_kind i.val) = bitsOf v.toNat 3 0 ∧ { e with regs := s.dev.regs } = s.dev) ∧
  (∀ (s : State) (i : Fin 16) (v : Word), s.dev.pertIsOpen = true → s.dev.kindAllowed (bitsOf v.toNat 3 0) = false →
    Does (.pertSlotEnable i v) s fun e =>
      e.rd (Reg.PERT_SLOT_CFG_enable i.val) = s.dev.rd (Reg.PERT_SLOT_CFG_enable i.val) ∧
      e.rd (Reg.PERT_SLOT_STATUS_state i.val) = s.dev.rd (Reg.PERT_SLOT_STATUS_state i.val) ∧
      e.rd (Reg.PERT_SLOT_CFG_kind i.val) = bitsOf v.toNat 3 0 ∧
      e.ev = (s.dev.raise Ev.PERT_WRITE_REJECTED (0x100 + 0x20 * i.val)).ev ∧ { e with regs := s.dev.regs, ev := s.dev.ev } = s.dev) ∧
  (∀ (s : State) (i : Fin 16) (v : Word), s.dev.pertIsOpen = false →
    exec (.pertSlotEnable i v) s = .next { s with dev := s.dev.raise Ev.PERT_WRITE_REJECTED (0x100 + 0x20 * i.val) }) ∧
  (∀ (s : State) (i : Fin 16), s.dev.rd (Reg.PERT_SLOT_STATUS_state i.val) = 2 → s.dev.rd (Reg.PERT_SLOT_CFG_kind i.val) ≠ 7 →
    Does (.pertSlotEnd i) s fun e =>
      e.rd (Reg.PERT_SLOT_STATUS_state i.val) = (if s.dev.rdB (Reg.PERT_SLOT_CFG_every_turn i.val) then 1 else 3) ∧
      { e with regs := s.dev.regs } = s.dev ∧ RegsBut [Reg.PERT_SLOT_STATUS_state i.val] s.dev e)

/-- REGISTER_WRITE outside OFF of a word at any register of the tables whose write has no effect of its own (ownWrite): each RW
field takes its bits (brought into its range where the register's table says so), each RWS field takes them into its shadow copy
and keeps its value in use, each W1C field clears where a 1 is written, RO, RC and WO fields stay, and a field that takes effect
at cold start only stays outside COLD_START. No field of another register changes, and nothing but registers and their latches
does; an offset that no register has takes nothing. A register whose write has an effect of its own has the effect of that
command: SP_PERIOD, SP_PHASE, SP_SLEW, SP_PPS_SECONDS_LO, SP_HOLD_RELEASE, SP_FSYNCf_OFFSET, NE_QSTAT_SEL, NE_QTHR, NE_CTR_SEL,
HS_MEAS_SEL, HS_EXT_CTRL, the FX windows, the mailboxes and PERT; SP_SRC_CTRL is stored, its reserved bits 0, before the source is
chosen anew; the VID_RPL_ registers of a running replay take nothing. The commands whose completion it states: REGISTER_WRITE. -/
def Obligations.WordWriteFollowsEveryAccessClass : Prop :=
  (∀ (s : State) (a : Nat) (v : Word) (r : RegDef), s.mode ≠ .off → isRegs a = true → a % 4 = 0 → regAt a = some r →
    ownWrite s a v.toNat = false →
    Does (.registerWrite a v) s fun e =>
      (∀ f ∈ r.fields,
        (f.effect = .cold ∧ s.mode ≠ .coldStart → e.rd ⟨a, f.hi, f.lo, f.rst⟩ = s.dev.rd ⟨a, f.hi, f.lo, f.rst⟩) ∧
        (¬ (f.effect = .cold ∧ s.mode ≠ .coldStart) →
          (f.access = .rw → e.rd ⟨a, f.hi, f.lo, f.rst⟩ = clampField a f.lo (bitsOf v.toNat f.hi f.lo) % 2 ^ (f.hi + 1 - f.lo)) ∧
          (f.access = .rws →
            e.rdShadow ⟨a, f.hi, f.lo, f.rst⟩ = clampField a f.lo (bitsOf v.toNat f.hi f.lo) % 2 ^ (f.hi + 1 - f.lo) ∧
            e.rd ⟨a, f.hi, f.lo, f.rst⟩ = s.dev.rd ⟨a, f.hi, f.lo, f.rst⟩) ∧
          (f.access = .w1c → e.rd ⟨a, f.hi, f.lo, f.rst⟩ =
            (if clampField a f.lo (bitsOf v.toNat f.hi f.lo) = 0 then s.dev.rd ⟨a, f.hi, f.lo, f.rst⟩ else 0))) ∧
        (f.access = .ro ∨ f.access = .rc ∨ f.access = .wo → e.rd ⟨a, f.hi, f.lo, f.rst⟩ = s.dev.rd ⟨a, f.hi, f.lo, f.rst⟩)) ∧
      (∀ g : Fld, g.key / 32 ≠ a → e.rd g = s.dev.rd g) ∧ { e with regs := s.dev.regs, latch := s.dev.latch } = s.dev) ∧
  (∀ (s : State) (a : Nat) (v : Word), regAt a = none → ownWrite s a v.toNat = false → exec (.registerWrite a v) s = .next s) ∧
  (∀ (s : State) (v : Word), s.mode ≠ .off →
    exec (.registerWrite 0x10000008 v) s = exec (.spPeriodWrite v) s ∧ exec (.registerWrite 0x1000000C v) s = exec (.spPhaseWrite v) s ∧
    exec (.registerWrite 0x10000014 v) s = exec (.spSlewWrite v) s ∧ exec (.registerWrite 0x10000040 v) s = exec (.ppsSecondsArm v) s ∧
    exec (.registerWrite 0x100000E0 v) s = (if bitAt v.toNat 31 then exec (.holdReleaseAtTurn (v.setWidth 11)) s
      else exec (.holdReleaseNow (v.setWidth 11)) s) ∧
    (∀ f : Fin 8, exec (.registerWrite (0x10000104 + 8 * f.val) v) s = exec (.fsyncOffsetWrite f v) s) ∧
    exec (.registerWrite 0x10100104 v) s = exec (.neQstatSelWrite v) s ∧ exec (.registerWrite 0x1010011C v) s = exec (.neQthrWrite v) s ∧
    exec (.registerWrite 0x10100150 v) s = exec (.neCtrSelWrite v) s ∧
    (∀ (b : Bool) (w : Fin 16) (r : Fin 3),
      exec (.registerWrite (0x17000400 + b2n b * 0x200 + 16 * w.val + 4 * r.val) v) s = exec (.fxWindowWrite b w r v) s) ∧
    exec (.registerWrite 0x19000040 v) s = exec (.hsMeasSelWrite v) s ∧
    exec (.registerWrite 0x19000140 v) s = (if bitAt v.toNat 0 then exec (.hsExtExtend .kernel) s else .next s) ∧
    (∀ m : Fin 4, exec (.registerWrite (0x1A000108 + 0x40 * m.val) v) s = exec (.appMailboxCfgWrite m v) s ∧
      exec (.registerWrite (0x1A00010C + 0x40 * m.val) v) s = exec (.appMailboxRequest m v) s ∧
      exec (.registerWrite (0x1A000118 + 0x40 * m.val) v) s = exec (.appMailboxRspFreed m v) s) ∧
    exec (.registerWrite 0x1B000004 v) s = (if bitAt v.toNat 0 then exec .pertClose s else .next s) ∧
    (s.dev.pertIsOpen = true → ∀ i : Fin 16, exec (.registerWrite (0x1B000100 + 0x20 * i.val) v) s = exec (.pertSlotEnable i v) s)) ∧
  (∀ (s : State) (v : Word), s.mode ≠ .off →
    Does (.registerWrite 0x10000010 v) s fun e => e.rd Reg.SP_SRC_CTRL_slots = v.toNat &&& 0x87878787 ∧ TimesMoved s.dev e ∧
      { e with regs := s.dev.regs, latch := s.dev.latch, sp := s.dev.sp, ev := s.dev.ev, cam := s.dev.cam } = s.dev ∧
      RegsBut [Reg.SP_SRC_CTRL_slots] s.dev e) ∧
  (∀ (s : State) (a : Nat) (v : Word), s.mode = .replay → 0x16200100 ≤ a → a < 0x16200200 → exec (.registerWrite a v) s = .next s) ∧
  (∀ (s : State) (w : Fin 16) (v : Word), s.mode ≠ .off →
    Does (.registerWrite (0x19000100 + 4 * w.val) v) s fun e =>
      e.boot = { s.dev.boot with ext := lset s.dev.boot.ext w.val v } ∧ { e with boot := s.dev.boot } = s.dev) ∧
  (∀ (s : State) (a : Nat) (v : Word), s.mode ≠ .off → s.dev.pertIsOpen = false → a / 0x100000 = 0x1B0 → a % 4 = 0 → a ≠ 0x1B000004 →
    exec (.registerWrite a v) s = .next { s with dev := s.dev.raise Ev.PERT_WRITE_REJECTED (a % 4096) })

-- Memory.

/-- PHYS_ACCESS outside OFF. In a memory that holds no error there and answers, an access of legal width that the agent may make
reads the bytes at the address and changes nothing, or stores them at the address and changes no byte outside them (an item's DMA
write into a send window, which leaves a copy too, is apart); one to a channel that retrains waits. An unmapped access or one of
illegal width answers an error and raises MEM_UNMAPPED; one without the right answers an error, raises MEM_PROTECTION and is
recorded; neither changes memory. A component that leaves its regions, itself or through its DMA, is restarted with
FW_ACCESS_FAULT, and the access has no effect. Two wrong bits in a cluster's own SRAM or caches meet retirement cause 3 (13 R416),
and the access does not reach memory (the model's choice, log entry 81). The commands whose completion it states: PHYS_ACCESS. -/
def Obligations.PhysicalAccessObeysMapAndRights : Prop :=
  (∀ (s : State) (ag : Agent) (a n : Nat), s.mode ≠ .off → ag ≠ .component 0 → ag ≠ .componentDma 0 → codeKind (s.dev.place a) < 4 →
    widthOk false a n = true → (s.dev.rights ag a).1 = true → s.dev.targetDown a = false → s.dev.retrainingAt a = false →
    CleanRead s.dev a n →
    Settles (.physAccess ag a n none {}) s fun e =>
      e.bus = { data := s.dev.bytes a n } ∧ { e with bus := s.dev.bus } = s.dev) ∧
  (∀ (s : State) (ag : Agent) (a n : Nat) (bs : List Byte), s.mode ≠ .off → ag ≠ .component 0 → ag ≠ .componentDma 0 → ag ≠ .dmaItem →
    codeKind (s.dev.place a) < 4 → bs.length = n → widthOk false a n = true → (s.dev.rights ag a).2 = true →
    s.dev.targetDown a = false → s.dev.retrainingAt a = false → s.dev.badCodewords a n = [] →
    Settles (.physAccess ag a n (some bs) {}) s fun e =>
      e.bytes a n = bs ∧ BytesBut a n s.dev e ∧ { e with bus := s.dev.bus, mem := s.dev.mem } = s.dev) ∧
  (∀ (s : State) (ag : Agent) (a n : Nat) (st : Option (List Byte)), s.mode ≠ .off → ag ≠ .component 0 → ag ≠ .componentDma 0 →
    widthOk false a n = true → (if st.isSome then (s.dev.rights ag a).2 else (s.dev.rights ag a).1) = true →
    (∀ bs, st = some bs → bs.length = n) → s.dev.retrainingAt a = true →
    Settles (.physAccess ag a n st {}) s fun e =>
      e.bus = {} ∧ e.memc = { s.dev.memc with waiting := s.dev.memc.waiting ++
        [{ agent := ag, address := a, bytes := n, store := st, errors := 0 }] } ∧
      { e with bus := s.dev.bus, memc := s.dev.memc } = s.dev) ∧
  (∀ (s : State) (ag : Agent) (a n : Nat) (st : Option (List Byte)), s.mode ≠ .off → ag = .kernel ∨ ag = .application →
    Settles (.physAccess ag a n st { memory := 0, cache := 2 }) s fun e =>
      e.mem = s.dev.mem ∧ e.bus.uncorrectable = true ∧ e.fo.pendingCause = (s.dev.fo.pendingCause <|> some 3) ∧ e.ev = s.dev.ev ∧
      e.regs = s.dev.regs) ∧
  (∀ (s : State) (ag : Agent) (a n : Nat) (errors : AccessErrors) (st : Option (List Byte)), s.mode ≠ .off →
    (∀ id, ag ≠ .component id ∧ ag ≠ .componentDma id) → errors.cache = 0 →
    (s.dev.place a = .unmapped ∨ widthOk (s.dev.place a == .regs) a n = false) →
    Settles (.physAccess ag a n st errors) s fun e =>
      e.bus = { data := List.replicate n 0, error := true } ∧ { e with bus := s.dev.bus, ev := s.dev.ev } = s.dev ∧
      e.ev = (s.dev.reportUnmapped ag a st.isSome).ev) ∧
  (∀ (s : State) (ag : Agent) (a n : Nat) (errors : AccessErrors) (st : Option (List Byte)), s.mode ≠ .off →
    (∀ id, ag ≠ .component id ∧ ag ≠ .componentDma id) → errors.cache = 0 → s.dev.place a ≠ .unmapped → widthOk (s.dev.place a == .regs) a n = true →
    (if st.isSome then (s.dev.rights ag a).2 else (s.dev.rights ag a).1) = false →
    Settles (.physAccess ag a n st errors) s fun e =>
      e.bus = { data := List.replicate n 0, error := true } ∧ e.mem = s.dev.mem ∧
      { e with bus := s.dev.bus, ev := s.dev.ev, regs := s.dev.regs } = s.dev ∧ e.ev = (s.dev.reportProtection ag a st.isSome).ev ∧
      (s.dev.rdB Reg.MEM_PROT_ADDR_HI_valid = false →
        e.rd Reg.MEM_PROT_ADDR_LO_addr_lo = a % 2 ^ 32 ∧ e.rd Reg.MEM_PROT_ADDR_HI_addr_hi = a / 2 ^ 32 % 2 ^ 16 ∧
        e.rd Reg.MEM_PROT_ADDR_HI_valid = 1 ∧ e.rd Reg.MEM_PROT_INFO_write = b2n st.isSome ∧
        e.rd Reg.MEM_PROT_INFO_agent = agentClass ag) ∧
      (s.dev.rdB Reg.MEM_PROT_ADDR_HI_valid = true → e.regs = s.dev.regs)) ∧
  (∀ (s : State) (ag : Agent) (id : Fin 8) (a n : Nat) (errors : AccessErrors) (st : Option (List Byte)), s.mode ≠ .off →
    ag = .component id ∨ ag = .componentDma id → id.val ≠ 0 → id.val ≠ 4 →
    (if st.isSome then (s.dev.rights ag a).2 else (s.dev.rights ag a).1) = false →
    Does (.physAccess ag a n st errors) s fun e =>
      e.proto.restarting = s.dev.proto.restarting.set id.val true ∧ e.bus.error = true ∧ e.mem = s.dev.mem ∧ e.regs = s.dev.regs ∧
      e.ev = (s.dev.raise Ev.FW_ACCESS_FAULT (fwPayload 0xFF id.val (a % 2 ^ 32))).ev ∧
      { e with bus := s.dev.bus, ev := s.dev.ev, proto := s.dev.proto } = s.dev)

/-- Patrol scrub of a clean 64-byte word in which n symbols (DRAM, n 0 to 2) or bits (shared memory, n 0 or 1) have gone wrong
since, on a channel that does not retrain: the word is corrected and written back, so no error is left and every byte reads as
before, the correction is counted, and the scrub position moves on by 64 bytes, to the start after the channel's or slice's last
word. Refresh and retraining of an online channel: the refresh rate asked for shows, up to 255, and a rise above nominal raises
MEM_DRAM_HOT (once until it is nominal again: the model's choice, log entry 43); a maintenance interval adds its blocked time, at
most 400 ns; a fault starts a retraining, which ends with the channel going on or going offline with reason 2; a store that waited
for it is then made, and in a warm start the channel then enters self-refresh. The commands whose completion it states:
DRAM_SCRUB_STEP, SHM_SCRUB_STEP, DRAM_REFRESH_POLL, DRAM_INTERVAL_MAINTENANCE, DRAM_CHANNEL_FAULT, DRAM_RETRAIN_DONE. -/
def Obligations.ChannelsScrubRefreshAndRetrain : Prop :=
  (∀ (s : State) (c : Fin 16) (n y w : Nat), s.dev.rdB Reg.MEM_SCRUB_CFG_enable = true → s.dev.rdB (Reg.MEM_CH_STATUS_online c.val) = true →
    s.dev.rdB (Reg.MEM_CH_STATUS_self_refresh c.val) = false → s.dev.channelSize ≠ 0 → (s.dev.memCh c.val).scrub = y →
    y % 64 = 0 → y < s.dev.channelSize → s.dev.rd Reg.MEM_STATUS_offline = 0 → s.dev.activeSlots 5 = [] →
    w = dramBase + dramOffset c.val y → s.dev.errsAt w = 0 → s.dev.errsAt (w + 32) = 0 → n ≤ 2 →
    s.dev.rd Reg.MEM_CE_LIMIT_per_second = 0 → (s.dev.memCh c.val).retraining = false →
    Settles (.dramScrubStep c n) s fun e =>
      e.errsAt w = 0 ∧ e.errsAt (w + 32) = 0 ∧ e.mem.cells = s.dev.mem.cells ∧ e.ev = s.dev.ev ∧ e.fo = s.dev.fo ∧
      (e.memCh c.val).scrub = (if s.dev.channelSize ≤ y + 64 then 0 else y + 64) ∧
      e.rd (Reg.MEM_CH_ECC_corrected c.val) = (if n = 0 then s.dev.rd (Reg.MEM_CH_ECC_corrected c.val)
        else min (s.dev.rd (Reg.MEM_CH_ECC_corrected c.val) + 1) (2 ^ (Reg.MEM_CH_ECC_corrected c.val).width - 1)) ∧
      { e with mem := s.dev.mem, memc := s.dev.memc, regs := s.dev.regs } = s.dev ∧
      RegsBut [Reg.MEM_CH_ECC_corrected c.val] s.dev e) ∧
  (∀ (s : State) (k : Fin 16) (n y w : Nat), s.dev.rdB Reg.NE_SHM_CFG_scrub_en = true → s.dev.boot.applicationUp = true →
    s.dev.memc.shmScrub[k.val]? = some y → y % 64 = 0 → y < sliceSize → s.dev.activeSlots 5 = [] →
    w = shmBase + s.dev.shmOffset k.val y → (∀ j < 8, s.dev.errsAt (w + 8 * j) = 0) → n ≤ 1 →
    Settles (.shmScrubStep k n) s fun e =>
      (∀ j < 8, e.errsAt (w + 8 * j) = 0) ∧ e.mem.cells = s.dev.mem.cells ∧ e.ev = s.dev.ev ∧ e.fo = s.dev.fo ∧
      e.memc = { s.dev.memc with shmScrub := s.dev.memc.shmScrub.set k.val ((y + 64) % sliceSize) } ∧
      e.rd (Reg.NE_SHM_ECC_corrected k.val) = (if n = 0 then s.dev.rd (Reg.NE_SHM_ECC_corrected k.val)
        else min (s.dev.rd (Reg.NE_SHM_ECC_corrected k.val) + 1) (2 ^ (Reg.NE_SHM_ECC_corrected k.val).width - 1)) ∧
      { e with mem := s.dev.mem, memc := s.dev.memc, regs := s.dev.regs } = s.dev ∧
      RegsBut [Reg.NE_SHM_ECC_corrected k.val] s.dev e) ∧
  (∀ (s : State) (c : Fin 16) (m : Nat), s.dev.rdB (Reg.MEM_CH_STATUS_online c.val) = true →
    Does (.dramRefreshPoll c m) s fun e =>
      e.rd (Reg.MEM_CH_STATUS_refresh_mult c.val) = min m 255 ∧ (e.memCh c.val).hot = decide (1 < m) ∧
      e.ev = (if 1 < m ∧ (s.dev.memCh c.val).hot = false then
        (s.dev.raise Ev.MEM_DRAM_HOT (min m 255 + c.val * 2 ^ 48)).ev else s.dev.ev) ∧
      { e with memc := s.dev.memc, regs := s.dev.regs, ev := s.dev.ev } = s.dev ∧
      RegsBut [Reg.MEM_CH_STATUS_refresh_mult c.val] s.dev e) ∧
  (∀ (s : State) (c : Fin 16) (b m : Nat), s.dev.rdB (Reg.MEM_CH_STATUS_online c.val) = true →
    Does (.dramIntervalMaintenance c b m) s fun e =>
      (e.memCh c.val).blockedNs = (s.dev.memCh c.val).blockedNs + min b 400 ∧
      e.rd (Reg.MEM_CH_STATUS_refresh_mult c.val) = min m 255 ∧
      { e with memc := s.dev.memc, regs := s.dev.regs, ev := s.dev.ev } = s.dev ∧
      RegsBut [Reg.MEM_CH_STATUS_refresh_mult c.val] s.dev e) ∧
  (∀ (s : State) (c : Fin 16), s.dev.rdB (Reg.MEM_CH_STATUS_online c.val) = true →
    Does (.dramChannelFault c) s fun e =>
      e.memCh c.val = { s.dev.memCh c.val with retraining := true } ∧ { e with memc := s.dev.memc } = s.dev) ∧
  (∀ (s : State) (c : Fin 16) (w : WaitingAccess) (bs : List Byte), (s.dev.memCh c.val).retraining = true → s.mode ≠ .warmStart →
    s.dev.memc.waiting = [w] → channelOf (w.address - dramBase) = c.val → w.store = some bs → w.errors = 0 → w.waiter = .answer →
    (s.dev.setMemCh c.val { s.dev.memCh c.val with retraining := false }).badCodewords w.address bs.length = [] →
    Settles (.dramRetrainDone c true) s fun e =>
      e.bytes w.address bs.length = bs ∧ BytesBut w.address bs.length s.dev e ∧ e.memc.waiting = [] ∧
      (e.memCh c.val).retraining = false ∧ { e with memc := s.dev.memc, mem := s.dev.mem, bus := s.dev.bus } = s.dev) ∧
  (∀ (s : State) (c : Fin 16), (s.dev.memCh c.val).retraining = true →
    (∀ w ∈ s.dev.memc.waiting, channelOf (w.address - dramBase) ≠ c.val) →
    (s.mode = .warmStart → s.dev.rdB (Reg.MEM_CH_STATUS_online c.val) = true → Settles (.dramRetrainDone c true) s (fun e =>
      e.memCh c.val = { s.dev.memCh c.val with retraining := false } ∧ e.rd (Reg.MEM_CH_STATUS_self_refresh c.val) = 1 ∧
      { e with memc := s.dev.memc, regs := s.dev.regs } = s.dev ∧ RegsBut [Reg.MEM_CH_STATUS_self_refresh c.val] s.dev e)) ∧
    (s.mode ≠ .warmStart → Settles (.dramRetrainDone c true) s (fun e =>
      e.memCh c.val = { s.dev.memCh c.val with retraining := false } ∧ { e with memc := s.dev.memc } = s.dev ∧
      { e.memc with chans := s.dev.memc.chans } = s.dev.memc)) ∧
    Settles (.dramRetrainDone c false) s (fun e =>
      (e.memCh c.val).retraining = false ∧ e.rdB (Reg.MEM_CH_STATUS_online c.val) = false ∧ e.rd (Reg.MEM_CH_STATUS_training c.val) = 3 ∧
      e.rd Reg.MEM_STATUS_offline = (s.dev.rd Reg.MEM_STATUS_offline ||| 2 ^ c.val) % 2 ^ 16 ∧
      e.ev = (s.dev.raise Ev.MEM_CHANNEL_OFFLINE (2 + c.val * 2 ^ 48)).ev ∧
      { e with memc := s.dev.memc, regs := s.dev.regs, ev := s.dev.ev } = s.dev))

-- Cameras.

/-- FRAME_START on a receiver that is up, for the one valid stream on its virtual channel, in bypass of no context: a frame opens
with the turn of its frame window, its ordinal in it, the number and the capture time; bytes 0 to 15 of its record are written
with state 1, and the stream's registers show it. A fifth frame of a window raises FRAME_WINDOW_OVERFLOW and takes the ordinals
from 0 on again (the model's reading, log entry 55). FRAME_END and FRAME_TIMEOUT end the open frame of a stream; a Frame End whose
number differs from the Frame Start's, neither being zero, is marked and noted as content 5, and a frame open for a turn period is
marked NO_FE with content 4. The missing lines of frames whose lines have all been taken are then filled (fillEnded). A younger
frame does not time out, nor does one that the replay loader delivers (DEDUCED, log entry 41). The commands whose completion it
states: FRAME_START, FRAME_END, FRAME_TIMEOUT. -/
def Obligations.FramesStartAndEndWithTheirMarks : Prop :=
  (∀ (s : State) (rx : Fin 8) (vc : Fin 32) (number : Half) (at_ k : Nat) (d : Device) (u : StreamSt) (turn n : Nat),
    s.dev.rxUp rx.val = true → d = s.dev.stamp at_ → u = d.committed k → k < 32 →
    (∀ j ∈ d.onChannel rx.val vc.val, j = k) →
    (∀ j < 32, (d.committed j).enabled = true → (d.committed j).receiver = rx.val → (d.committed j).vc = vc.val → j = k) →
    u.enabled = true → u.receiver = rx.val → u.vc = vc.val → u.reject = 0 → d.shut s.mode k = false →
    u.openNow = none → d.committing k = [] → d.contexts = [] →
    turn = (if d.rd (Reg.SP_GEAR_CFG_window_open k) % 4096 ≤ d.index then d.turn else turnDiff d.turn 1) →
    n = (u.frames.filter fun g => g.turn == turn).length →
    CleanStore d .engine (u.recBase + n % 4 * 64) 16 →
    SettlesThen (.frameStart rx vc number .ok at_) s (fun e => e.sequence s.mode) fun e =>
      (∃ f, (e.stream k).openNow = some f ∧ f.turn = turn ∧ f.ordinal = n % 4 ∧ f.number = number.toNat ∧
        f.capture = d.sp.time - u.tsOffset * 1000 ∧ f.startAt = d.sp.time ∧ f.marks = 0 ∧ f.complete = false ∧
        f.excess = decide (4 ≤ n) ∧ f.cfg = u.cfg ∧ f.expectedEpoch = u.expected f.capture ∧ f.id = u.frameCount) ∧
      e.bytes (u.recBase + n % 4 * 64) 16 = leBytes 4 turn ++ leBytes 1 (n % 4) ++ [1] ++ [0, 0] ++
        leBytes 8 (d.sp.time - u.tsOffset * 1000) ∧
      BytesBut (u.recBase + n % 4 * 64) 16 s.dev e ∧
      e.rd (Reg.CSI_STREAM_STATUS_frame_number k) = number.toNat ∧ e.rd (Reg.CSI_STREAM_STATUS_slot k) = n % 4 % u.slots ∧
      e.rd (Reg.CSI_STREAM_STATUS_lost k) = 0 ∧
      e.rdPair (Reg.CSI_STREAM_TS_LO_ts_lo k) (Reg.CSI_STREAM_TS_HI_ts_hi k) = (d.sp.time - u.tsOffset * 1000) % 2 ^ 64 ∧
      e.ev = (if 4 ≤ n then d.raise Ev.FRAME_WINDOW_OVERFLOW (k + turn * 2 ^ 32) else d).ev ∧
      { e with cam := d.cam, regs := d.regs, ev := d.ev, mem := d.mem } = d ∧ (∀ j, j ≠ k → e.stream j = d.stream j) ∧
      RegsBut [Reg.CSI_STREAM_STATUS_frame_number k, Reg.CSI_STREAM_STATUS_slot k, Reg.CSI_STREAM_STATUS_lost k,
        Reg.CSI_STREAM_TS_LO_ts_lo k, Reg.CSI_STREAM_TS_HI_ts_hi k] d e) ∧
  (∀ (s : State) (rx : Fin 8) (vc : Fin 32) (number : Half) (at_ k n : Nat) (d : Device) (f : Frame) (wrong : Bool),
    s.dev.rxUp rx.val = true → d = s.dev.stamp at_ → d.onChannel rx.val vc.val = [k] → d.shut s.mode k = false →
    (d.stream k).openNow = some f → d.frameOf k f.id = some f →
    n = f.linesReceived + f.linesDiscarded + ((d.stream k).lines.filter fun l => l.frame == f.id).length →
    wrong = (f.number != 0 && number != 0 && f.number != number.toNat) →
    SettlesThen (.frameEnd rx vc number .ok at_) s (fun e => e.fillEnded s.mode k)
      (EndsFrame d k f n (if wrong then 128 else 0) (if wrong then 5 else 0))) ∧
  (∀ (s : State) (k : Fin 32) (at_ n : Nat) (d : Device) (f : Frame), d = s.dev.stamp at_ →
    (d.stream k.val).openNow = some f → d.frameOf k.val f.id = some f → f.startAt + d.sp.period ≤ d.sp.time → f.logged = none →
    n = f.linesReceived + f.linesDiscarded + ((d.stream k.val).lines.filter fun l => l.frame == f.id).length →
    SettlesThen (.frameTimeout k at_) s (fun e => e.fillEnded s.mode k.val) (EndsFrame d k.val f n 64 4)) ∧
  (∀ (s : State) (k : Fin 32) (at_ : Nat) (d : Device), d = s.dev.stamp at_ →
    (∀ f, (d.stream k.val).openNow = some f → d.sp.time < f.startAt + d.sp.period ∨ f.logged ≠ none) →
    exec (.frameTimeout k at_) s = .next (settled s d))

/-- LONG_PACKET of the one stream on its channel, with a frame open. An image packet joins the lines that wait for the path; a
failed CRC and a wrong length are marked. An embedded packet is stored while it is one of those to store, and gives the epoch where
its line and bytes are the configured ones. A packet that does not fit the receiver's 128 KiB, for the packets that wait or for
others that stand in the buffer (fits; log entry 46), is dropped, counted and marked, with CAM_OVERFLOW once per turn; without an
open frame there is nothing to mark. IGNORED_SHORT_PACKET with a sound header changes nothing; a corrected header is counted. The
commands whose completion it states: LONG_PACKET, IGNORED_SHORT_PACKET. -/
def Obligations.PacketsJoinTheOpenFrame : Prop :=
  (∀ (s : State) (rx : Fin 8) (vc : Fin 32) (dt : BitVec 6) (crcOk : Bool) (data : List Byte) (at_ k : Nat) (d : Device) (f : Frame),
    s.dev.rxUp rx.val = true → d = s.dev.stamp at_ → d.onChannel rx.val vc.val = [k] → d.shut s.mode k = false →
    dt ≠ 0x12 → (d.inUse k).dataType = dt.toNat → (d.stream k).openNow = some f → d.frameOf k f.id = some f →
    d.rxBuffered rx.val + data.length ≤ 131072 →
    Settles (.longPacket rx vc dt .ok crcOk true data at_) s fun e =>
      (e.stream k).lines = (d.stream k).lines ++ [{ rx := rx.val, frame := f.id, data, crcOk }] ∧
      e.frameOf k f.id = some { f with
        marks := f.marks ||| (if crcOk then 0 else 4) |||
          (if data.length * 8 = ((d.stream k).during f).width * ((d.stream k).during f).bits then 0 else 32)
        crcErrors := f.crcErrors + (if crcOk then 0 else 1) } ∧
      (crcOk = true → e.regs = d.regs) ∧ (crcOk = false → Counts (Reg.CSI_RX_VC_ERR_crc_errors rx.val vc.val) 1 d e) ∧
      { e with cam := d.cam, regs := d.regs } = d ∧ (∀ j, j ≠ k → e.stream j = d.stream j) ∧
      RegsBut [Reg.CSI_RX_VC_ERR_crc_errors rx.val vc.val] d e) ∧
  (∀ (s : State) (rx : Fin 8) (vc : Fin 32) (data : List Byte) (at_ k : Nat) (d : Device) (f : Frame) (st : StreamSt) (a : Nat)
      (bytes : List Byte), s.dev.rxUp rx.val = true → d = s.dev.stamp at_ → d.onChannel rx.val vc.val = [k] → d.shut s.mode k = false →
    (d.inUse k).embEn = true → (d.stream k).openNow = some f → d.frameOf k f.id = some f → st = (d.stream k).during f →
    a = st.recBase + 256 + (f.ordinal * 4 + f.embLines) * 256 → bytes = unpackEmb st.unpack data →
    CleanStore d .engine a (bytes.take 256).length → d.rxBuffered rx.val + data.length ≤ 131072 →
    Settles (.longPacket rx vc 0x12 .ok true true data at_) s fun e =>
      e.frameOf k f.id = some { f with
        embLines := f.embLines + 1
        epoch := if st.epochEn = true ∧ f.embLines = st.epochLine ∧ st.epochByte + (st.epochWidth + 1) ≤ bytes.length
          then some (beNat ((bytes.drop st.epochByte).take (st.epochWidth + 1))) else f.epoch } ∧
      (f.embLines < st.embStore ∧ f.embLines < 4 → e.bytes a (bytes.take 256).length = bytes.take 256 ∧
        BytesBut a (bytes.take 256).length d e) ∧
      (¬ (f.embLines < st.embStore ∧ f.embLines < 4) → e.mem = d.mem) ∧
      { e with cam := d.cam, mem := d.mem } = d ∧ ∀ j, j ≠ k → e.stream j = d.stream j) ∧
  (∀ (s : State) (rx : Fin 8) (vc : Fin 32) (dt : BitVec 6) (crcOk fits : Bool) (data : List Byte) (at_ k : Nat) (d : Device) (f : Frame),
    s.dev.rxUp rx.val = true → d = s.dev.stamp at_ → d.onChannel rx.val vc.val = [k] → d.shut s.mode k = false →
    dt ≠ 0x12 → (d.inUse k).dataType = dt.toNat → (d.stream k).openNow = some f → d.frameOf k f.id = some f →
    (fits = false ∨ 131072 < d.rxBuffered rx.val + data.length) →
    Settles (.longPacket rx vc dt .ok crcOk fits data at_) s fun e =>
      (e.stream k).lines = (d.stream k).lines ∧ e.frameOf k f.id = some { f with marks := f.marks ||| 256 } ∧
      Counts (Reg.CSI_RX_PKT_ERR_overflow_lines rx.val) 1 d e ∧
      e.ev = (if (d.stream k).overflowRaised then d else d.raiseCam Ev.CAM_OVERFLOW k 0).ev ∧ (e.stream k).overflowRaised = true ∧
      { e with cam := d.cam, regs := d.regs, ev := d.ev } = d ∧ (∀ j, j ≠ k → e.stream j = d.stream j) ∧
      RegsBut [Reg.CSI_RX_PKT_ERR_overflow_lines rx.val] d e) ∧
  (∀ (s : State) (rx : Fin 8) (vc : Fin 32) (dt : BitVec 6) (crcOk fits : Bool) (data : List Byte) (at_ k : Nat) (d : Device),
    s.dev.rxUp rx.val = true → d = s.dev.stamp at_ → d.onChannel rx.val vc.val = [k] → d.shut s.mode k = false →
    dt ≠ 0x12 → (d.inUse k).dataType = dt.toNat → (d.stream k).openNow = none →
    (fits = false ∨ 131072 < d.rxBuffered rx.val + data.length) →
    Settles (.longPacket rx vc dt .ok crcOk fits data at_) s fun e =>
      Counts (Reg.CSI_RX_PKT_ERR_overflow_lines rx.val) 1 d e ∧ e.stream k = { d.stream k with overflowRaised := true } ∧
      e.ev = (if (d.stream k).overflowRaised then d else d.raiseCam Ev.CAM_OVERFLOW k 0).ev ∧
      { e with cam := d.cam, regs := d.regs, ev := d.ev } = d ∧ (∀ j, j ≠ k → e.stream j = d.stream j) ∧
      RegsBut [Reg.CSI_RX_PKT_ERR_overflow_lines rx.val] d e) ∧
  (∀ (s : State) (rx : Fin 8) (vc : Fin 32) (dt : BitVec 6), s.dev.rxUp rx.val = true →
    exec (.ignoredShortPacket rx vc dt .ok) s = .next (settled s s.dev)) ∧
  (∀ (s : State) (rx : Fin 8) (vc : Fin 32) (dt : BitVec 6), s.dev.rxUp rx.val = false →
    exec (.ignoredShortPacket rx vc dt .ok) s = .next s) ∧
  (∀ (s : State) (rx : Fin 8) (vc : Fin 32) (dt : BitVec 6), s.dev.rxUp rx.val = true → s.dev.onChannel rx.val vc.val = [] →
    Settles (.ignoredShortPacket rx vc dt .corrected) s fun e =>
      Counts (Reg.CSI_RX_VC_ERR_hdr_corrected rx.val vc.val) 1 s.dev e ∧ { e with regs := s.dev.regs } = s.dev ∧
      RegsBut [Reg.CSI_RX_VC_ERR_hdr_corrected rx.val vc.val] s.dev e)

/-- Lanes of an enabled receiver: synchronised lanes show, and the receiver is up once every configured lane is; lost
synchronisation shows state 3 with no lane; the deskew and lane errors show and count, CAM_PHY_ERROR once per turn. A stream silent
for its configured turns is lost, once, with CAM_STREAM_LOST. The commands whose completion it states: CSI_LANE_SYNC,
LANE_SOT_ERROR, CAM_STREAM_LOST. -/
def Obligations.LanesAndSilenceShowInTheirRegisters : Prop :=
  (∀ (s : State) (rx : Fin 8) (lanes : BitVec 4), s.mode.neRuns = true → s.dev.rdB (Reg.CSI_RX_CFG_enable rx.val) = true →
    Settles (.csiLaneSync rx (.synced lanes)) s fun e =>
      e.rd (Reg.CSI_RX_STATUS_lane_sync rx.val) = lanes.toNat ∧
      e.rd (Reg.CSI_RX_STATUS_state rx.val) = (if lanes.toNat &&& s.dev.laneMask rx.val = s.dev.laneMask rx.val then 2
        else s.dev.rd (Reg.CSI_RX_STATUS_state rx.val)) ∧ { e with regs := s.dev.regs } = s.dev ∧
      RegsBut [Reg.CSI_RX_STATUS_lane_sync rx.val, Reg.CSI_RX_STATUS_state rx.val] s.dev e) ∧
  (∀ (s : State) (rx : Fin 8) (ev : LaneEvent), s.mode.neRuns = false ∨ s.dev.rdB (Reg.CSI_RX_CFG_enable rx.val) = false →
    exec (.csiLaneSync rx ev) s = .next s) ∧
  (∀ (s : State) (rx : Fin 8), s.mode.neRuns = true → s.dev.rdB (Reg.CSI_RX_CFG_enable rx.val) = true →
    Settles (.csiLaneSync rx .lost) s (fun e =>
      e.rd (Reg.CSI_RX_STATUS_state rx.val) = 3 ∧ e.rd (Reg.CSI_RX_STATUS_lane_sync rx.val) = 0 ∧
      e.rd (Reg.CSI_RX_STATUS_deskew_done rx.val) = 0 ∧ { e with regs := s.dev.regs } = s.dev ∧
      RegsBut [Reg.CSI_RX_STATUS_state rx.val, Reg.CSI_RX_STATUS_lane_sync rx.val, Reg.CSI_RX_STATUS_deskew_done rx.val] s.dev e) ∧
    Settles (.csiLaneSync rx .deskewDone) s (fun e =>
      e.rd (Reg.CSI_RX_STATUS_deskew_done rx.val) = 1 ∧ { e with regs := s.dev.regs } = s.dev ∧
      RegsBut [Reg.CSI_RX_STATUS_deskew_done rx.val] s.dev e) ∧
    Settles (.csiLaneSync rx .controlError) s (fun e =>
      Counts (Reg.CSI_RX_PHY_ERR_ctrl_errors rx.val) 1 s.dev e ∧ (e.rx rx.val).phyRaised = true ∧
      e.ev = (if (s.dev.rx rx.val).phyRaised then s.dev else s.dev.raiseRx Ev.CAM_PHY_ERROR rx.val).ev ∧
      { e with regs := s.dev.regs, ev := s.dev.ev, cam := s.dev.cam } = s.dev ∧
      RegsBut [Reg.CSI_RX_PHY_ERR_ctrl_errors rx.val] s.dev e)) ∧
  (∀ (s : State) (rx : Fin 8), s.dev.rxUp rx.val = true →
    Settles (.laneSotError rx) s fun e =>
      Counts (Reg.CSI_RX_PHY_ERR_sot_errors rx.val) 1 s.dev e ∧ (e.rx rx.val).phyRaised = true ∧
      e.ev = (if (s.dev.rx rx.val).phyRaised then s.dev else s.dev.raiseRx Ev.CAM_PHY_ERROR rx.val).ev ∧
      { e with regs := s.dev.regs, ev := s.dev.ev, cam := s.dev.cam } = s.dev ∧ { e.cam with rx := s.dev.cam.rx } = s.dev.cam ∧
      RegsBut [Reg.CSI_RX_PHY_ERR_sot_errors rx.val] s.dev e) ∧
  (∀ (s : State) (k : Fin 32) (u : StreamSt), s.mode.neRuns = true → u = s.dev.committed k.val →
    u.enabled = true → u.lostTurns ≠ 0 → u.lost = false →
    (∀ f, u.frames.head? = some f → f.startAt + u.lostTurns * s.dev.sp.period ≤ s.dev.sp.time) →
    u.since + u.lostTurns * s.dev.sp.period ≤ s.dev.sp.time → s.dev.shut s.mode k.val = false →
    Settles (.camStreamLost k) s fun e =>
      e.stream k.val = { s.dev.stream k.val with lost := true } ∧ e.rd (Reg.CSI_STREAM_STATUS_lost k.val) = 1 ∧
      e.ev = (s.dev.raise Ev.CAM_STREAM_LOST (camPayload k.val u.receiver u.vc 0)).ev ∧
      { e with cam := s.dev.cam, regs := s.dev.regs, ev := s.dev.ev } = s.dev ∧ (∀ j, j ≠ k.val → e.stream j = s.dev.stream j) ∧
      RegsBut [Reg.CSI_STREAM_STATUS_lost k.val] s.dev e) ∧
  (∀ (s : State) (k : Fin 32), (s.dev.committed k.val).lostTurns = 0 ∨ (s.dev.stream k.val).lost = true →
    exec (.camStreamLost k) s = .next s)

/-- LINE_ACCEPTED of a bypass stream stores the next image line, converted, at its row of the frame's slot and counts it; a line
past the height is discarded and counted. FRAME_COMPLETION of an ended frame whose lines have all been taken finishes it: bytes 16
to 63 of its record, then its state 2 and marks, are written, and the stream's registers show it. The commands whose completion it
states: LINE_ACCEPTED, FRAME_COMPLETION. -/
def Obligations.AcceptedLinesFillTheSlot : Prop :=
  (∀ (s : State) (k : Fin 32) (late : Bool) (at_ a : Nat) (d : Device) (l : LinePkt) (rest : List LinePkt) (f : Frame) (st : StreamSt)
      (row : List Byte), d = s.dev.stamp at_ → (d.stream k.val).lines = l :: rest →
    l.frame = f.id → d.frameOf k.val f.id = some f → st = (d.stream k.val).during f → f.linesReceived < st.height → st.route = 0 →
    (st.crcAction = false ∨ l.crcOk = true) → d.vid.queue = [] → a = st.bypassRow f.ordinal f.linesReceived →
    row = packLine st.bits (unpackLine st.bits st.width st.black l.data) → CleanStore d .engine a row.length →
    SettlesThen (.lineAccepted k late at_) s (fun e => (e.fillEnded s.mode k.val).sequence s.mode) fun e =>
      e.bytes a row.length = row ∧ BytesBut a row.length d e ∧ (e.stream k.val).lines = rest ∧
      e.frameOf k.val f.id = some { f with
        linesReceived := f.linesReceived + 1, firstLineAt := if f.linesReceived = 0 then d.sp.time else f.firstLineAt
        lastLineAt := d.sp.time, linesAccepted := min (f.linesReceived + 1 + f.linesDiscarded) 0xFFFF } ∧
      { e with cam := d.cam, mem := d.mem } = d ∧ ∀ j, j ≠ k.val → e.stream j = d.stream j) ∧
  (∀ (s : State) (k : Fin 32) (late : Bool) (at_ : Nat) (d : Device) (l : LinePkt) (rest : List LinePkt) (f : Frame),
    d = s.dev.stamp at_ → (d.stream k.val).lines = l :: rest →
    l.frame = f.id → d.frameOf k.val f.id = some f → ((d.stream k.val).during f).height ≤ f.linesReceived →
    ((d.stream k.val).during f).route = 0 →
    SettlesThen (.lineAccepted k late at_) s (fun e => (e.fillEnded s.mode k.val).sequence s.mode) fun e =>
      Counts (Reg.CSI_STREAM_ERRS_lines_discarded k.val) 1 d e ∧ (e.stream k.val).lines = rest ∧
      e.frameOf k.val f.id = some { f with
        linesDiscarded := f.linesDiscarded + 1, linesAccepted := min (f.linesReceived + (f.linesDiscarded + 1)) 0xFFFF } ∧
      { e with cam := d.cam, regs := d.regs } = d ∧ (∀ j, j ≠ k.val → e.stream j = d.stream j) ∧
      RegsBut [Reg.CSI_STREAM_ERRS_lines_discarded k.val] d e) ∧
  (∀ (s : State) (k : Fin 32) (at_ base : Nat) (d : Device) (f g : Frame), d = s.dev.stamp at_ →
    (d.stream k.val).pathFrame = some f → d.frameOf k.val f.id = some f → d.mayComplete k.val f = true → d.runsOf k.val f.id = [] →
    f.crcErrors = 0 → f.framing = 0 → g = f.finished.count ((d.stream k.val).during f) → g.marks &&& 32 = 0 →
    base = ((d.stream k.val).during f).recBase + f.ordinal * 64 → CleanStore d .engine (base + 16) 48 →
    CleanStore d .engine (base + 4) 4 → (∀ e < 16, d.encOn e = false) → d.vid.queue = [] →
    SettlesThen (.frameCompletion k at_) s (fun e => e.sequence s.mode) fun e =>
      e.frameOf k.val f.id = some g ∧ g.complete = true ∧
      e.bytes (base + 4) 4 = leBytes 1 f.ordinal ++ [2] ++ leBytes 2 g.marks ∧ e.bytes (base + 16) 48 = g.recordTail ∧
      e.bytes base 4 = d.bytes base 4 ∧ e.bytes (base + 8) 8 = d.bytes (base + 8) 8 ∧ BytesBut base 64 d e ∧
      e.rd (Reg.CSI_STREAM_STATUS_last_marks k.val) = g.marks % 2 ^ 13 ∧ Counts (Reg.CSI_STREAM_FRAMES_frames k.val) 1 d e ∧
      e.rd (Reg.CSI_STREAM_EPOCH_frame_epoch k.val) = g.epoch.getD 0 % 2 ^ 16 ∧
      { e with cam := d.cam, regs := d.regs, mem := d.mem } = d ∧ (∀ j, j ≠ k.val → e.stream j = d.stream j) ∧
      RegsBut [Reg.CSI_STREAM_STATUS_last_marks k.val, Reg.CSI_STREAM_FRAMES_frames k.val, Reg.CSI_STREAM_EPOCH_frame_epoch k.val] d e) ∧
  (∀ f : Frame, f.logged = none → f.finished = { f with
    complete := true, epoch := some (f.epoch.getD f.expectedEpoch)
    marks := f.marks ||| (if f.epoch.isNone then 4096 else 0) ||| (if f.epoch.getD f.expectedEpoch ≠ f.expectedEpoch then 2048 else 0) })

/-- The sensor-control masters: the end of a running entry writes status, the bytes that it read (of six, those beyond its length
are zero: the model's choice, log entry 40) and time into its result, frees the master and counts a failure with CAM_CTRL_FAILED;
a written epoch is taken on success. An in-band interrupt on an I3C bus shows in the IBI register and raises CAM_IBI. The master
then goes on with its next entry (scmStart). The commands whose completion it states: SCM_ENTRY_COMPLETE, SCM_TIMEOUT, CAM_IBI. -/
def Obligations.SensorControlRecordsResults : Prop :=
  (∀ (s : State) (m : Fin 8) (status : Fin 3) (data : List Byte) (at_ k base n : Nat) (en : List Byte) (d : Device),
    d = s.dev.stamp at_ → (d.scm m.val).running = some (k, en, base) → n = min (fieldOf en 6 1) 6 →
    CleanStore d .engine (base + 512 + 16 * k) 16 →
    SettlesThen (.scmEntryComplete m status data at_) s (fun e => e.scmStart m.val) fun e =>
      e.bytes (base + 512 + 16 * k) 16 = leBytes 1 status.val ++ [0] ++
        (if bitAt (fieldOf en 2 1) 2 then sliceOf data 0 n ++ List.replicate (6 - n) 0 else leBytes 6 0) ++ leBytes 8 d.sp.time ∧
      BytesBut (base + 512 + 16 * k) 16 d e ∧ e.scm m.val = { d.scm m.val with running := none } ∧
      (∀ j, j ≠ m.val → e.scm j = d.scm j) ∧ e.rd (Reg.CSI_SCM_STATUS_busy m.val) = 0 ∧
      (status.val = 1 → Counts (Reg.CSI_SCM_ERR_nack m.val) 1 d e) ∧ (status.val = 2 → Counts (Reg.CSI_SCM_ERR_bus_errors m.val) 1 d e) ∧
      e.ev = (if status.val = 0 then d else d.raise Ev.CAM_CTRL_FAILED (camPayload 0xFF m.val 0xFF (k + status.val * 2 ^ 8))).ev ∧
      (status.val = 0 ∧ bitAt (fieldOf en 2 1) 4 = true →
        (e.stream (fieldOf en 7 1 % 32)).epochs = (fieldOf en 8 2, d.sp.time) :: (d.stream (fieldOf en 7 1 % 32)).epochs ∧
        e.rd (Reg.CSI_STREAM_EPOCH_written_epoch (fieldOf en 7 1 % 32)) = fieldOf en 8 2) ∧
      (¬ (status.val = 0 ∧ bitAt (fieldOf en 2 1) 4 = true) → e.cam.streams = d.cam.streams) ∧
      { e with cam := d.cam, regs := d.regs, mem := d.mem, ev := d.ev } = d) ∧
  (∀ (s : State) (m : Fin 8) (at_ k base : Nat) (en : List Byte) (d : Device),
    d = s.dev.stamp at_ → (d.scm m.val).running = some (k, en, base) → CleanStore d .engine (base + 512 + 16 * k) 16 →
    SettlesThen (.scmTimeout m at_) s (fun e => e.scmStart m.val) fun e =>
      e.bytes (base + 512 + 16 * k) 16 = leBytes 1 4 ++ leBytes 7 0 ++ leBytes 8 d.sp.time ∧
      BytesBut (base + 512 + 16 * k) 16 d e ∧ e.scm m.val = { d.scm m.val with running := none } ∧
      e.rd (Reg.CSI_SCM_STATUS_busy m.val) = 0 ∧ Counts (Reg.CSI_SCM_ERR_timeouts m.val) 1 d e ∧
      e.ev = (d.raise Ev.CAM_CTRL_FAILED (camPayload 0xFF m.val 0xFF (k + 4 * 2 ^ 8))).ev ∧
      { e with cam := d.cam, regs := d.regs, mem := d.mem, ev := d.ev } = d ∧
      RegsBut [Reg.CSI_SCM_STATUS_busy m.val, Reg.CSI_SCM_ERR_timeouts m.val] d e) ∧
  (∀ (s : State) (m : Fin 8) (a : BitVec 7) (mdb : Byte), s.mode.neRuns = true → s.dev.rdB (Reg.CSI_SCM_CFG_enable m.val) = true →
    s.dev.rdB (Reg.CSI_SCM_CFG_i3c_bus m.val) = true →
    Settles (.camIbi m a mdb) s fun e =>
      e.rd (Reg.CSI_SCM_IBI_valid m.val) = 1 ∧ Counts (Reg.CSI_SCM_IBI_count m.val) 1 s.dev e ∧
      e.rd (Reg.CSI_SCM_IBI_address m.val) = a.toNat ∧ e.rd (Reg.CSI_SCM_IBI_mdb m.val) = mdb.toNat ∧
      e.ev = (s.dev.raise Ev.CAM_IBI (camPayload 0xFF m.val 0xFF (a.toNat + mdb.toNat * 2 ^ 8))).ev ∧
      { e with regs := s.dev.regs, ev := s.dev.ev } = s.dev ∧
      RegsBut [Reg.CSI_SCM_IBI_valid m.val, Reg.CSI_SCM_IBI_count m.val, Reg.CSI_SCM_IBI_address m.val, Reg.CSI_SCM_IBI_mdb m.val] s.dev e)

/-- The warp engine of a pipe, when it is free, takes the band that became eligible first; at the band's end its rows are written
(writeBand is the model's text of 10 R346 to R350) and the output goes on to its next band. The commands whose completion it states:
WARP_BAND_START, WARP_BAND_COMPLETE. -/
def Obligations.WarpEngineTakesBandsInOrder : Prop :=
  (∀ (s : State) (p : Fin 4) (x : Fin 8) (w : Fin 4) (j : WarpJob) (r : PipeRun), s.dev.warpBusy p.val = false →
    (s.dev.cam.warpq.find? fun j => j.pipe == p.val) = some j → j.context = x.val → j.output = w.val →
    (s.dev.ctx p.val x.val).run j.stream j.frame = some r →
    Settles (.warpBandStart p x w) s fun e =>
      e.ctx p.val x.val = (s.dev.ctx p.val x.val).setRun (r.setWarp w.val { r.warp w.val with running := true }) ∧
      e.cam = { s.dev.cam with warpq := s.dev.cam.warpq.erase j } ∧ { e with cam := s.dev.cam, isp := s.dev.isp } = s.dev ∧
      ∀ p' x', 8 * p' + x' ≠ 8 * p.val + x.val → e.ctx p' x' = s.dev.ctx p' x') ∧
  (∀ (s : State) (p : Fin 4) (x : Fin 8) (w : Fin 4), s.dev.warpBusy p.val = true →
    exec (.warpBandStart p x w) s = .next s) ∧
  (∀ (s : State) (p : Fin 4) (x : Fin 8) (w : Fin 4) (r q : PipeRun) (f : Frame) (st : StreamSt) (d : Device),
    (s.dev.ctx p.val x.val).writing w.val = some r →
    ((s.dev.stream r.stream).frames.find? fun f => f.id == r.frame) = some f → st = (s.dev.stream r.stream).during f →
    d = s.dev.writeBand s.mode p.val x.val w.val r f st.width st.height → (d.ctx p.val x.val).run r.stream f.id = some q →
    SettlesThen (.warpBandComplete p x w) s (fun e => e.noteBands s.mode p.val x.val r.stream f st.height) fun e =>
      e.ctx p.val x.val = (d.ctx p.val x.val).setRun (q.setWarp w.val { running := false, band := (q.warp w.val).band + 1 }) ∧
      { e with isp := d.isp } = d ∧ ∀ p' x', 8 * p' + x' ≠ 8 * p.val + x.val → e.ctx p' x' = d.ctx p' x') ∧
  (∀ (s : State) (p : Fin 4) (x : Fin 8) (w : Fin 4), (s.dev.ctx p.val x.val).writing w.val = none →
    exec (.warpBandComplete p x w) s = .next s)

/-- ENCODE_COMPLETE of the frame at the head of the queue, whose encode has started, with a bitstream that conforms to 11 R355 (as
the model reads it, PRESUMED and DEDUCED, log entry 79; another changes nothing): the access unit, its SEI message first, enters
the encoder stream's ring with its head, padded to 64 bytes, and VID_ENC_WR passes it; one that does not fit is not written, and
the next frame, queued or to come, is coded as IDR (a ring never fills to equal offsets: the model's choice, log entry 39). The
next encode then starts (startEncode). LOG_DATA sends the round robin's next entry as one message of class 2 and VID_ENC_RD passes
it; an entry whose turn has not come, or for which the output queue has no room, stays. It goes to the log destination of the
port's entry. The commands whose completion it states: ENCODE_COMPLETE, LOG_DATA. -/
def Obligations.AccessUnitsPassThroughTheRing : Prop :=
  (∀ (s : State) (en : Fin 16) (bits unit : List Byte) (c : Coding) (j : EncJob) (rest : List EncJob) (size wr n a : Nat),
    s.dev.vid.coding = some c → s.dev.vid.queue = j :: rest → j.encoder = en.val → c.conforms bits = true → unit = seiMessage c.record ++ bits →
    size = s.dev.rd (Reg.VID_ENC_RING_SIZE_bytes en.val) → wr = s.dev.rd (Reg.VID_ENC_WR_offset en.val) → n = 64 + padded unit.length →
    ringUsed size wr (s.dev.rd (Reg.VID_ENC_RD_offset en.val)) + n < size → wr % size + n ≤ size → a = s.dev.encRing en.val + wr % size →
    CleanStore s.dev .engine a n →
    SettlesThen (.encodeComplete en bits) s (fun e => e.startEncode s.mode) fun e =>
      e.bytes a 64 = entryHead unit.length c.idr j.frame ∧ e.bytes (a + 64) unit.length = unit ∧
      e.bytes (a + 64 + unit.length) (n - 64 - unit.length) = List.replicate (n - 64 - unit.length) 0 ∧ BytesBut a n s.dev e ∧
      e.rd (Reg.VID_ENC_WR_offset en.val) = (wr + n) % size % 2 ^ 32 ∧ e.vid.queue = rest ∧ e.vid.coding = none ∧
      e.vid.encPixels = s.dev.vid.encPixels + c.picture.width * c.picture.height ∧
      e.enc en.val = { s.dev.enc en.val with sinceIdr := if c.idr then 0 else (s.dev.enc en.val).sinceIdr + 1 } ∧
      { e with vid := s.dev.vid, mem := s.dev.mem, regs := s.dev.regs } = s.dev ∧ RegsBut [Reg.VID_ENC_WR_offset en.val] s.dev e) ∧
  (∀ (s : State) (en : Fin 16) (bits : List Byte) (c : Coding) (j : EncJob) (rest : List EncJob) (size : Nat),
    s.dev.vid.coding = some c → s.dev.vid.queue = j :: rest → j.encoder = en.val → c.conforms bits = true →
    size = s.dev.rd (Reg.VID_ENC_RING_SIZE_bytes en.val) → size ≤ ringUsed size (s.dev.rd (Reg.VID_ENC_WR_offset en.val)) (s.dev.rd (Reg.VID_ENC_RD_offset en.val)) +
      (64 + padded (seiMessage c.record ++ bits).length) →
    SettlesThen (.encodeComplete en bits) s (fun e => e.startEncode s.mode) fun e =>
      Counts (Reg.VID_ENC_STATUS_ring_full en.val) 1 s.dev e ∧ e.vid.coding = none ∧
      ((∀ q ∈ rest, q.encoder ≠ en.val) → e.vid.queue = rest ∧ e.enc en.val = { s.dev.enc en.val with nextIdr := true }) ∧
      (∀ pre q post, rest = pre ++ q :: post → (∀ o ∈ pre, o.encoder ≠ en.val) → q.encoder = en.val →
        e.vid.queue = pre ++ { q with idr := true } :: post ∧ e.enc en.val = s.dev.enc en.val) ∧
      e.ev = (s.dev.raise Ev.VID_ENC_RING_FULL en.val).ev ∧ { e with vid := s.dev.vid, regs := s.dev.regs, ev := s.dev.ev } = s.dev ∧
      RegsBut [Reg.VID_ENC_STATUS_ring_full en.val] s.dev e) ∧
  (∀ (s : State) (en : Fin 16) (bits : List Byte), s.dev.vid.queue = [] → exec (.encodeComplete en bits) s = .next s) ∧
  (∀ (s : State) (en : Fin 16) (bits : List Byte) (c : Coding), s.dev.vid.coding = some c → c.conforms bits = false →
    exec (.encodeComplete en bits) s = .next s) ∧
  (∀ (s : State) (en : Fin 16) (p size rd n a : Nat), s.dev.portFor 3 = some p → s.dev.boot.firmwareUp = true →
    s.dev.proto.restarting.getD 5 false = false → s.dev.logTurn = some en.val → size = s.dev.rd (Reg.VID_ENC_RING_SIZE_bytes en.val) →
    rd = s.dev.rd (Reg.VID_ENC_RD_offset en.val) → a = s.dev.encRing en.val + rd % size → n = 64 + padded (s.dev.num a 4) →
    rd % size + n ≤ size → CleanLoad s.dev .headstock a n → s.dev.txUsed p + 96 + n ≤ txqCap →
    Does (.logData en) s fun e =>
      e.proto.tx = { msgType := 0x38, status := 0, session := 0, sequence := 0, push := true
                     payload := leBytes 4 en.val ++ leBytes 4 (s.dev.enc en.val).sentEntries ++ leBytes 56 0 ++ s.dev.bytes a n
                     sentTo := some (s.dev.destinationOf p 3) } ::
        s.dev.proto.tx ∧
      e.proto.txq = lset s.dev.proto.txq p (s.dev.proto.txq.getD p [] ++ [{ cls := 2, left := 64 + n }]) ∧
      { e.proto with tx := s.dev.proto.tx, txq := s.dev.proto.txq } = s.dev.proto ∧
      e.rd (Reg.VID_ENC_RD_offset en.val) = (rd + n) % size % 2 ^ 32 ∧ e.vid.logLast = en.val ∧
      (e.enc en.val).sentEntries = ((s.dev.enc en.val).sentEntries + 1) % 2 ^ 32 ∧
      { e with vid := s.dev.vid, proto := s.dev.proto, regs := s.dev.regs } = s.dev ∧
      RegsBut [Reg.VID_ENC_RD_offset en.val, Reg.ETH_PORT_TXQ_peak_kib p] s.dev e) ∧
  (∀ (s : State) (en : Fin 16) (p : Nat), s.dev.portFor 3 = some p → (s.dev.logTurn ≠ some en.val ∨ txqCap < s.dev.txUsed p + 96 + 64) →
    exec (.logData en) s = .next s)

/-- The replay loader: the pictures of a bitstream that its decoder stream takes (takes) are counted, and the frame's picture
completes its sample, which then joins the batch being filled, late where the delivery of one of its frames is due; a bitstream
that the decoder stream does not take, an incomplete picture and a read error are counted and reported as theirs, and the sample
is skipped and logged (a full log shows 0xFFFF entries: DEDUCED, log entry 41). A due frame opens in the slot and turn of its
sample with the logged epoch and marks; a line of a bypass frame is stored at its row, from its time on. A sample under decoding
when a frame of it is due is an underrun, once. The loader then goes on (pumpLoader, sequence). The commands whose completion it
states: DECODE_COMPLETE, REPLAY_FRAME_START, REPLAY_LINE_DELIVERY. -/
def Obligations.ReplayLoaderDeliversSamples : Prop :=
  (∀ (s : State) (k : Fin 48) (b : Bitstream) (n j w h : Nat) (l cb cr : List Half) (p : Picture) (x y z : RplSample) (f : RplFrame)
      (d : Device),
    s.dev.vid.replay.decoding = some x → (x.frames.find? fun g => g.decoder == k.val && g.picture.isNone) = some f →
    s.dev.takes k.val b = true → p = pictureOf b w h (l.map some) (cb.map some) (cr.map some) →
    y = { x with frames := givePicture k.val p x.frames } → z = { y with underrun := y.underrun || s.dev.sampleLate y } →
    d = forN j (fun _ d => d.raise Ev.VID_DEC_INCOMPLETE k.val) s.dev →
    SettlesThen (.decodeComplete k (.decoded b n j w h l cb cr)) s (fun e => e.pumpLoader s.mode) fun e =>
      Counts (Reg.VID_DEC_STATUS_frames k.val) n s.dev e ∧ Counts (Reg.VID_DEC_ERR_incomplete k.val) j s.dev e ∧
      e.vid.decPixels = s.dev.vid.decPixels + n * (b.width * b.height) ∧
      e.vid.decoded.head? = some (k.val, p, false) ∧
      ((∀ g ∈ y.frames, g.picture.isSome = true) →
        e.vid.replay.decoding = none ∧ e.vid.replay.filling.samples = s.dev.vid.replay.filling.samples ++ [z]) ∧
      ((∃ g ∈ y.frames, g.picture = none) → e.vid.replay = { s.dev.vid.replay with decoding := some z }) ∧
      e.ev = (if s.dev.sampleLate y = true ∧ x.underrun = false then d.raise Ev.VID_RPL_UNDERRUN 0xFF else d).ev ∧
      { e with vid := s.dev.vid, regs := s.dev.regs, ev := s.dev.ev } = s.dev ∧
      RegsBut [Reg.VID_DEC_STATUS_frames k.val, Reg.VID_DEC_ERR_incomplete k.val] s.dev e) ∧
  (∀ (s : State) (k : Fin 48) (b : Bitstream) (r : DecodeResult) (n j w h : Nat) (l cb cr : List Half)
      (l' cb' cr' : List (Option Half)) (x : RplSample) (f : RplFrame),
    s.dev.vid.replay.decoding = some x → (x.frames.find? fun g => g.decoder == k.val && g.picture.isNone) = some f →
    (r = .decoded b n j w h l cb cr ∨ r = .incomplete b n j w h l' cb' cr') → s.dev.takes k.val b = false → SkipLogOpen s.dev →
    SettlesThen (.decodeComplete k r) s (fun e => e.pumpLoader s.mode) fun e =>
      Counts (Reg.VID_DEC_ERR_rejected k.val) 1 s.dev e ∧ SkipsSample s.dev x.index 3 f.stream e ∧
      e.ev = ((s.dev.raise Ev.VID_DEC_REJECTED k.val).raise Ev.VID_RPL_SAMPLE_SKIPPED (0xFF + x.index * 2 ^ 32)).ev ∧
      { e.vid with replay := s.dev.vid.replay } = s.dev.vid ∧
      { e with vid := s.dev.vid, regs := s.dev.regs, ev := s.dev.ev, mem := s.dev.mem } = s.dev ∧
      RegsBut [Reg.VID_DEC_ERR_rejected k.val, Reg.VID_RPL_COUNT_skipped, Reg.VID_RPL_SKIPLOG_CFG_written] s.dev e) ∧
  (∀ (s : State) (k : Fin 48) (b : Bitstream) (n w h : Nat) (l cb cr : List (Option Half)) (x : RplSample) (f : RplFrame),
    s.dev.vid.replay.decoding = some x → (x.frames.find? fun g => g.decoder == k.val && g.picture.isNone) = some f →
    s.dev.takes k.val b = true → SkipLogOpen s.dev →
    SettlesThen (.decodeComplete k (.incomplete b n 0 w h l cb cr)) s (fun e => e.pumpLoader s.mode) fun e =>
      Counts (Reg.VID_DEC_STATUS_frames k.val) n s.dev e ∧ Counts (Reg.VID_DEC_ERR_incomplete k.val) 1 s.dev e ∧
      e.vid.decPixels = s.dev.vid.decPixels + n * (b.width * b.height) ∧
      e.vid.decoded.head? = some (k.val, pictureOf b w h l cb cr, true) ∧ SkipsSample s.dev x.index 4 f.stream e ∧
      e.ev = ((s.dev.raise Ev.VID_DEC_INCOMPLETE k.val).raise Ev.VID_RPL_SAMPLE_SKIPPED (0xFF + x.index * 2 ^ 32)).ev ∧
      { e with vid := s.dev.vid, regs := s.dev.regs, ev := s.dev.ev, mem := s.dev.mem } = s.dev ∧
      RegsBut [Reg.VID_DEC_STATUS_frames k.val, Reg.VID_DEC_ERR_incomplete k.val, Reg.VID_RPL_COUNT_skipped,
        Reg.VID_RPL_SKIPLOG_CFG_written] s.dev e) ∧
  (∀ (s : State) (k : Fin 48) (x : RplSample) (f : RplFrame), s.dev.vid.replay.decoding = some x →
    (x.frames.find? fun g => g.decoder == k.val && g.picture.isNone) = some f → SkipLogOpen s.dev →
    SettlesThen (.decodeComplete k .readError) s (fun e => e.pumpLoader s.mode) fun e =>
      SkipsSample s.dev x.index 5 f.stream e ∧
      e.ev = (s.dev.raise Ev.VID_RPL_SAMPLE_SKIPPED (0xFF + x.index * 2 ^ 32)).ev ∧ { e.vid with replay := s.dev.vid.replay } = s.dev.vid ∧
      { e with vid := s.dev.vid, regs := s.dev.regs, ev := s.dev.ev, mem := s.dev.mem } = s.dev ∧
      RegsBut [Reg.VID_RPL_COUNT_skipped, Reg.VID_RPL_SKIPLOG_CFG_written] s.dev e) ∧
  (∀ (s : State) (k : Fin 32) (at_ slot : Nat) (d : Device) (r : Replay) (x : RplFrame) (p : Picture) (u : StreamSt), s.mode = .replay →
    d = s.dev.stamp at_ → r = d.vid.replay → u = d.committed k.val → d.seq.jobBegun = true → u.openNow = none →
    (∀ q ∈ r.current.framesOf k.val, ∀ id f, q.2.started = some id → d.frameOf k.val id = some f → f.complete = true) →
    ((r.current.framesOf k.val).find? fun q => q.2.started.isNone) = some (slot, x) → x.picture = some p →
    (turnDiff d.turn r.turn ≠ 0 ∨ x.startNs ≤ d.sp.offsetAt d.sp.time) → u.reject = 0 → u.enabled = true → x.point = 0 →
    d.committing k.val = [] → d.contexts = [] → CleanStore d .engine (u.recBase + slot * 64) 16 →
    SettlesThen (.replayFrameStart k at_) s (fun e => e.sequence s.mode) fun e =>
      (∃ g, (e.stream k.val).openNow = some g ∧ g.turn = r.turn ∧ g.ordinal = slot ∧ g.number = 0 ∧ g.startAt = d.sp.time ∧
        g.capture = d.sp.time - u.tsOffset * 1000 ∧ g.logged = some (x.epoch, x.marks) ∧ g.marks = 0 ∧ g.cfg = u.cfg ∧
        e.vid.replay = { r with current := r.current.upd slot k.val fun y => { y with started := some g.id } }) ∧
      e.bytes (u.recBase + slot * 64) 16 = leBytes 4 r.turn ++ leBytes 1 slot ++ [1] ++ [0, 0] ++
        leBytes 8 (d.sp.time - u.tsOffset * 1000) ∧ BytesBut (u.recBase + slot * 64) 16 d e ∧
      { e with cam := d.cam, regs := d.regs, mem := d.mem, vid := d.vid } = d ∧ ∀ j, j ≠ k.val → e.stream j = d.stream j) ∧
  (∀ (s : State) (k : Fin 32) (at_ : Nat) (d : Device) (x : RplSample), s.mode = .replay → d = s.dev.stamp at_ →
    ((d.vid.replay.current.framesOf k.val).find? fun q => q.2.started.isNone) = none → d.vid.replay.decoding = some x →
    d.sampleLate x = true → x.underrun = false →
    Does (.replayFrameStart k at_) s fun e =>
      e.ev = (d.raise Ev.VID_RPL_UNDERRUN 0xFF).ev ∧ e.vid.replay = { d.vid.replay with decoding := some { x with underrun := true } } ∧
      { e.vid with replay := d.vid.replay } = d.vid ∧ { e with ev := d.ev, vid := d.vid } = d) ∧
  (∀ (s : State) (k : Fin 32) (line : ReplayLine) (slot y a : Nat) (d : Device) (f : Frame) (x : RplFrame) (p : Picture) (st : StreamSt)
      (row : List Byte), d = s.dev.stamp line.at_ → (d.stream k.val).openNow = some f → d.frameOf k.val f.id = some f →
    ((d.vid.replay.current.framesOf k.val).find? fun q => q.2.started == some f.id && !q.2.delivered) = some (slot, x) →
    x.picture = some p → x.point = 0 → st = (d.stream k.val).during f → st.route = 0 → d.vid.queue = [] →
    y = f.linesReceived + f.linesDiscarded → f.linesDiscarded = 0 → y < st.height → y + 1 < p.height →
    y * x.linePs ≤ (d.sp.time - f.startAt) * 1000 →
    a = st.bypassRow f.ordinal y → row = packLine st.bits (rawRow p st.bits st.width st.black y) → CleanStore d .engine a row.length →
    SettlesThen (.replayLineDelivery k line) s (fun e => e.sequence s.mode) fun e =>
      e.bytes a row.length = row ∧ BytesBut a row.length d e ∧
      e.frameOf k.val f.id = some { f with
        linesReceived := y + 1, firstLineAt := if y = 0 then d.sp.time else f.firstLineAt
        lastLineAt := d.sp.time, linesAccepted := min (y + 1) 0xFFFF } ∧
      { e with cam := d.cam, mem := d.mem } = d ∧ ∀ j, j ≠ k.val → e.stream j = d.stream j)

-- Join.

/-- Ports of the join: a flit with a sound CRC clears the retries of a port that is up, one that fails is counted, and the eighth in
a row retrains the port, as a lane error does. A retraining that succeeds raises FX_RETRAIN with its trigger; one that fails takes
the port down for good; each of them recomputes the routes, with FX_ROUTE_CHANGED. A record in transit leaves on its route, or is
dropped without one; an ALIGN gathers residence and port delay. The commands whose completion it states: FLIT_RECEIVED,
LANE_LOCK_LOSS, PORT_RETRAIN_DONE, TRANSIT_RECEIVED. -/
def Obligations.PortsCountRetryAndRetrain : Prop :=
  (∀ (s : State) (p : Fin 8) (c u : Bool), s.dev.portUp p.val = true →
    Does (.flitReceived p true c u) s fun e =>
      e.port p.val = { s.dev.port p.val with retries := 0 } ∧ Counts (Reg.FX_PORT_FEC_corrected p.val) (b2n c) s.dev e ∧
      Counts (Reg.FX_PORT_ERR_uncorrectable p.val) (b2n u) s.dev e ∧ (∀ q, q ≠ p.val → e.port q = s.dev.port q) ∧
      { e with regs := s.dev.regs, join := s.dev.join } = s.dev ∧ { e.join with ports := s.dev.join.ports } = s.dev.join ∧
      RegsBut [Reg.FX_PORT_FEC_corrected p.val, Reg.FX_PORT_ERR_uncorrectable p.val] s.dev e) ∧
  (∀ (s : State) (p : Fin 8) (c u : Bool), s.dev.portUp p.val = true → s.dev.rdB (Reg.FX_PORT_STATUS_retraining p.val) = false →
    Does (.flitReceived p false c u) s fun e =>
      Counts (Reg.FX_PORT_ERR_retries p.val) 1 s.dev e ∧
      ((s.dev.port p.val).retries < 7 → e.port p.val = { s.dev.port p.val with retries := (s.dev.port p.val).retries + 1 } ∧
        e.rd (Reg.FX_PORT_STATUS_retraining p.val) = 0 ∧ e.ev = s.dev.ev) ∧
      (7 ≤ (s.dev.port p.val).retries → e.port p.val = { retries := 0, trigger := 2 } ∧
        e.rd (Reg.FX_PORT_STATUS_retraining p.val) = 1 ∧ Counts (Reg.FX_PORT_ERR_retrains p.val) 1 s.dev e ∧
        e.ev = (s.dev.raiseFx Ev.FX_ROUTE_CHANGED p.val (s.dev.rd (Reg.FX_PORT_STATUS_neighbour_id p.val)) (newlyCut s.dev e)).ev) ∧
      (∀ q, q ≠ p.val → e.port q = s.dev.port q) ∧ { e with regs := s.dev.regs, join := s.dev.join, ev := s.dev.ev } = s.dev ∧
      RegsBut [Reg.FX_PORT_FEC_corrected p.val, Reg.FX_PORT_ERR_uncorrectable p.val, Reg.FX_PORT_ERR_retries p.val,
        Reg.FX_PORT_STATUS_retraining p.val, Reg.FX_PORT_ERR_retrains p.val] s.dev e) ∧
  (∀ (s : State) (p : Fin 8) (t : RetrainTrigger), s.dev.portUp p.val = true → s.dev.rdB (Reg.FX_PORT_STATUS_retraining p.val) = false →
    Does (.laneLockLoss p t) s fun e =>
      e.rd (Reg.FX_PORT_STATUS_retraining p.val) = 1 ∧ Counts (Reg.FX_PORT_ERR_retrains p.val) 1 s.dev e ∧
      e.port p.val = { retries := 0, trigger := match t with | .lock => 1 | .retries => 2 | .fec => 3 } ∧
      e.ev = (s.dev.raiseFx Ev.FX_ROUTE_CHANGED p.val (s.dev.rd (Reg.FX_PORT_STATUS_neighbour_id p.val)) (newlyCut s.dev e)).ev ∧
      (∀ q, q ≠ p.val → e.port q = s.dev.port q) ∧ { e with regs := s.dev.regs, join := s.dev.join, ev := s.dev.ev } = s.dev ∧
      RegsBut [Reg.FX_PORT_STATUS_retraining p.val, Reg.FX_PORT_ERR_retrains p.val] s.dev e) ∧
  (∀ (s : State) (p : Fin 8), s.dev.rdB (Reg.FX_PORT_STATUS_retraining p.val) = true →
    Does (.portRetrainDone p true) s (fun e =>
      e.rd (Reg.FX_PORT_STATUS_retraining p.val) = 0 ∧
      e.ev = ((s.dev.raiseFx Ev.FX_RETRAIN p.val (s.dev.rd (Reg.FX_PORT_STATUS_neighbour_id p.val)) (s.dev.port p.val).trigger).raiseFx
        Ev.FX_ROUTE_CHANGED p.val (s.dev.rd (Reg.FX_PORT_STATUS_neighbour_id p.val)) (newlyCut s.dev e)).ev ∧
      { e with regs := s.dev.regs, ev := s.dev.ev } = s.dev ∧ RegsBut [Reg.FX_PORT_STATUS_retraining p.val] s.dev e) ∧
    Does (.portRetrainDone p false) s (fun e =>
      e.rd (Reg.FX_PORT_STATUS_retraining p.val) = 0 ∧ e.rd (Reg.FX_PORT_STATUS_state p.val) = 3 ∧ e.rd Reg.FX_STATUS_train_state = 3 ∧
      e.ev = ((s.dev.raiseFx Ev.FX_LINK_DOWN p.val (s.dev.rd (Reg.FX_PORT_STATUS_neighbour_id p.val)) 0).raiseFx
        Ev.FX_ROUTE_CHANGED p.val (s.dev.rd (Reg.FX_PORT_STATUS_neighbour_id p.val)) (newlyCut s.dev e)).ev ∧
      { e with regs := s.dev.regs, ev := s.dev.ev } = s.dev ∧
      RegsBut [Reg.FX_PORT_STATUS_retraining p.val, Reg.FX_PORT_STATUS_state p.val, Reg.FX_STATUS_train_state] s.dev e)) ∧
  (∀ (s : State) (p : Fin 8) (k : TransitKind) (t : Transaction) (corr res q : Nat), s.dev.portUp p.val = true →
    t.destination ≠ s.dev.self → s.dev.activeSlots 6 = [] → s.dev.routeFrom p.val t.destination = some q →
    Does (.transitReceived p k t corr res) s fun e =>
      (∃ t', t' = (if k = .align then
          { t with payload := patchAt t.payload 24 (leBytes 8 (corr + res + s.dev.rd (Reg.FX_PORT_DELAY_delay_ns p.val))) } else t) ∧
        e.join.sent = { kind := k, destination := t.destination, port := some q, t := t' } :: s.dev.join.sent) ∧
      { e with join := s.dev.join } = s.dev ∧ { e.join with sent := s.dev.join.sent } = s.dev.join) ∧
  (∀ (s : State) (p : Fin 8) (k : TransitKind) (t : Transaction) (corr res : Nat), s.dev.activeSlots 6 = [] →
    s.dev.routeFrom p.val t.destination = none → exec (.transitReceived p k t corr res) s = .next s) ∧
  (∀ (s : State) (p : Fin 8), s.dev.portUp p.val = false → (∀ c u b, exec (.flitReceived p b c u) s = .next s) ∧
    (∀ t, exec (.laneLockLoss p t) s = .next s))

/-- Sequenced transactions are applied exactly once and in order: one that comes early is discarded, a duplicate is only
acknowledged again, and outside READY, TURNING and PARKED none is taken. An ACK carries the highest sequence applied and the
refusals since the ACK before. -/
def Obligations.SequencedTransactionsApplyOnce : Prop :=
  (∀ (s : State) (t : Transaction), t.destination = s.dev.self → joinListens s.mode = true → s.dev.activeSlots 6 = [] →
    (s.dev.join.expects t.source < t.sequence →
      exec (.writeReceived t) s = .next (settled s s.dev) ∧ exec (.signalReceived t) s = .next (settled s s.dev) ∧
      exec (.mirrorReceived t) s = .next (settled s s.dev)) ∧
    (t.sequence < s.dev.join.expects t.source →
      exec (.writeReceived t) s = .next (settled s (s.dev.sendAck t.source)) ∧
      exec (.signalReceived t) s = .next (settled s (s.dev.sendAck t.source)) ∧
      ((s.dev.seq.frozen && decide (some t.source = s.dev.buddy)) = false →
        exec (.mirrorReceived t) s = .next (settled s (s.dev.sendAck t.source))))) ∧
  (∀ (s : State) (sender retired turn index sequence : Nat), joinListens s.mode = true → s.dev.activeSlots 6 = [] →
    (s.dev.join.expects sender < sequence → exec (.takeoverReceived sender retired turn index sequence) s = .next (settled s s.dev)) ∧
    (sequence < s.dev.join.expects sender →
      exec (.takeoverReceived sender retired turn index sequence) s = .next (settled s (s.dev.sendAck sender)))) ∧
  (∀ (s : State) (t : Transaction), t.destination ≠ s.dev.self ∨ joinListens s.mode = false →
    exec (.writeReceived t) s = .next (settled s s.dev) ∧ exec (.signalReceived t) s = .next (settled s s.dev) ∧
    exec (.mirrorReceived t) s = .next (settled s s.dev)) ∧
  (∀ (d : Device) (source p : Nat), d.fo.silent = false → source ≠ d.self → d.route source = some p → d.activeSlots 6 = [] →
    (d.sendAck source).join.sent =
      { kind := .ack, destination := source, port := some p
        t := { emptyTx with source := d.self, destination := source, original := source, turn := d.carriedTurn
                            address := (d.join.expects source - 1) % 2 ^ 32 + mget 0 d.join.refusals source % 2 ^ 16 * 2 ^ 32 } } :: d.join.sent ∧
    mget 0 (d.sendAck source).join.refusals source = 0 ∧
    { d.sendAck source with join := d.join } = d ∧
    { (d.sendAck source).join with sent := d.join.sent, refusals := d.join.refusals } = d.join)

/-- A next expected WRITE that an enabled receive window matches is stored in shared memory at its address; one that none matches
is refused, counted and reported, and changes no memory. A MIRROR of the buddy within the mirror region is stored there, and its
last transaction covers its item in the turn. Each is then acknowledged (sendAck). A next expected SIGNAL on a flags counter in
use: of the present turn it sets the flag named, adds its marks and keeps the value with its index (06 R214); of the next turn it
waits for that turn; of any other turn it is dropped and counted. On a counter that is not one it is refused. A takeover of a
device that nothing is held for is recorded: redirection, register bit, event, and mastership where the device was master. The
commands whose completion it states: WRITE_RECEIVED, MIRROR_RECEIVED, SIGNAL_RECEIVED, TAKEOVER_RECEIVED. -/
def Obligations.ReceivedTransactionsLandWhereTheyBelong : Prop :=
  (∀ (s : State) (t : Transaction) (d : Device) (w : Nat), TakesNext s t.source t.sequence d → t.destination = s.dev.self →
    w < 16 → s.dev.recvMatches t w = true → s.dev.badCodewords (shmBase + t.address) t.payload.length = [] →
    SettlesThen (.writeReceived t) s (fun e => e.sendAck t.source) fun e =>
      e.bytes (shmBase + t.address) t.payload.length = t.payload ∧ BytesBut (shmBase + t.address) t.payload.length s.dev e ∧
      { e with mem := d.mem } = d) ∧
  (∀ (s : State) (t : Transaction) (d : Device), TakesNext s t.source t.sequence d → t.destination = s.dev.self →
    (∀ w < 16, s.dev.recvMatches t w = false) →
    SettlesThen (.writeReceived t) s (fun e => e.sendAck t.source) fun e =>
      mget 0 e.join.refusals t.source = mget 0 s.dev.join.refusals t.source + 1 ∧ Counts Reg.FX_COUNTS_refused 1 s.dev e ∧
      e.ev = (s.dev.raiseFx Ev.FX_REMOTE_REFUSED 0xFF t.source 1).ev ∧
      { e with regs := d.regs, ev := d.ev, join := d.join } = d ∧ { e.join with refusals := d.join.refusals } = d.join ∧
      RegsBut [Reg.FX_COUNTS_refused] s.dev e) ∧
  (∀ (s : State) (t : Transaction) (d : Device) (a : Nat), TakesNext s t.source t.sequence d → t.destination = s.dev.self →
    s.dev.buddy = some t.source → s.dev.seq.frozen = false → t.address + t.payload.length ≤ (s.dev.area 3).2 →
    a = (s.dev.area 3).1 + t.address → s.dev.badCodewords a t.payload.length = [] →
    SettlesThen (.mirrorReceived t) s (fun e => e.sendAck t.source) fun e =>
      e.bytes a t.payload.length = t.payload ∧ BytesBut a t.payload.length s.dev e ∧
      e.seq = { s.dev.seq with coverage := s.dev.seq.coverage ++ (if t.last ∧ t.turn = s.dev.carriedTurn then [t.item] else []) } ∧
      { e with mem := d.mem, seq := d.seq } = d) ∧
  (∀ (s : State) (t : Transaction) (d : Device), TakesNext s t.source t.sequence d → t.destination = s.dev.self →
    s.dev.buddy ≠ some t.source ∨ (s.dev.area 3).2 < t.address + t.payload.length →
    (s.dev.seq.frozen && decide (some t.source = s.dev.buddy)) = false →
    SettlesThen (.mirrorReceived t) s (fun e => e.sendAck t.source) fun e =>
      mget 0 e.join.refusals t.source = mget 0 s.dev.join.refusals t.source + 1 ∧ Counts Reg.FX_COUNTS_refused 1 s.dev e ∧
      e.ev = (s.dev.raiseFx Ev.FX_REMOTE_REFUSED 0xFF t.source 3).ev ∧
      { e with regs := d.regs, ev := d.ev, join := d.join } = d) ∧
  (∀ (s : State) (t : Transaction) (d : Device) (c bit : Nat), TakesNext s t.source t.sequence d → t.destination = s.dev.self →
    t.redirected = false → c = t.address % 512 → bit = bitsOf t.address 15 12 → turnDiff t.turn s.dev.carriedTurn = 0 →
    s.dev.counterInUse c = true → s.dev.isFlags c = true →
    SettlesThen (.signalReceived t) s (fun e => (e.sequence s.mode).sendAck t.source) fun e =>
      e.ctr c = { value := (s.dev.ctr c).value ||| 2 ^ bit, marks := (s.dev.ctr c).marks ||| bitsOf t.address 23 16
                  steps := (s.dev.ctr c).steps ++ [(s.dev.index, (s.dev.ctr c).value ||| 2 ^ bit)] } ∧
      (∀ k, k ≠ c → e.ctr k = s.dev.ctr k) ∧ { e with seq := d.seq } = d ∧ { e.seq with counters := d.seq.counters } = d.seq) ∧
  (∀ (s : State) (t : Transaction) (d : Device) (c : Nat), TakesNext s t.source t.sequence d → t.destination = s.dev.self →
    t.redirected = false → c = t.address % 512 → turnDiff t.turn s.dev.carriedTurn = 1 →
    s.dev.counterInUse c = true → s.dev.isFlags c = true →
    SettlesThen (.signalReceived t) s (fun e => e.sendAck t.source) fun e =>
      e = { d with seq := { d.seq with heldSignals := d.seq.heldSignals ++
        [{ counter := c, bit := bitsOf t.address 15 12, marks := bitsOf t.address 23 16, turn := turnPlus d.turn 1 }] } }) ∧
  (∀ (s : State) (t : Transaction) (d : Device), TakesNext s t.source t.sequence d → t.destination = s.dev.self →
    1 < turnDiff t.turn s.dev.carriedTurn →
    SettlesThen (.signalReceived t) s (fun e => e.sendAck t.source) fun e =>
      Counts Reg.NE_CTR_DROPPED_signals 1 s.dev e ∧ { e with regs := d.regs } = d ∧ RegsBut [Reg.NE_CTR_DROPPED_signals] s.dev e) ∧
  (∀ (s : State) (t : Transaction) (d : Device) (c : Nat), TakesNext s t.source t.sequence d → t.destination = s.dev.self →
    t.redirected = false → c = t.address % 512 → turnDiff t.turn s.dev.carriedTurn ≤ 1 →
    s.dev.counterInUse c = false ∨ s.dev.isFlags c = false →
    SettlesThen (.signalReceived t) s (fun e => e.sendAck t.source) fun e =>
      mget 0 e.join.refusals t.source = mget 0 s.dev.join.refusals t.source + 1 ∧ Counts Reg.FX_COUNTS_refused 1 s.dev e ∧
      e.ev = (s.dev.raiseFx Ev.FX_REMOTE_REFUSED 0xFF t.source 2).ev ∧ { e with regs := d.regs, ev := d.ev, join := d.join } = d) ∧
  (∀ (s : State) (sender retired turn index sequence : Nat) (d : Device), TakesNext s sender sequence d →
    s.dev.lostPair sender retired = [] → retired ≠ s.dev.self → s.dev.buddy ≠ some retired → retired < 128 →
    (∀ h ∈ s.dev.join.held ++ s.dev.join.waiting, h.destination ≠ retired) →
    SettlesThen (.takeoverReceived sender retired turn index sequence) s (fun e => e.sendAck sender) fun e =>
      e.join = { d.join with
        redirects := aput d.join.redirects retired sender, master := if d.join.master = retired then sender else d.join.master } ∧
      e.rd (Reg.FX_REDIRECT_redirected (retired / 32)) =
        (s.dev.rd (Reg.FX_REDIRECT_redirected (retired / 32)) ||| 2 ^ (retired % 32)) % 2 ^ 32 ∧
      (d.join.master = retired → e.rd Reg.SP_ALIGN_master_id = sender % 2 ^ Reg.SP_ALIGN_master_id.width) ∧
      e.sp = (if d.join.master = retired ∧ sender = s.dev.self then { d.sp with masterTurnDelta := 0 } else d.sp) ∧
      e.ev = (s.dev.raiseFx Ev.FX_TAKEOVER 0xFF retired sender).ev ∧ { e with regs := d.regs, ev := d.ev, join := d.join, sp := d.sp } = d ∧
      RegsBut [Reg.FX_REDIRECT_redirected (retired / 32), Reg.SP_ALIGN_master_id] s.dev e)

/-- ACK_RECEIVED releases what is held for the acknowledging device up to the sequence and counts its refusals; what waited is
accepted, MIRRORs whose last transaction is acknowledged end their descriptor, and the channels go on. E2E_TIMEOUT sends everything
held for a destination again, in order, and releases nothing; a retired part sends nothing. A buddy's heartbeat is kept for its
evaluation; one that shows an asymmetric pair is reported once. A follower takes its master's alignment: error, master and turn
difference show, and the Finyx source is measured (measure). The commands whose completion it states: ACK_RECEIVED, E2E_TIMEOUT,
HEARTBEAT_RECEIVED, ALIGN_RECEIVED. -/
def Obligations.AcksHeartbeatsAndAlignmentAreTaken : Prop :=
  (∀ (s : State) (src q refused : Nat), s.dev.activeSlots 6 = [] →
    SettlesThen (.ackReceived src q refused) s
      (fun e =>
        let e := e.acceptWaiting (e.join.waiting.length + 1)
        let e := forL (s.dev.join.mirrorsDone src q) (fun m e => e.mirrorDone s.mode m) e
        forL e.usedChans (fun ch e => e.finishDesc s.mode ch) e)
      fun e =>
        e.join.held = s.dev.join.held.filter (fun h => !(h.destination == src && decide (h.t.sequence ≤ q))) ∧
        Counts Reg.FX_COUNTS_refused refused s.dev e ∧ { e with regs := s.dev.regs, join := s.dev.join } = s.dev ∧
        { e.join with held := s.dev.join.held } = s.dev.join ∧ RegsBut [Reg.FX_COUNTS_refused] s.dev e) ∧
  (∀ (s : State) (dst : Nat), s.mode = .retired → exec (.e2eTimeout dst) s = .next s) ∧
  (∀ (s : State) (dst p : Nat), s.mode ≠ .retired → s.dev.activeSlots 6 = [] → s.dev.fo.silent = false → dst ≠ s.dev.self →
    s.dev.route dst = some p →
    Does (.e2eTimeout dst) s fun e =>
      e.join.sent = ((s.dev.join.held.filter fun h => h.destination == dst).map fun h => { h with port := some p }).reverse ++
        s.dev.join.sent ∧
      { e with join := s.dev.join } = s.dev ∧ { e.join with sent := s.dev.join.sent } = s.dev.join) ∧
  (∀ (s : State) (h : Heartbeat), s.dev.activeSlots 6 = [] →
    Does (.heartbeatReceived h) s fun e =>
      e.fo = { s.dev.fo with seen := s.dev.fo.seen ++ (if some h.sender = s.dev.buddy then [h] else []) } ∧
      e.join = { s.dev.join with asymmetric := s.dev.join.asymmetric || (some h.sender != s.dev.buddy || h.buddy != s.dev.self) } ∧
      e.ev = (if (some h.sender != s.dev.buddy || h.buddy != s.dev.self) && !s.dev.join.asymmetric
        then s.dev.raiseFx Ev.FX_NEIGHBOUR_MISMATCH 0xFF h.sender 2 else s.dev).ev ∧
      { e with fo := s.dev.fo, join := s.dev.join, ev := s.dev.ev } = s.dev) ∧
  (∀ (s : State) (p : Fin 8) (a : AlignRec) (at_ : Nat) (d : Device) (x : Int), s.dev.activeSlots 6 = [] → d = s.dev.stamp at_ →
    d.sp.counting = true → d.isMaster = false → 1 < d.groupSize → a.master = d.join.master → a.master < 512 →
    x = (a.sendTime : Int) + a.correction + d.rd (Reg.FX_PORT_DELAY_delay_ns p.val) - d.sp.time → x.natAbs ≤ 2000 → d.turnGap a x = 0 →
    ∃ b, b.rd Reg.SP_ALIGN_align_ns = tcOf x 16 ∧ b.rd Reg.SP_ALIGN_master_id = a.master ∧ b.rd Reg.SP_ALIGN_master_valid = 1 ∧
      b.sp = { d.sp with masterTurnDelta := 0, alignRun := 0 } ∧ { b with regs := d.regs, sp := d.sp } = d ∧
      RegsBut [Reg.SP_ALIGN_align_ns, Reg.SP_ALIGN_master_id, Reg.SP_ALIGN_master_valid] d b ∧
      exec (.alignReceived p a at_) s = .next { s with dev := b.measure s.mode 5 ((d.sp.time : Int) + x).toNat }) ∧
  (∀ (s : State) (p : Fin 8) (a : AlignRec) (at_ : Nat) (d : Device), s.dev.activeSlots 6 = [] → d = s.dev.stamp at_ →
    d.sp.counting = false ∨ d.isMaster = true ∨ d.groupSize ≤ 1 ∨ a.master ≠ d.join.master →
    exec (.alignReceived p a at_) s = .next { s with dev := d })

-- Health.

/-- The health monitor, while it serves: the oldest queued record moves into the log (and, of severity 3 and 4, into the severe
ring), once memory is up into its slot in the firmware area with the header after it (where the log begins there is the model's
choice, log entry 21), and what was discarded is then reported; the health record of an ended turn is written; a component whose
watchdog expires restarts with WATCHDOG_RESTART, the mailbox service losing its sessions; a restart ends. Its own watchdog leads to
a start, and in TURNING to RETIRED with cause 6. The commands whose completion it states: LOG_RECORD_MOVE, TURN_HEALTH_RECORD,
WATCHDOG_EXPIRY, COMPONENT_RESTART_DONE, HM_WATCHDOG_EXPIRY. -/
def Obligations.HealthMonitorLogsAndRestarts : Prop :=
  (∀ (s : State) (x : EventRec) (rest : List EventRec) (base a : Nat), s.dev.ev.queue = x :: rest → s.dev.hmServes = true →
    s.dev.ev.lost = 0 → (∀ y ∈ s.dev.proto.sessions, ∀ n, y.subscribe = some n → x.severity < n) →
    LogClean s.dev s.dev.ev.written → base = (s.dev.area 2).1 → a = base + (64 + 16 * (s.dev.ev.written % logCap)) →
    Does .logRecordMove s fun e =>
      (s.dev.rdB Reg.MEM_STATUS_init_done = false → e.mem = s.dev.mem) ∧
      (s.dev.rdB Reg.MEM_STATUS_init_done = true → e.bytes a 16 = x.bytes ∧ e.bytes base 64 = e.ev.header ∧
        ∀ b, (b < a ∨ a + 16 ≤ b) → (b < base ∨ base + 64 ≤ b) → e.bytes b 1 = s.dev.bytes b 1) ∧
      e.ev.queue = rest ∧ e.ev.log = (x :: s.dev.ev.log).take 4194300 ∧ e.ev.written = s.dev.ev.written + 1 ∧ e.ev.newestTurn = x.turn ∧
      e.ev.severe = (if 3 ≤ x.severity then (x :: s.dev.ev.severe).take 96 else s.dev.ev.severe) ∧
      e.ev.severeCount = s.dev.ev.severeCount + (if 3 ≤ x.severity then 1 else 0) ∧
      { e.ev with queue := s.dev.ev.queue, log := s.dev.ev.log, written := s.dev.ev.written, newestTurn := s.dev.ev.newestTurn
                  severe := s.dev.ev.severe, severeCount := s.dev.ev.severeCount } = s.dev.ev ∧
      { e with ev := s.dev.ev, mem := s.dev.mem } = s.dev) ∧
  (∀ (s : State) (x : EventRec) (rest : List EventRec), s.dev.ev.queue = x :: rest → s.dev.hmServes = true → s.dev.ev.lost ≠ 0 →
    rest.length < 4096 → s.dev.proto.sessions = [] → LogClean s.dev s.dev.ev.written →
    Does .logRecordMove s fun e =>
      e.ev.lost = 0 ∧ ∃ r, e.ev.queue = rest ++ [r] ∧ r.code = Ev.EVENT_QUEUE_OVERFLOW ∧ r.payload.toNat = s.dev.ev.lost % 2 ^ 32) ∧
  (∀ s : State, s.dev.ev.queue = [] ∨ s.dev.hmServes = false → exec .logRecordMove s = .next s) ∧
  (∀ (s : State) (x : EndedTurn), s.dev.safety.ended = some x → s.dev.hmServes = true →
    Does .turnHealthRecord s fun e =>
      e.safety.ended = none ∧ e.safety.lastTurn = x.turn ∧ e.safety.recordSlot (x.turn % 8) = sliceOf (s.dev.healthRecord s.mode x) 0 32 ∧
      (∀ j, j ≠ x.turn % 8 → e.safety.recordSlot j = s.dev.safety.recordSlot j) ∧ { e with safety := s.dev.safety } = s.dev) ∧
  (∀ (s : State) (c : Fin 8), s.dev.hmServes = true → c.val ≠ 0 → c.val ≠ 4 →
    Does (.watchdogExpiry c) s fun e =>
      e.proto.restarting = s.dev.proto.restarting.set c.val true ∧ e.ev = (s.dev.raise Ev.WATCHDOG_RESTART c.val).ev ∧
      (c.val = 5 → e.proto.sessions = [] ∧ e.proto.reassembly = []) ∧
      (c.val ≠ 5 → e.proto = { s.dev.proto with restarting := e.proto.restarting }) ∧
      { e with proto := s.dev.proto, ev := s.dev.ev } = s.dev) ∧
  (∀ (s : State) (c : Fin 8), c.val ≠ 4 →
    Does (.componentRestartDone c) s fun e =>
      e = { s.dev with proto := { s.dev.proto with restarting := s.dev.proto.restarting.set c.val false } }) ∧
  (∀ s : State, s.dev.hmServes = true → exec (.watchdogExpiry 4) s = exec .hmWatchdogExpiry s) ∧
  (∀ s : State, s.mode = .turning → s.dev.fo.pendingCause = none → Completes .hmWatchdogExpiry s fun t =>
    t.mode = .retired ∧ t.dev.fo.cause = 6 ∧ t.dev.pins.safeAlert = true ∧ t.otp = s.otp ∧ t.dev.mem = s.dev.mem) ∧
  (∀ s : State, s.mode = .coldStart ∨ s.mode = .warmStart → Completes .hmWatchdogExpiry s fun t => t.mode = .coldStart ∧ t.otp = s.otp) ∧
  (∀ s : State, (s.mode = .ready ∨ s.mode = .parked ∨ s.mode = .replay ∨ s.mode = .retired) →
    Completes .hmWatchdogExpiry s fun t => t.otp = s.otp ∧
      t.mode = (if s.dev.boot.retained.any (·.pending) = true ∨ s.dev.life ≠ lifecycleCode s.otp.lifecycle then .coldStart else .warmStart))

-- Power.

/-- The fast parts of power control. A reached voltage lets the clock follow, and the next quadrant's rise begins (raiseNext), its
voltage first, once no voltage is awaited; a limiter window records the mean and sets a duty of 1 to 16 whose projected mean keeps
the limits, one more than before at most, and 1 while the rail has tripped; a ballast window sets a level for the idle arrays only,
at which the mean stays within the one before and the limit; the hold's end lets the level fade. That the estimate of a duty is linear
in it (projected), and that the next rise begins once no voltage is awaited, are the model's readings of 14 R452 and R446 (DEDUCED, log
entry 42). The commands whose completion it states: VOLTAGE_REACHED, LIMITER_WINDOW, BALLAST_WINDOW, BALLAST_HOLD_EXPIRY. -/
def Obligations.LimitersKeepTheirBounds : Prop :=
  (∀ (s : State) (q : Fin 4) (t : Nat), (s.dev.rail q.val).target = some t → t < 16 →
    DoesThen (.voltageReached q) s (fun e => e.raiseNext) fun e =>
      e.rd (Reg.PWR_RAIL_POINT_step q.val) = t ∧ e.rail q.val = { s.dev.rail q.val with target := none } ∧
      e.rd (Reg.NE_QUAD_OP_mhz q.val) = (1000 + 100 * t) * s.dev.rd (Reg.PWR_RAIL_LIMITER_duty q.val) / 16 % 2 ^ (Reg.NE_QUAD_OP_mhz q.val).width ∧
      { e with pwr := s.dev.pwr, regs := s.dev.regs } = s.dev ∧
      RegsBut [Reg.PWR_RAIL_POINT_step q.val, Reg.NE_QUAD_OP_mhz q.val] s.dev e) ∧
  (∀ (s : State) (q : Fin 4), (s.dev.rail q.val).target = none → exec (.voltageReached q) s = .next s) ∧
  (∀ (d : Device), (∃ k < 4, (d.rail k).target ≠ none) ∨ d.pwr.rises = [] → d.raiseNext = d) ∧
  (∀ (d : Device) (q t : Nat), (∀ k < 4, (d.rail k).target = none) → d.pwr.rises = [(q, t)] → q < 4 → t < 16 →
    (d.raiseNext.rail q).target = some t ∧ d.raiseNext.rd (Reg.NE_QUAD_OP_mv q) = stepMv t ∧ d.raiseNext.pwr.rises = [] ∧
    d.raiseNext.rd (Reg.PWR_RAIL_POINT_step q) = d.rd (Reg.PWR_RAIL_POINT_step q)) ∧
  (∀ (s : State) (q : Fin 4) (sm dm mean now n : Nat), s.dev.boot.applicationUp = true →
    s.dev.rdB (Reg.PWR_RAIL_STATUS_lost q.val) = false → now = s.dev.rd (Reg.PWR_RAIL_LIMITER_duty q.val) → 1 ≤ now → now ≤ 16 →
    mean = s.dev.rd (Reg.PWR_RAIL_GAIN_gain q.val) * (sm + dm) / 4096 →
    n = nextDuty (s.dev.rdB (Reg.PWR_RAIL_STATUS_trip q.val)) (s.dev.rd (Reg.PWR_RAIL_LIMIT_limit_a q.val) * 1000)
      (((s.dev.rail q.val).means[9]?).map fun m => m + s.dev.rd (Reg.PWR_RAIL_LIMIT_limit_a q.val) * 200) now
      (projected (s.dev.rd (Reg.PWR_RAIL_GAIN_gain q.val)) sm dm now) →
    Does (.limiterWindow q sm dm) s fun e =>
      e.rd (Reg.PWR_RAIL_LIMITER_duty q.val) = n ∧ e.rd (Reg.PWR_RAIL_STATUS_limiter_active q.val) = b2n (decide (n < 16)) ∧
      (e.rail q.val).means = (mean :: (s.dev.rail q.val).means).take 10 ∧ (e.rail q.val).estSum = (s.dev.rail q.val).estSum + mean ∧
      (e.rail q.val).estCount = (s.dev.rail q.val).estCount + 1 ∧ (∀ k, k ≠ q.val → e.rail k = s.dev.rail k) ∧
      { e with pwr := s.dev.pwr, regs := s.dev.regs, ev := s.dev.ev } = s.dev ∧
      RegsBut [Reg.PWR_RAIL_LIMITER_duty q.val, Reg.PWR_RAIL_STATUS_limiter_active q.val, Reg.NE_QUAD_OP_mhz q.val,
        Reg.PWR_RAIL_EST_peak q.val, Reg.PWR_RAIL_LIMITER_throttled q.val] s.dev e) ∧
  (∀ (trip : Bool) (limit now : Nat) (ramp : Option Nat) (proj : Nat → Nat) (n : Nat), 1 ≤ now → now ≤ 16 →
    n = nextDuty trip limit ramp now proj →
    1 ≤ n ∧ n ≤ 16 ∧ n ≤ now + 1 ∧ (trip = true → n = 1) ∧
    (trip = false → n ≠ 1 → proj n ≤ limit ∧ ∀ r, ramp = some r → proj n ≤ r)) ∧
  (∀ (s : State) (q : Fin 4) (real per : Nat), s.dev.ballastOn s.mode = false ∨ s.dev.rdB (Reg.PWR_RAIL_STATUS_lost q.val) = true →
    Does (.ballastWindow q real per) s fun e =>
      e.rd (Reg.PWR_RAIL_LIMITER_ballast q.val) = 0 ∧ (e.rail q.val).ballastHeld = false ∧ (e.rail q.val).prevMean = real ∧
      (∀ k, k ≠ q.val → e.rail k = s.dev.rail k) ∧ { e with pwr := s.dev.pwr, regs := s.dev.regs } = s.dev ∧
      RegsBut [Reg.PWR_RAIL_LIMITER_ballast q.val] s.dev e) ∧
  (∀ (s : State) (q : Fin 4) (real per : Nat), s.dev.ballastOn s.mode = true → s.dev.rdB (Reg.PWR_RAIL_STATUS_lost q.val) = false →
    Does (.ballastWindow q real per) s fun e =>
      (∃ l, l ≤ (s.dev.idleArrays q.val).length / 2 ∧ e.rd (Reg.PWR_RAIL_LIMITER_ballast q.val) = l ∧
        (e.rail q.val).prevMean = real + l * per ∧
        (l ≠ 0 → real + l * per ≤ min (s.dev.rail q.val).prevMean (s.dev.rd (Reg.PWR_RAIL_LIMIT_limit_a q.val) * 1000))) ∧
      (∀ k, k ≠ q.val → e.rail k = s.dev.rail k) ∧
      { e with pwr := s.dev.pwr, regs := s.dev.regs, freeCtr := s.dev.freeCtr } = s.dev ∧
      RegsBut [Reg.PWR_RAIL_LIMITER_ballast q.val] s.dev e) ∧
  (∀ (s : State) (q : Fin 4),
    Does (.ballastHoldExpiry q) s fun e =>
      e = s.dev.setRail q.val { s.dev.rail q.val with ballastHeld := false })

/-- Temperatures, the loss of a rail, the report of the group budget and Steady's tick. A sample shows the hottest sensor, and the
greatest one since the last read; one at 127 °C trips the rail (duty 1, THERM_ALERT_N), and below 121 °C the trip clears; in OFF none
is taken. A lost rail holds its quadrant in reset, blocks starts and in TURNING retires the part with cause 4. The report of an ended
turn is written in the report area, where there is one. A tick shows the package power, the sum of the rails' V × I (railFigure: what
14 R462 and R464 take for them) and of the other rails, and whether it exceeds the effective cap; it then applies the new steps of 14
R467 (newSteps) for that power, cap, ceilings, throttles and waits (a quadrant whose rail is lost does not rise: the model's reading,
log entry 42): a quadrant that is to fall stands at its new step at once, one that is to rise is on its way or waits in line. The new
steps exceed no ceiling and no step before by more than one. The commands whose completion it states: THERMAL_SAMPLE, RAIL_LOSS,
GROUP_REPORT_WRITE, STEADY_TICK. -/
def Obligations.ThermalRailAndSteadyRules : Prop :=
  (∀ (s : State) (q : Fin 4) (ts : List Int), s.mode = .off → exec (.thermalSample q ts) s = .next s) ∧
  (∀ (s : State) (q : Fin 4) (t : Int) (k : Nat), s.mode ≠ .off → -128 ≤ t → t ≤ 126 → 1 ≤ k → k ≤ 8 →
    Does (.thermalSample q (List.replicate k t)) s fun e =>
      e.rd (Reg.PWR_RAIL_TEMP_temp_c q.val) = tcOf t 8 ∧ (e.rail q.val).temps = List.replicate k t ∧
      e.rd (Reg.PWR_RAIL_TEMP_peak_c q.val) =
        (if (s.dev.rail q.val).peaked = false ∨ sextOf (s.dev.rd (Reg.PWR_RAIL_TEMP_peak_c q.val)) 8 < t then tcOf t 8
          else s.dev.rd (Reg.PWR_RAIL_TEMP_peak_c q.val)) ∧
      e.rd (Reg.PWR_RAIL_STATUS_trip q.val) = (if t ≤ 120 then 0 else s.dev.rd (Reg.PWR_RAIL_STATUS_trip q.val)) ∧ e.ev = s.dev.ev ∧
      { e with pwr := s.dev.pwr, regs := s.dev.regs, pins := s.dev.pins } = s.dev ∧
      RegsBut [Reg.PWR_RAIL_TEMP_temp_c q.val, Reg.PWR_RAIL_TEMP_peak_c q.val, Reg.PWR_RAIL_STATUS_trip q.val] s.dev e) ∧
  (∀ (s : State) (q : Fin 4) (rest : List Int), s.mode ≠ .off → (∀ t ∈ rest, -128 ≤ t ∧ t ≤ 127) → rest.length ≤ 7 →
    Does (.thermalSample q (127 :: rest)) s fun e =>
      e.rd (Reg.PWR_RAIL_STATUS_trip q.val) = 1 ∧ e.rd (Reg.PWR_RAIL_LIMITER_duty q.val) = 1 ∧ e.pins.thermAlert = true ∧
      e.rd (Reg.PWR_RAIL_TEMP_temp_c q.val) = 127 ∧
      e.ev = (if s.dev.rdB (Reg.PWR_RAIL_STATUS_trip q.val) then s.dev else s.dev.raise Ev.PWR_THERMAL_TRIP q.val).ev ∧
      { e with pwr := s.dev.pwr, regs := s.dev.regs, pins := s.dev.pins, ev := s.dev.ev } = s.dev) ∧
  (∀ (s : State) (q : Fin 4) (mv : Nat), s.mode ≠ .off → s.dev.rdB (Reg.PWR_RAIL_STATUS_lost q.val) = false → s.dev.fo.pendingCause = none →
    Completes (.railLoss q mv) s fun t =>
      t.mode = (if s.mode = .turning then .retired else s.mode) ∧ t.otp = s.otp ∧ t.dev.rd (Reg.PWR_RAIL_STATUS_lost q.val) = 1 ∧
      bitAt (t.dev.rd Reg.NE_STATUS_quad_in_reset) q.val = true ∧ bitAt (t.dev.rd Reg.NE_STATUS_quad_clock_on) q.val = false ∧
      t.dev.pwr.startBlocked = true ∧ t.dev.mem = s.dev.mem ∧ (s.mode = .turning → t.dev.fo.cause = 4) ∧
      (s.mode ≠ .turning ∨ s.dev.pertIsOpen = false →
        RegsBut ([Reg.PWR_RAIL_STATUS_lost q.val, Reg.NE_STATUS_quad_in_reset, Reg.NE_STATUS_quad_clock_on] ++
          s.dev.pwr.rises.map fun x => Reg.NE_QUAD_OP_mv x.1) s.dev t.dev)) ∧
  (∀ (s : State) (q : Fin 4) (mv : Nat), s.mode = .off ∨ s.dev.rdB (Reg.PWR_RAIL_STATUS_lost q.val) = true → exec (.railLoss q mv) s = .next s) ∧
  (∀ s : State, s.dev.hasReportArea = false → exec .groupReportWrite s = .next s) ∧
  (∀ (s : State) (turn late crit last power a : Nat), s.dev.pwr.ended = [turn, late, crit, last, power] → s.dev.steadyRuns = true →
    s.dev.hasReportArea = true → a = s.dev.reportAt s.dev.self → s.dev.badCodewords a 32 = [] →
    Settles .groupReportWrite s fun e =>
      e.bytes a 32 = leBytes 1 1 ++ leBytes 1 late ++ leBytes 2 s.dev.self ++ leBytes 4 turn ++ leBytes 2 crit ++ leBytes 2 last ++
        leBytes 2 (s.dev.rd Reg.PWR_GROUP_ALLOC_alloc_w) ++ leBytes 2 power ++ leBytes 2 (s.dev.rd Reg.PWR_GROUP_BASE_base_w) ++
        leBytes 2 (s.dev.rd Reg.PWR_GROUP_BASE_floor_w) ++ leBytes 12 0 ∧
      BytesBut a 32 s.dev e ∧ { e with mem := s.dev.mem } = s.dev) ∧
  (∀ (s : State) (rails : List RailReading) (other : List OtherReading), s.dev.steadyRuns = true →
    Does (.steadyTick rails other) s fun e =>
      e.pwr.ticks = s.dev.pwr.ticks + 1 ∧ e.pwr.powerTicks = s.dev.pwr.powerTicks + 1 ∧ e.pwr.nextAlloc = none ∧
      e.rd Reg.PWR_OTHER_mw = min (otherPower other) (2 ^ 20 - 1) ∧
      (∀ a, s.dev.pwr.nextAlloc = some a → e.rd Reg.PWR_GROUP_ALLOC_alloc_w = a % 2 ^ Reg.PWR_GROUP_ALLOC_alloc_w.width) ∧
      { e with pwr := s.dev.pwr, regs := s.dev.regs, ev := s.dev.ev } = s.dev) ∧
  (∀ (s : State) (rails : List RailReading) (other : List OtherReading) (pq : List Nat) (p : Nat), s.dev.steadyRuns = true →
    pq = ((List.range 4).map fun q => railFigure s.dev q (rails.getD q ⟨false, 0, 0, false⟩)) →
    p = pq.sum + otherPower other * 1000 →
    DoesThen (.steadyTick rails other) s
      (fun e => e.applySteps (stepsAt e s.mode pq p (e.effectiveCap s.mode)) (ceilingsAt e s.mode)) fun e =>
        e.rd Reg.PWR_PKG_mw = min (p / 1000) (2 ^ 20 - 1) ∧
        e.rd Reg.PWR_STATUS_cap_limited = b2n (decide (e.effectiveCap s.mode * 1000000 < p)) ∧
        e.pwr.powerSum = s.dev.pwr.powerSum + p / 1000 ∧ ∀ q < 4, e.setPoint q = s.dev.setPoint q) ∧
  (∀ (d : Device) (t ceilings : List Nat) (q : Nat), q < 4 → (∀ k < 4, d.setPoint k ≤ 16) →
    (t.getD q 0 ≤ d.setPoint q → (d.applySteps t ceilings).setPoint q = t.getD q 0) ∧
    (d.setPoint q < t.getD q 0 → (d.applySteps t ceilings).setPoint q = t.getD q 0 ∨
      ((d.applySteps t ceilings).setPoint q = d.setPoint q ∧ (q, t.getD q 0) ∈ (d.applySteps t ceilings).pwr.rises))) ∧
  (∀ s : State, s.dev.steadyRuns = false → (∀ r o, exec (.steadyTick r o) s = .next s) ∧ exec .groupReportWrite s = .next s) ∧
  (∀ (steps ceilings : List Nat) (acts waits : List Bool) (pq : List Nat) (p cap q : Nat), q < 4 →
    (newSteps steps ceilings acts waits pq p cap).getD q 0 ≤ min (steps.getD q 0 + 1) (max (ceilings.getD q 0) (steps.getD q 0)))

-- Ethernet and the mailbox service.

/-- Frames at an enabled port: gPTP and MKA frames and those that pass its filters count as received; an MKA frame shows whether the
peer is live; what is unsecured on a MACsec port, fails its ICV, or is not addressed to the port by MAC address, VLAN, IP address, UDP
port or host table counts as such and goes no further; a fragmented datagram goes no further, uncounted. The one fragment of a whole
request makes it wait for execution. A resolution or echo request for an address of the port is answered. A frame that leaves takes a
fragment from the oldest message of the class that is served, the highest with one to send among the open gates, with the class as
its PCP, as many bytes as the port's frames hold (sendQueue is the queue without what an ended EMIT left empty), and refused EMITs
offer again (offerAgain); a control frame is of class 7. The class of a control frame (PRESUMED), fragments of full size, answers as
frames of their own and the missing count of fragmented datagrams (DEDUCED) are the model's, log entry 77. The gate list and the
peer's time-out act on their ports; a message in reassembly times out. The commands whose completion it states: ETH_FRAME_RECEIVED,
ETH_FRAME_TRANSMITTED, QBV_GATE_CHANGE, MACSEC_PEER_TIMEOUT, REASSEMBLY_TIMEOUT. -/
def Obligations.FramesCountAndCarryRequests : Prop :=
  (∀ (s : State) (p : Fin 3) (x y : Bool) (m v at_ : Nat) (d : Device), s.portTakes p.val = true → d = s.dev.stamp at_ →
    Does (.ethFrameReceived p x y m v .gptp at_) s (fun e =>
      Counts (Reg.ETH_PORT_RX_frames p.val) 1 d e ∧ { e with regs := d.regs } = d ∧ RegsBut [Reg.ETH_PORT_RX_frames p.val] d e) ∧
    (∀ live, d.portFlag p.val 2 = true → Does (.ethFrameReceived p x y m v (.mka live) at_) s (fun e =>
      e.proto = { d.proto with macsec := d.proto.macsec.set p.val live } ∧ Counts (Reg.ETH_PORT_RX_frames p.val) 1 d e ∧
      { e with regs := d.regs, proto := d.proto } = d ∧ RegsBut [Reg.ETH_PORT_RX_frames p.val] d e)) ∧
    (∀ b, b ≠ .gptp → (∀ live, b ≠ .mka live) →
      (d.portFlag p.val 2 = true → (x = false ∨ d.proto.macsec.getD p.val false = false) →
        OnlyCounts (.ethFrameReceived p x y m v b at_) s (Reg.ETH_PORT_MACSEC_unsecured p.val) d) ∧
      (d.portFlag p.val 2 = true → x = true → d.proto.macsec.getD p.val false = true → y = false →
        OnlyCounts (.ethFrameReceived p x y m v b at_) s (Reg.ETH_PORT_MACSEC_icv_failures p.val) d) ∧
      ((d.portFlag p.val 2 = true → x = true ∧ y = true ∧ d.proto.macsec.getD p.val false = true) →
        (m ≠ s.portMac p.val ∧ ((∀ a c, b ≠ .resolve a c) ∨ bitAt m 0 = false)) ∨ (s.mode ≠ .recovery ∧ v ≠ d.portVlan p.val) →
        OnlyCounts (.ethFrameReceived p x y m v b at_) s (Reg.ETH_PORT_DROP_filtered p.val) d))) ∧
  (∀ (s : State) (p : Fin 3) (x y : Bool) (m v at_ : Nat) (d : Device), s.portTakes p.val = true → d = s.dev.stamp at_ →
    FrameSound s p.val x y m v d →
    (∀ u f, u.fragmented = true → Does (.ethFrameReceived p x y m v (.fragment u f) at_) s fun e => e = d) ∧
    (∀ u f, u.fragmented = false → s.datagramFor p.val u = false ∨
        ((f.msgType ≠ 0x40 ∨ bitAt f.flags 0 = false) ∧ s.admits p.val u.source f = false) →
      OnlyCounts (.ethFrameReceived p x y m v (.fragment u f) at_) s (Reg.ETH_PORT_DROP_filtered p.val) d) ∧
    (∀ u f, u.fragmented = false → s.datagramFor p.val u = true → (f.msgType ≠ 0x40 ∨ bitAt f.flags 0 = false) →
      s.admits p.val u.source f = true → s.served (ethPath s.mode p u.source) = true → f.offset = 0 → f.data.length = f.length →
      bitAt f.flags 1 = true → f.length ≤ d.fragmentMax p.val → d.proto.reassembly = [] →
      Does (.ethFrameReceived p x y m v (.fragment u f) at_) s fun e =>
        Counts (Reg.ETH_PORT_RX_frames p.val) 1 d e ∧
        e.proto = { d.proto with ready := d.proto.ready ++ [{ path := ethPath s.mode p u.source, msgType := f.msgType, major := f.major
                                                              minor := f.minor, sequence := f.sequence, session := f.session
                                                              payload := f.data }] } ∧
        { e with regs := d.regs, proto := d.proto } = d ∧ RegsBut [Reg.ETH_PORT_RX_frames p.val] d e) ∧
    (∀ b r, (∃ a c, b = .resolve a c ∧ (s.portAddresses p.val).contains c = true ∧
          r = { port := p.val, dest := a, source := c, mac := some (s.portMac p.val), data := [] }) ∨
        (∃ a c data, b = .echo a c data ∧ (s.portAddresses p.val).contains c = true ∧
          r = { port := p.val, dest := a, source := c, mac := none, data }) →
      Does (.ethFrameReceived p x y m v b at_) s fun e =>
        e.proto = { d.proto with replies := r :: d.proto.replies } ∧ Counts (Reg.ETH_PORT_RX_frames p.val) 1 d e ∧
        Counts (Reg.ETH_PORT_TX_frames p.val) 1 d e ∧ { e with regs := d.regs, proto := d.proto } = d ∧
        RegsBut [Reg.ETH_PORT_RX_frames p.val, Reg.ETH_PORT_TX_frames p.val] d e) ∧
    Does (.ethFrameReceived p x y m v (.other true) at_) s (fun e => e = d) ∧
    OnlyCounts (.ethFrameReceived p x y m v (.other false) at_) s (Reg.ETH_PORT_RX_frames p.val) d) ∧
  (∀ (s : State) (p : Fin 3) (cls n : Nat) (h : TxEntry), s.dev.servedClass p.val = some cls → s.dev.headOf p.val cls = some h →
    n = min h.left (s.dev.fragmentMax p.val) →
    SettlesThen (.ethFrameTransmitted p false) s (fun e => e.offerAgain s.mode) fun e =>
      e.proto = { s.dev.proto with
        txq := s.dev.proto.txq.set p.val (dequeue s.dev.emitting cls n (s.dev.sendQueue p.val))
        txLast := s.dev.proto.txLast.set p.val (some { cls, offset := h.sent, bytes := n, last := h.more == 0 && n == h.left }) } ∧
      Counts (Reg.ETH_PORT_TX_frames p.val) 1 s.dev e ∧ { e with regs := s.dev.regs, proto := s.dev.proto } = s.dev ∧
      RegsBut [Reg.ETH_PORT_TX_frames p.val] s.dev e) ∧
  (∀ (s : State) (p : Fin 3), s.dev.servedClass p.val = none → exec (.ethFrameTransmitted p false) s = .next s) ∧
  (∀ (d : Device) (p cls : Nat), d.servedClass p = some cls → d.portSecure p = true ∧ d.gateOpen p cls = true ∧
    (∃ h, d.headOf p cls = some h) ∧ ∀ k, cls < k → k ≤ 7 → d.gateOpen p k = true → d.headOf p k = none) ∧
  (∀ (d : Device) (p cls : Nat) (h : TxEntry), d.headOf p cls = some h →
    h.cls = cls ∧ (d.emitting h = true → d.fragmentMax p ≤ h.left) ∧
    ∃ pre post, d.sendQueue p = pre ++ h :: post ∧ (∀ o ∈ pre, o.cls ≠ cls) ∧ ∀ o ∈ d.sendQueue p, o ∈ d.proto.txq.getD p []) ∧
  (∀ (more : TxEntry → Bool) (cls n : Nat) (h : TxEntry) (rest : List TxEntry),
    (h.cls ≠ cls → dequeue more cls n (h :: rest) = h :: dequeue more cls n rest) ∧
    (h.cls = cls → dequeue more cls n (h :: rest) =
      if n < h.left ∨ more h = true then { h with left := h.left - n, sent := h.sent + n } :: rest else rest)) ∧
  (∀ (s : State) (p : Fin 3), s.dev.gateOpen p.val 7 = true →
    Does (.ethFrameTransmitted p true) s fun e =>
      e.proto = { s.dev.proto with
        txLast := s.dev.proto.txLast.set p.val (some { cls := 7, offset := 0, bytes := 0, last := false }) } ∧
      Counts (Reg.ETH_PORT_TX_frames p.val) 1 s.dev e ∧
      { e with regs := s.dev.regs, proto := s.dev.proto } = s.dev ∧ RegsBut [Reg.ETH_PORT_TX_frames p.val] s.dev e) ∧
  (∀ (s : State) (p : Fin 3), s.dev.gateOpen p.val 7 = false → exec (.ethFrameTransmitted p true) s = .next s) ∧
  (∀ (s : State) (p : Fin 3), s.dev.rdB (Reg.ETH_PORT_CTRL_gate_en p.val) = true →
    s.dev.proto.gate.getD p.val 0 + 1 < s.dev.gateCount p.val →
    Does (.qbvGateChange p) s fun e =>
      e = { s.dev with proto := { s.dev.proto with gate := s.dev.proto.gate.set p.val (s.dev.proto.gate.getD p.val 0 + 1) } }) ∧
  (∀ (s : State) (p : Fin 3), s.portTakes p.val = true → s.dev.portFlag p.val 2 = true →
    Does (.macsecPeerTimeout p) s fun e =>
      e.proto = { s.dev.proto with macsec := s.dev.proto.macsec.set p.val false } ∧
      e.ev = (s.dev.raise Ev.MACSEC_DOWN (fwPayload p.val 5 0)).ev ∧ { e with proto := s.dev.proto, ev := s.dev.ev } = s.dev) ∧
  (∀ (s : State) (session sequence : Nat) (r : Reassembly),
    (s.dev.proto.reassembly.find? fun r => r.hdr.session == session && r.hdr.sequence == sequence) = some r →
    Does (.reassemblyTimeout session sequence) s fun e =>
      e.proto = { s.dev.proto with reassembly := s.dev.proto.reassembly.erase r } ∧ Counts (Reg.ETH_PORT_DROP_reassembly r.port) 1 s.dev e ∧
      { e with proto := s.dev.proto, regs := s.dev.regs } = s.dev ∧ RegsBut [Reg.ETH_PORT_DROP_reassembly r.port] s.dev e)

/-- The mailboxes and the maintenance port. MBX_A_REQ_WR makes a whole request in the ring wait for execution and passes it;
clearing enable closes the mailbox's session; MBX_A_RSP_RD frees room. A maintenance data read or write reaches the buffer at the
address, which moves on by 4; a doorbell with a legal message makes it wait and sets busy; a frame whose CRC fails is counted. Where
the buffer stands in the firmware area is the model's choice (log entry 21). The commands whose completion it states:
APP_MAILBOX_REQUEST, APP_MAILBOX_CFG_WRITE, APP_MAILBOX_RSP_FREED, MAINT_DATA_READ, MAINT_DATA_WRITE, MAINT_DOORBELL. -/
def Obligations.MailboxesAndMaintenancePassRequests : Prop :=
  (∀ (s : State) (m : Fin 4) (w : Word) (base half rd len a : Nat) (head : List Byte), s.served (.app m) = true →
    s.dev.ringOf m.val = (base, half) → rd = s.dev.rd (Reg.MBX_A_REQ_RD_offset m.val) → a = base + rd % half → head = s.dev.bytes a 32 →
    CleanLoad s.dev .headstock a 32 → CleanLoad s.dev .headstock a (32 + len) → rd % half + (32 + len) ≤ half →
    len = fieldOf head 8 4 → hasMagic head = true → len ≤ maxPayload → half ≠ 0 → padded (32 + len) ≤ half →
    (w.toNat + 2 ^ 32 - rd) % 2 ^ 32 = padded (32 + len) → 64 ≤ padded (32 + len) → s.dev.mailboxFull m.val = false →
    Does (.appMailboxRequest m w) s fun e =>
      e.proto = { s.dev.proto with ready := s.dev.proto.ready ++ [requestOf (.app m) (s.dev.bytes a (32 + len))] } ∧
      e.rd (Reg.MBX_A_REQ_WR_offset m.val) = w.toNat ∧ e.rd (Reg.MBX_A_REQ_RD_offset m.val) = (rd + padded (32 + len)) % 2 ^ 32 ∧
      { e with proto := s.dev.proto, regs := s.dev.regs } = s.dev ∧
      RegsBut [Reg.MBX_A_REQ_WR_offset m.val, Reg.MBX_A_REQ_RD_offset m.val] s.dev e) ∧
  (∀ (s : State) (m : Fin 4) (v : Word),
    Does (.appMailboxCfgWrite m v) s fun e =>
      e.rd (Reg.MBX_A_CFG_enable m.val) = bitsOf v.toNat 31 31 ∧ e.rd (Reg.MBX_A_CFG_size_kib m.val) = bitsOf v.toNat 15 0 ∧
      (bitAt v.toNat 31 = true → e.proto = s.dev.proto) ∧
      (bitAt v.toNat 31 = false → (∀ x ∈ e.proto.sessions, x.kind = 2 → x.mailbox ≠ m.val) ∧ (∀ r ∈ e.proto.ready, r.path ≠ .app m) ∧
        (∀ q ∈ e.proto.appPending, q.1 ≠ m.val)) ∧
      { e with proto := s.dev.proto, regs := s.dev.regs } = s.dev ∧
      RegsBut [Reg.MBX_A_CFG_enable m.val, Reg.MBX_A_CFG_size_kib m.val] s.dev e) ∧
  (∀ (s : State) (m : Fin 4) (w : Word), (∀ q ∈ s.dev.proto.appPending, q.1 ≠ m.val) →
    (s.served (.app m) = false ∨ (s.dev.rd (Reg.MBX_A_REQ_WR_offset m.val) + 2 ^ 32 - s.dev.rd (Reg.MBX_A_REQ_RD_offset m.val)) % 2 ^ 32 < 64) →
    Does (.appMailboxRspFreed m w) s fun e =>
      e.rd (Reg.MBX_A_RSP_RD_offset m.val) = w.toNat ∧ { e with regs := s.dev.regs } = s.dev ∧
      RegsBut [Reg.MBX_A_RSP_RD_offset m.val] s.dev e) ∧
  (∀ (s : State) (a : Nat), s.mode ≠ .off → s.dev.boot.maintServed = true → s.dev.rdB Reg.MBX_MAINT_ADDR_HI_physical = false →
    a = s.dev.rd Reg.MBX_MAINT_ADDR_LO_addr * 4 → a < 0x2000000 →
    CleanRead s.dev (s.dev.maintBase s.mode + a) 4 →
    Settles .maintDataRead s (fun e =>
      e.bus.data = s.dev.bytes (s.dev.maintBase s.mode + a) 4 ∧ e.rd Reg.MBX_MAINT_ADDR_LO_addr = (a + 4) / 4 % 2 ^ 30 ∧
      { e with bus := s.dev.bus, regs := s.dev.regs } = s.dev ∧ RegsBut [Reg.MBX_MAINT_ADDR_LO_addr] s.dev e) ∧
    (∀ frame v, maintFrame frame = some (4, v) → fieldOf frame 0 1 = 1 →
      Settles (.maintDataWrite frame) s fun e =>
        e.bytes (s.dev.maintBase s.mode + a) 4 = leBytes 4 v ∧ BytesBut (s.dev.maintBase s.mode + a) 4 s.dev e ∧
        e.rd Reg.MBX_MAINT_ADDR_LO_addr = (a + 4) / 4 % 2 ^ 30 ∧ { e with bus := s.dev.bus, regs := s.dev.regs, mem := s.dev.mem } = s.dev ∧
        RegsBut [Reg.MBX_MAINT_ADDR_LO_addr] s.dev e)) ∧
  (∀ (s : State) (frame head : List Byte) (n : Nat), s.mode ≠ .off → s.mode ≠ .recovery → s.dev.boot.maintServed = true →
    s.dev.rdB Reg.MBX_MAINT_STATUS_busy = false → maintFrame frame = some (5, n) → fieldOf frame 0 1 = 1 →
    head = s.dev.bytes (s.dev.maintBase s.mode) 32 → hasMagic head = true → 32 + fieldOf head 8 4 ≤ n → n ≤ 0x1000000 →
    CleanRead s.dev (s.dev.maintBase s.mode) 32 → CleanRead s.dev (s.dev.maintBase s.mode) (32 + fieldOf head 8 4) →
    Settles (.maintDoorbell frame) s fun e =>
      e.proto = { s.dev.proto with
        ready := s.dev.proto.ready ++ [requestOf .maint (s.dev.bytes (s.dev.maintBase s.mode) (32 + fieldOf head 8 4))] } ∧
      e.rd Reg.MBX_MAINT_STATUS_busy = 1 ∧ e.rd Reg.MBX_MAINT_STATUS_rsp_ready = 0 ∧
      { e with regs := s.dev.regs, proto := s.dev.proto } = s.dev ∧
      RegsBut [Reg.MBX_MAINT_STATUS_busy, Reg.MBX_MAINT_STATUS_rsp_ready] s.dev e) ∧
  (∀ (s : State) (frame : List Byte), s.mode ≠ .off → maintFrame frame = none →
    Settles (.maintDataWrite frame) s fun e =>
      Counts Reg.MBX_MAINT_ERR_crc_errors 1 s.dev e ∧ { e with regs := s.dev.regs } = s.dev ∧ RegsBut [Reg.MBX_MAINT_ERR_crc_errors] s.dev e)

/-- The safety port: a read frame answers the window's words with their CRC; a challenge is answered by its complement; a stop
request of the right value in TURNING makes the turn in progress the job's last and raises SAFETY_STOP, and is otherwise refused by
its status, at once where no request waits and else in the line of the requests (taken up at the alive tick: the model's choice, log
entry 35); a bad frame is ignored and counted, and the turn's end reports how many were (DEDUCED, log entry 35); the alive counter
counts. The commands whose completion it states: SAFETY_READ_FRAME, SAFETY_CHALLENGE, SAFETY_STOP_REQUEST, SAFETY_ALIVE_TICK. -/
def Obligations.SafetyPortAnswersAndStops : Prop :=
  (∀ (s : State) (o n : Nat) (data : List Byte), s.dev.ev.hmRunning = true → 1 ≤ n → n ≤ 64 →
    data = ((List.range n).flatMap fun i => s.windowWord ((o % 4096 / 4 * 4 + 4 * i) % 4096)) →
    Does (.safetyReadFrame o n) s fun e =>
      e = { s.dev with bus := { data := data ++ beBytes 2 (crc16 (leBytes 1 3 ++ beBytes 2 o ++ leBytes 1 n ++ data)) } }) ∧
  (∀ (s : State) (frame : List Byte) (v : Nat), s.dev.hmServes = true → safetyFrame frame = some (0x800, [v]) → v < 2 ^ 32 →
    Does (.safetyChallenge frame) s fun e =>
      e.safety.challenge.toNat = v ∧ e.safety.response.toNat = 2 ^ 32 - 1 - v ∧ e.safety.lastStatus = 0 ∧
      { e with safety := s.dev.safety } = s.dev ∧
      { e.safety with challenge := s.dev.safety.challenge, response := s.dev.safety.response, lastStatus := s.dev.safety.lastStatus } =
        s.dev.safety) ∧
  (∀ (s : State) (frame : List Byte) (v : Nat), s.dev.hmServes = true → safetyFrame frame = some (0x810, [v]) →
    (s.dev.proto.ready = [] → Does (.safetyStopRequest frame) s fun e =>
      e.safety = { s.dev.safety with lastStatus := if v ≠ 0x53544F50 then 1 else if s.mode = .turning then 0 else 2 } ∧
      (v = 0x53544F50 → s.mode = .turning → e.seq = { s.dev.seq with stopping := true } ∧
        e.ev = (s.dev.raise Ev.SAFETY_STOP (fwPayload 0x30 5 0)).ev) ∧
      (v ≠ 0x53544F50 ∨ s.mode ≠ .turning → e.seq = s.dev.seq ∧ e.ev = s.dev.ev) ∧
      { e with safety := s.dev.safety, seq := s.dev.seq, ev := s.dev.ev } = s.dev) ∧
    (s.dev.proto.ready ≠ [] → Does (.safetyStopRequest frame) s fun e =>
      ∃ r, e = { s.dev with proto := { s.dev.proto with ready := s.dev.proto.ready ++ [r] } } ∧ r.path = .safety ∧
        r.payload = leBytes 4 v)) ∧
  (∀ (s : State) (frame : List Byte), s.dev.hmServes = true → safetyFrame frame = none →
    Does (.safetyChallenge frame) s fun e =>
      e.safety = { s.dev.safety with ignored := s.dev.safety.ignored + 1 } ∧ { e with safety := s.dev.safety } = s.dev) ∧
  (∀ (d : Device) (ended : Nat),
    (d.closeHealth ended).safety.ignored = 0 ∧ { (d.closeHealth ended) with safety := d.safety, ev := d.ev } = d ∧
    (d.closeHealth ended).ev = (if d.safety.ignored = 0 then d
      else d.raise Ev.SAFETY_FRAME_ERROR (fwPayload 0x30 5 (min d.safety.ignored 65535))).ev) ∧
  (∀ (s : State) (d : Device), s.dev.hmServes = true →
    d = { s.dev with safety := { s.dev.safety with alive := s.dev.safety.alive + 1 } } →
    (s.dev.serviceUp = false ∨ (∀ r, s.dev.nextReady = some r → r.path ≠ .safety) → exec .safetyAliveTick s = .next { s with dev := d }) ∧
    (∀ r, s.dev.serviceUp = true → s.dev.nextReady = some r → r.path = .safety → fieldOf r.payload 0 4 = 0x53544F50 → s.mode = .turning →
      Does .safetyAliveTick s fun e =>
        e.seq = { s.dev.seq with stopping := true } ∧ e.ev = (s.dev.raise Ev.SAFETY_STOP (fwPayload 0x30 5 0)).ev ∧
        e.proto = { s.dev.proto with ready := s.dev.proto.ready.erase r } ∧ e.safety = { d.safety with lastStatus := 0 } ∧
        { e with seq := d.seq, ev := d.ev, proto := d.proto, safety := d.safety } = d))

/-- MODEL_READ of a source entry while the part starts: a response to an outstanding request brings its bytes and clears it, and
fetching goes on (goFetch); a time-out sends the same request again, of class 1 and with a sequence that is free (log entry 33), and
counts, the eighth raising FETCH_STALLED once; a refused container is fetched again from its start. The commands whose completion it
states: MODEL_READ_TIMEOUT, MODEL_READ_RESPONSE, FETCH_RETRY. -/
def Obligations.FetchesTakeRetryAndRestart : Prop :=
  (∀ (s : State) (k m off len : Nat) (data : List Byte) (f : Fetch), fetching s.mode = true → s.dev.fetchOf k = some f →
    srcModelId (s.dev.source k) = m → (off, len, 0) ∈ f.outstanding → f.got + len < srcLength (s.dev.source k) →
    ∃ d e : Device, exec (.modelReadResponse k m off len data) s = .next { s with dev := e } ∧ e = d.goFetch s.otp ∧
      d.fetchOf k = some { f with
        outstanding := f.outstanding.filter (fun r => !(r.1 == off && r.2.1 == len))
        data := cellsWrite f.data off (sliceOf data 0 len), got := f.got + len } ∧
      (∀ j, j ≠ k → d.fetchOf j = s.dev.fetchOf j) ∧ { d with fetch := s.dev.fetch } = s.dev) ∧
  (∀ (s : State) (k off len n : Nat) (f : Fetch) (stalls : Bool), fetching s.mode = true → s.dev.fetchOf k = some f →
    (f.outstanding.find? fun r => r.1 == off) = some (off, len, n) → stalls = (decide (8 ≤ n + 1) && !f.stalledRaised) →
    Does (.modelReadTimeout k off) s fun e =>
      (∃ g, e.fetchOf k = some g ∧ g.stalledRaised = (f.stalledRaised || stalls) ∧ g.data = f.data ∧ g.got = f.got ∧ g.nextOff = f.nextOff ∧
        (g.outstanding.find? fun r => r.1 == off) = some (off, len, n + 1)) ∧
      (∃ p, p = leBytes 4 k ++ leBytes 4 (srcModelId (s.dev.source k)) ++ leBytes 8 off ++ leBytes 4 len ∧
        e.proto = { s.dev.proto with
          tx := { msgType := 0x40, status := 0, session := 0, sequence := Config.unstated 534 s.dev.freeCtr % 2 ^ 32, push := false
                  payload := p, request := true, sentTo := (s.dev.portFor 2).map fun q => s.dev.destinationOf q 2 } :: s.dev.proto.tx
          txq := match s.dev.portFor 2 with
            | some q => s.dev.proto.txq.set q (s.dev.proto.txq.getD q [] ++ [{ cls := 1, left := 20 }])
            | none => s.dev.proto.txq }) ∧
      e.freeCtr = s.dev.freeCtr + 1 ∧
      RegsBut [Reg.ETH_PORT_TXQ_peak_kib 0, Reg.ETH_PORT_TXQ_peak_kib 1, Reg.ETH_PORT_TXQ_peak_kib 2] s.dev e ∧
      (stalls = false → e.ev = s.dev.ev) ∧
      (stalls = true → e.ev = (s.dev.raise Ev.FETCH_STALLED (fwPayload ((s.dev.portFor 2).getD 0xFF) 5 (k % 2 ^ 16))).ev) ∧
      (∀ j, j ≠ k → e.fetchOf j = s.dev.fetchOf j) ∧
      { e with fetch := s.dev.fetch, proto := s.dev.proto, ev := s.dev.ev, regs := s.dev.regs, freeCtr := s.dev.freeCtr } = s.dev) ∧
  (∀ (s : State) (k : Nat) (f : Fetch), fetching s.mode = true → s.dev.fetchOf k = some f → f.complete = true → f.accepted = false →
    ∃ d e : Device, exec (.fetchRetry k) s = .next { s with dev := e } ∧ e = d.goFetch s.otp ∧
      d.fetchOf k = some { entry := k, stalledRaised := f.stalledRaised } ∧ (∀ j, j ≠ k → d.fetchOf j = s.dev.fetchOf j) ∧
      { d with fetch := s.dev.fetch } = s.dev) ∧
  (∀ (s : State) (k off : Nat), fetching s.mode = false →
    exec (.modelReadTimeout k off) s = .next s ∧ exec (.fetchRetry k) s = .next s)

/-- What the service decides of a request of a session before its type's own rules: not served, held with its mailbox, or not yet its
turn in the line of complete requests; refused by state, session or version, repeated, discarded when it is older than the latest,
and executed otherwise, with ROLE or STATE as its status where role or state do not allow it. Those answers change nothing but the
service's own messages. The order of these checks is the model's reading of 16 R537 to R542 (DEDUCED, log entry 13). -/
def Obligations.RequestsAreCheckedInOrder : Prop :=
  (∀ (s : State) (h : ReqHdr) (roles : List Nat) (allowed : Mode → Bool), s.takes h = false →
    s.service h roles allowed = .ignored) ∧
  (∀ (s : State) (h : ReqHdr), s.takes h = true ↔ s.served h.path = true ∧ s.dev.holds h.path = false ∧
    ∀ r, s.dev.nextReady = some r → r.path = h.path ∧ r.sequence = h.sequence ∧ r.session = h.session) ∧
  (∀ (d : Device) (r : Request), d.nextReady = some r →
    ∃ pre post, d.proto.ready = pre ++ r :: post ∧ d.holds r.path = false ∧ ∀ q ∈ pre, d.holds q.path = true) ∧
  (∀ (s : State) (h : ReqHdr) (roles : List Nat) (allowed : Mode → Bool), s.takes h = true →
    ((s.mode = .recovery ∨ s.dev.life = 0) → s.service h roles allowed = .refused 3) ∧
    (s.mode ≠ .recovery → s.dev.life ≠ 0 →
      (s.dev.sessionOf h = none → s.service h roles allowed = .refused 9) ∧
      (∀ x, s.dev.sessionOf h = some x →
        (h.major ≠ 1 → s.service h roles allowed = .refused 1) ∧
        (h.major = 1 →
          (x.lastSeq = some h.sequence → s.service h roles allowed = .again x) ∧
          (∀ n, x.lastSeq = some n → h.sequence < n → s.service h roles allowed = .discarded) ∧
          ((∀ n, x.lastSeq = some n → n < h.sequence) → s.service h roles allowed =
            .run (if roles.contains x.role = false then 2 else if allowed s.mode = false then 3 else 0)))))) ∧
  (∀ (s : State) (h : ReqHdr), s.service h roleAll anyState = .ignored → exec (.keepalive h) s = .next s) ∧
  (∀ (s : State) (h : ReqHdr), s.service h roleAll anyState = .discarded →
    Does (.keepalive h) s fun e =>
      e.proto = (s.dev.takeReady h).proto ∧ { e with proto := s.dev.proto, regs := s.dev.regs } = s.dev ∧
      RegsBut [Reg.MBX_MAINT_STATUS_busy] s.dev e ∧ (h.path = .maint → e.rd Reg.MBX_MAINT_STATUS_busy = 0) ∧
      (pathKind h.path = 0 ∨ pathKind h.path = 2 → e.regs = s.dev.regs)) ∧
  (∀ (s : State) (h : ReqHdr) (st : Nat), s.service h roleAll anyState = .refused st →
    Does (.keepalive h) s fun e => Replied h 3 st [] s.dev e ∧ e.proto.sessions = s.dev.proto.sessions) ∧
  (∀ (s : State) (h : ReqHdr) (x : Session), s.service h roleAll anyState = .again x →
    Does (.keepalive h) s fun e => Replied h x.cachedType x.cachedStatus x.cached s.dev e ∧ e.proto.sessions = s.dev.proto.sessions) ∧
  (∀ (s : State) (h : ReqHdr) (st : Nat), s.service h roleM (fun m => m == .turning) = .run st → st ≠ 0 →
    Answers (.stop h) s h 0x12 st [] fun d => d = s.dev)

/-- The session messages: OPEN from a listed host draws a session for its role and tells its terms, an unlisted address is refused
unanswered; CLOSE ends the session; KEEPALIVE, STATUS, EVENT_READ, EVENT_SUBSCRIBE and an unknown type are answered. A session that
is idle too long ends with SESSION_EXPIRED. That an OPEN over the maintenance port replaces the session before it is the model's
choice (log entry 33). The commands whose completion it states: OPEN, UNKNOWN_TYPE, CLOSE, KEEPALIVE, STATUS, EVENT_READ,
EVENT_SUBSCRIBE, SESSION_IDLE_TIMEOUT. -/
def Obligations.SessionsOpenAnswerAndClose : Prop :=
  (∀ (s : State) (h : ReqHdr) (p : Fin 3) (a lo hi mm role roles : Nat), h.path = .eth p a → s.takes h = true → s.mode ≠ .recovery →
    s.dev.life ≠ 0 → s.dev.hostRoles a = some roles → lo ≤ 1 → 1 ≤ hi → s.dev.ethSessions.length < 8 →
    ((role = 1 ∧ bitAt roles 0 = true ∧ ∀ x ∈ s.dev.ethSessions, x.role ≠ 1) ∨ (role = 2 ∧ bitAt roles 1 = true)) →
    Does (.openSession h lo hi mm role) s fun e =>
      ∃ x, e.proto.sessions = s.dev.proto.sessions ++ [x] ∧ x.kind = 0 ∧ x.port = p.val ∧ x.address = a ∧ x.role = role ∧
        x.lastSeq = none ∧ x.subscribe = none ∧
        e.proto.tx = { msgType := 1, status := 0, session := x.id, sequence := h.sequence, push := false
                       payload := leBytes 1 1 ++ leBytes 1 0 ++ leBytes 1 role ++ leBytes 1 0 ++ leBytes 4 10000 ++ leBytes 2 0x3280 ++
                         leBytes 2 s.dev.self ++ leBytes 4 1048640 } :: s.dev.proto.tx ∧
        e.proto.txq = s.dev.proto.txq.set p.val (s.dev.proto.txq.getD p.val [] ++ [{ cls := 5, left := 16 }]) ∧
        e.proto.ready = (s.dev.takeReady h).proto.ready ∧
        { e.proto with tx := s.dev.proto.tx, sessions := s.dev.proto.sessions, ready := s.dev.proto.ready, txq := s.dev.proto.txq } =
          s.dev.proto ∧
        { e with proto := s.dev.proto, freeCtr := s.dev.freeCtr, regs := s.dev.regs } = s.dev ∧
        RegsBut [Reg.ETH_PORT_TXQ_peak_kib p.val] s.dev e) ∧
  (∀ (s : State) (h : ReqHdr) (p : Fin 3) (a lo hi mm role : Nat), h.path = .eth p a → s.takes h = true → s.mode ≠ .recovery →
    s.dev.life ≠ 0 → s.dev.hostRoles a = none →
    Does (.openSession h lo hi mm role) s fun e =>
      Counts Reg.ETH_SESSIONS_refused 1 s.dev e ∧ e.ev = (s.dev.raise Ev.SESSION_REFUSED (fwPayload p.val 5 (a / 2 ^ 96 % 2 ^ 32))).ev ∧
      e.proto = (s.dev.takeReady h).proto ∧ { e with proto := s.dev.proto, regs := s.dev.regs, ev := s.dev.ev } = s.dev ∧
      RegsBut [Reg.ETH_SESSIONS_refused] s.dev e) ∧
  (∀ (s : State) (h : ReqHdr) (type : Nat), s.takes h = true → (s.mode = .recovery ∨ s.dev.life = 0) →
    Does (.unknownType h type) s fun e => Replied h type 8 [] s.dev e ∧ e.proto.sessions = s.dev.proto.sessions) ∧
  (∀ (s : State) (h : ReqHdr) (lo hi mm role : Nat), h.path = .maint → s.takes h = true → s.mode ≠ .recovery →
    s.dev.life ≠ 0 → lo ≤ 1 → 1 ≤ hi →
    Does (.openSession h lo hi mm role) s fun e =>
      ∃ x, e.proto.sessions = (s.dev.proto.sessions.filter fun y => !(y.kind == 1 && y.mailbox == 0)) ++ [x] ∧ x.kind = 1 ∧ x.role = 1 ∧
        x.lastSeq = none) ∧
  (∀ (s : State) (h : ReqHdr), s.service h roleAll anyState = .run 0 →
    Does (.closeSession h) s (fun e => Replied h 2 0 [] s.dev e ∧
      e.proto.sessions = s.dev.proto.sessions.filter fun x => !(x.id == h.session && x.kind == pathKind h.path)) ∧
    Answers (.keepalive h) s h 3 0 [] (fun d => d = s.dev) ∧
    Answers (.status h) s h 0x10 0
      (leBytes 1 (stateCode s.mode) ++ leBytes 1 (lockCode s.dev.sp.lock) ++ leBytes 2 s.dev.self ++ leBytes 4 s.dev.turn ++
        leBytes 2 s.dev.index ++ leBytes 1 s.dev.upd.state ++ leBytes 1 0 ++ leBytes 8 s.dev.planId ++
        leBytes 4 (s.dev.rd Reg.HS_STATUS_start_ms) ++ leBytes 8 s.dev.ev.written) (fun d => d = s.dev) ∧
    (∀ first count, 1 ≤ count → count ≤ 1024 →
      Answers (.eventRead h first count) s h 0x20 0 (s.dev.ev.readPayload first count) fun d => d = s.dev) ∧
    (∀ first count, count = 0 ∨ 1024 < count → Answers (.eventRead h first count) s h 0x20 4 [] fun d => d = s.dev) ∧
    (∀ n x, s.dev.sessionOf h = some x → n ≤ 4 →
      Answers (.eventSubscribe h n) s h 0x21 0 [] fun d => d = s.dev.setSession { x with subscribe := some n }) ∧
    (∀ x, s.dev.sessionOf h = some x →
      Answers (.eventSubscribe h 0xFF) s h 0x21 0 [] fun d => d = s.dev.setSession { x with subscribe := none }) ∧
    (∀ type, Answers (.unknownType h type) s h type 8 [] fun d => d = s.dev)) ∧
  (∀ (s : State) (k : Nat) (x : Session), (s.dev.proto.sessions.find? fun x => x.id == k) = some x →
    Does (.sessionIdleTimeout k) s fun e =>
      e.proto = { s.dev.proto with sessions := s.dev.proto.sessions.filter fun y => !(y.id == k && y.kind == x.kind) } ∧
      e.ev = (s.dev.raise Ev.SESSION_EXPIRED (fwPayload (if x.kind = 1 then 0x20 else if x.kind = 2 then 0x10 + x.mailbox else x.port) 5 0)).ev ∧
      { e with proto := s.dev.proto, ev := s.dev.ev } = s.dev)

/-- The job messages. A START is taken where no channel is offline and no rail is lost; once the constants are written it is
accepted, and TURNING begins with the first turn answered, or it is refused with its result. STOP makes the turn in progress the
last. A restart is answered and then carried out, a warm one as a cold one after flash has been written or the lifecycle has moved.
(That TURNING begins at the acceptance is the model's choice, log entry 49; how the answers and results of starts and the refusals of
a replay stand to each other is its reading, DEDUCED, log entries 50 and 54.) REPLAY_START with a sound record, a staged candidate
and set that pass 11 R374 begins a replay in its first turn and answers 0; a bad record is FORMAT, and what is missing is refused
with its reason and VID_RPL_REFUSED. REPLAY_STOP lets the replay end. The commands whose completion it states: START,
CONSTANTS_WRITTEN, STOP, RESTART_WARM, RESTART_COLD, REPLAY_START, REPLAY_STOP. -/
def Obligations.StartsStopsAndRestartsAreAnswered : Prop :=
  (∀ (s : State) (h : ReqHdr) (w : Word) (u : Bool), s.service h roleM inReadyParked = .run 0 → s.dev.seq.starting = none →
    s.dev.rd Reg.MEM_STATUS_offline = 0 → s.dev.pwr.startBlocked = false →
    Does (.start h w u) s fun e =>
      e.seq = { s.dev.seq with starting := some h } ∧ e.rd Reg.SP_START_TURN_start_turn = w.toNat ∧
      e.rd Reg.SP_START_LEAD_use_start_turn = b2n u ∧ e.proto = (s.dev.takeReady h).proto ∧
      { e with seq := s.dev.seq, proto := s.dev.proto, regs := s.dev.regs } = s.dev ∧
      RegsBut [Reg.SP_START_TURN_start_turn, Reg.SP_START_LEAD_use_start_turn] s.dev e) ∧
  (∀ (s : State) (h : ReqHdr) (w : Word) (u : Bool), s.service h roleM inReadyParked = .run 0 → s.dev.seq.starting = none →
    s.dev.rd Reg.MEM_STATUS_offline ≠ 0 →
    Answers (.start h w u) s h 0x11 7 (leBytes 1 4 ++ leBytes 3 0 ++ leBytes 4 0) fun d =>
      d.rd Reg.SP_START_TURN_start_turn = w.toNat ∧ d.rd Reg.SP_START_LEAD_use_start_turn = b2n u ∧ { d with regs := s.dev.regs } = s.dev ∧
      RegsBut [Reg.SP_START_TURN_start_turn, Reg.SP_START_LEAD_use_start_turn] s.dev d) ∧
  (∀ (s : State) (h : ReqHdr) (d : Device), s.dev.seq.starting = some h → (s.mode = .ready ∨ s.mode = .parked) →
    d = s.dev.writeConstants s.mode → d.startResult = 0 →
    Completes .constantsWritten s fun t =>
      t.mode = .turning ∧ t.otp = s.otp ∧ Responds h 0x11 0 (leBytes 1 0 ++ leBytes 3 0 ++ leBytes 4 d.firstTurn) t.dev ∧
      t.dev.seq.jobFirst = some d.firstTurn ∧ t.dev.seq.starting = none ∧ t.dev.seq.fallbackActive = false ∧ t.dev.fo.degraded = false ∧
      t.dev.fo.lost = false ∧ t.dev.join.redirects = [] ∧ t.dev.seq.stopping = false) ∧
  (∀ (s : State) (h : ReqHdr) (b : Device), s.dev.seq.starting = some h → (s.mode = .ready ∨ s.mode = .parked) →
    b = s.dev.writeConstants s.mode → 1 ≤ b.startResult → b.startResult ≤ 3 →
    Does .constantsWritten s fun e =>
      Responds h 0x11 7 (leBytes 1 b.startResult ++ leBytes 3 0 ++ leBytes 4 0) e ∧ e.seq = { b.seq with starting := none } ∧
      (pathKind h.path ≠ 2 → e.ev = (b.raise Ev.START_REFUSED b.startResult).ev ∧ e.mem = b.mem)) ∧
  (∀ (d : Device) (md : Mode) (p : Plan) (c : CoreConst), d.seq.plan = some p → p.constants = [c] →
    d.badCodewords (coreMemBase c.core + c.offset) c.data.length = [] →
    d.writeConstants md = d.poke (coreMemBase c.core + c.offset) c.data) ∧
  (∀ (s : State) (h : ReqHdr), s.service h roleM (fun m => m == .turning) = .run 0 →
    Answers (.stop h) s h 0x12 0 (leBytes 4 s.dev.turn) fun d => d = { s.dev with seq := { s.dev.seq with stopping := true } }) ∧
  (∀ (s : State) (h : ReqHdr), s.service h roleM inRestart = .run 0 →
    Completes (.restartWarm h) s (fun t => t.otp = s.otp ∧
      t.mode = (if s.dev.boot.retained.any (·.pending) = true ∨ s.dev.life ≠ lifecycleCode s.otp.lifecycle then .coldStart else .warmStart) ∧
      Responds h 0x13 0 [] t.dev ∧ t.dev.proto.sessions = [] ∧ t.dev.boot.flash = s.dev.boot.flash ∧
      t.dev.boot.firmwareUp = false ∧ t.dev.pins.safeAlert = true) ∧
    Completes (.restartCold h) s (fun t => t.mode = .coldStart ∧ t.otp = s.otp ∧ Responds h 0x13 0 [] t.dev ∧
      t.dev.proto.sessions = [] ∧ t.dev.boot.flash = s.dev.boot.flash ∧ t.dev.sp.counting = false ∧
      t.dev.boot.firmwareUp = false ∧ t.dev.pins.safeAlert = true)) ∧
  (∀ (s : State) (h : ReqHdr) (v head : List Byte) (x y : Staged) (bs : List Byte) (b d : Device), s.service h roleM inParked = .run 0 →
    recordOk v = true → s.dev.stagedOf 4 = some x → s.dev.stagedOf 6 = some y →
    ((s.dev.takeReady h).writeRecordRegs v y.neOffset).readStaged s.mode x = (bs, b) →
    b.replayReason s.mode (containerPayload bs) ((s.dev.area 0).1 + y.neOffset) = (0, head, d) →
    ∃ t, exec (.replayStart h v) s = .next (settled t t.dev) ∧ t.mode = .replay ∧ t.otp = s.otp ∧ Responds h 0x53 0 [0] t.dev ∧
      t.dev.seq.jobFirst = some d.firstTurn ∧ t.dev.upd.state = 3 ∧ t.dev.seq.savedPlan = s.dev.seq.plan ∧
      t.dev.vid.replay.skipLimit = fieldOf v 8 4 ∧ t.dev.vid.replay.latenessLimit = fieldOf v 4 2) ∧
  (∀ (s : State) (h : ReqHdr) (v : List Byte), s.service h roleM inParked = .run 0 → recordOk v = false → s.dev.fo.pendingCause = none →
    pathKind h.path ≠ 2 →
    Answers (.replayStart h v) s h 0x53 4 [] fun d => d = s.dev) ∧
  (∀ (s : State) (h : ReqHdr) (v : List Byte), s.service h roleM inParked = .run 0 → recordOk v = true → s.dev.fo.pendingCause = none →
    s.dev.stagedOf 4 = none → pathKind h.path ≠ 2 →
    Answers (.replayStart h v) s h 0x53 7 [1] fun d => d = s.dev.raise Ev.VID_RPL_REFUSED (0xFF + 1 * 2 ^ 32)) ∧
  (∀ (s : State) (h : ReqHdr), s.service h roleM (fun m => m == .replay) = .run 0 →
    Answers (.replayStop h) s h 0x54 0 [] fun d =>
      { d with regs := s.dev.regs } = s.dev.setReplay (fun r => { r with ending := true }) ∧ RegsBut [Reg.VID_STATUS_replay] s.dev d ∧
      d.rd Reg.VID_STATUS_replay = (if s.dev.rd Reg.VID_STATUS_replay = 2 then 3 else s.dev.rd Reg.VID_STATUS_replay))

/-- The update messages in PARKED: BEGIN stages an object under a new handle in place of the same one before; DATA within its length
joins it, in the firmware area for kinds 1 to 4 (stagedBase: where is the model's choice, log entry 21), in the NE area for a replay
set; END judges it, keeps or discards it and reports, a container that fails 15 R485 as one too, and puts a model in its place;
DISCARD clears the staged update; STATUS tells its state; ACCEPT writes a newer firmware image into the slot that is not booted, or a
newer faceplate into the copy that is not used, and clears the update, and refuses an older one; a validated plan is offered, and
activated or refused with the check's reason. How END reports and keeps or discards an object, and where ACCEPT writes, are the
model's reading (DEDUCED, log entry 34). The commands whose completion it states: UPDATE_BEGIN, UPDATE_DATA, UPDATE_END,
UPDATE_DISCARD, UPDATE_ACCEPT, UPDATE_STATUS. -/
def Obligations.UpdatesStageJudgeAndAccept : Prop :=
  ∀ (s : State) (h : ReqHdr), s.service h roleM inParked = .run 0 →
    (∀ kind model len off digest, 1 ≤ kind → kind ≤ 6 → digest.length = 64 → s.dev.noSpace kind model off len = false →
      Answers (.updateBegin h kind model len off digest) s h 0x50 0 (leBytes 4 s.dev.upd.nextHandle) fun d =>
        d.upd.objects = (s.dev.upd.objects.filter fun y => !sameObject kind model y) ++
          [{ handle := s.dev.upd.nextHandle, kind, modelId := model, length := len, neOffset := off, digest }] ∧
        d.upd.nextHandle = s.dev.upd.nextHandle + 1 ∧ d.upd.state = (if s.dev.upd.state = 4 ∨ s.dev.upd.state = 5 then s.dev.upd.state else 1) ∧
        { d with upd := s.dev.upd } = s.dev) ∧
    (∀ kind model len off digest, kind = 0 ∨ 6 < kind ∨ digest.length ≠ 64 →
      Answers (.updateBegin h kind model len off digest) s h 0x50 4 [] fun d => d = s.dev) ∧
    (∀ kind model len off digest, 1 ≤ kind → kind ≤ 6 → digest.length = 64 → s.dev.noSpace kind model off len = true →
      Answers (.updateBegin h kind model len off digest) s h 0x50 6 [] fun d => d = s.dev) ∧
    (∀ k off data x, (s.dev.upd.objects.find? fun x => x.handle == k && !x.ended) = some x → off + data.length ≤ x.length → x.kind = 5 →
      Answers (.updateData h k off data) s h 0x51 0 [] fun d =>
        d = { s.dev with upd := { s.dev.upd with objects := s.dev.upd.objects.map fun z =>
          if z.handle = k then { x with data := cellsWrite x.data off data } else z } }) ∧
    (∀ k off data x a, (s.dev.upd.objects.find? fun x => x.handle == k && !x.ended) = some x → off + data.length ≤ x.length → x.kind ≠ 5 →
      a = (if x.kind = 6 then (s.dev.area 0).1 + x.neOffset else s.dev.stagedBase x.kind) + off → s.dev.badCodewords a data.length = [] →
      Answers (.updateData h k off data) s h 0x51 0 [] fun d => d = s.dev.poke a data) ∧
    (∀ k off data, ((s.dev.upd.objects.find? fun x => x.handle == k && !x.ended) = none ∨
        ∃ x, (s.dev.upd.objects.find? fun x => x.handle == k && !x.ended) = some x ∧ x.length < off + data.length) →
      Answers (.updateData h k off data) s h 0x51 4 [] fun d => d = s.dev) ∧
    (∀ k x r bs, (s.dev.upd.objects.find? fun x => x.handle == k && !x.ended) = some x → StagedBytes s.dev x bs →
      r = s.dev.stagedReason s.otp x bs →
      (r ≠ 0 ∨ x.kind ≠ 5 ∨ s.dev.badCodewords ((s.dev.area 0).1 + x.neOffset) (containerPayload bs).length = []) →
      Answers (.updateEnd h k) s h 0x52 (if r = 0 then 0 else 7) (leBytes 1 r) fun d =>
        (r = 0 → d.upd.objects = (s.dev.upd.objects.map fun z => if z.handle = k then { z with ended := true } else z) ∧
          d.ev = (s.dev.raise Ev.UPDATE_STAGED (fwPayload 0xFF 7 x.kind)).ev) ∧
        (r ≠ 0 → d.upd.objects = (s.dev.upd.objects.filter fun z => z.handle != k) ∧
          d.ev = ((if r ≤ 10 then s.dev.raise Ev.CONTAINER_REJECTED (r + stagedType x.kind * 2 ^ 8 + x.modelId * 2 ^ 16) else s.dev).raise
            Ev.UPDATE_REFUSED (fwPayload 0xFF 7 (x.kind + r * 256))).ev) ∧
        d.mem = (if r = 0 ∧ x.kind = 5 then (s.dev.poke ((s.dev.area 0).1 + x.neOffset) (containerPayload bs)).mem else s.dev.mem) ∧
        { d with upd := s.dev.upd, ev := s.dev.ev, mem := s.dev.mem } = s.dev) ∧
    Answers (.updateDiscard h) s h 0x56 0 [] (fun d => d = { s.dev with upd := { s.dev.upd with objects := [], state := 0 } }) ∧
    (s.dev.stagedOf 3 = none → s.dev.stagedOf 5 = none →
      (s.dev.stagedOf 1 = none → s.dev.stagedOf 2 = none → Answers (.updateAccept h) s h 0x55 0 [] fun d =>
        d.upd = { s.dev.upd with objects := [], state := 0 } ∧ d.ev = (s.dev.raise Ev.UPDATE_ACCEPTED (fwPayload 0xFF 7 0)).ev ∧
        { d with upd := s.dev.upd, ev := s.dev.ev } = s.dev) ∧
      (∀ x bs, s.dev.stagedOf 1 = some x → s.dev.stagedOf 2 = none → StagedBytes s.dev x bs → s.dev.bootSeq < cSeq bs →
        Answers (.updateAccept h) s h 0x55 0 [] fun d =>
          d.boot = { s.dev.boot with
            retained := s.dev.boot.retained.map fun r => Retained.seal { r with pendingImage := true }
            flash := flashWrite s.dev.boot.flash (slotBase (1 - s.dev.rd Reg.HS_STATUS_boot_slot)) (bs.take slotSize) } ∧
          d.upd = { s.dev.upd with objects := [], state := 0 } ∧ d.ev = (s.dev.raise Ev.UPDATE_ACCEPTED (fwPayload 0xFF 7 2)).ev ∧
          { d with upd := s.dev.upd, ev := s.dev.ev, boot := s.dev.boot } = s.dev) ∧
      (∀ y bs, s.dev.stagedOf 1 = none → s.dev.stagedOf 2 = some y → StagedBytes s.dev y bs → s.dev.rd Reg.HS_FP_SEQ_seq < cSeq bs →
        Answers (.updateAccept h) s h 0x55 0 [] fun d =>
          d.boot = { s.dev.boot with
            retained := s.dev.boot.retained.map fun r => Retained.seal { r with pendingFace := true }
            flash := flashWrite s.dev.boot.flash (copyBase (1 - s.dev.rd Reg.HS_FACEPLATE_copy_used)) (bs.take copySize) } ∧
          d.upd = { s.dev.upd with objects := [], state := 0 } ∧ d.ev = (s.dev.raise Ev.UPDATE_ACCEPTED (fwPayload 0xFF 7 4)).ev ∧
          { d with upd := s.dev.upd, ev := s.dev.ev, boot := s.dev.boot } = s.dev) ∧
      (∀ y bs, s.dev.stagedOf 1 = none → s.dev.stagedOf 2 = some y → StagedBytes s.dev y bs → cSeq bs ≤ s.dev.rd Reg.HS_FP_SEQ_seq →
        Answers (.updateAccept h) s h 0x55 7 [2] fun d => d = s.dev.raise Ev.UPDATE_SEQ_REFUSED (0xA + 5 * 256)) ∧
      (∀ x bs, s.dev.stagedOf 1 = some x → StagedBytes s.dev x bs → cSeq bs ≤ s.dev.bootSeq →
        Answers (.updateAccept h) s h 0x55 7 [2] fun d => d = s.dev.raise Ev.UPDATE_SEQ_REFUSED (0xA + 1 * 256))) ∧
    ((s.dev.stagedOf 3).isSome = true ∨ (s.dev.stagedOf 5).isSome = true → s.dev.upd.state ≠ 4 →
      Answers (.updateAccept h) s h 0x55 7 [1] fun d => d = s.dev) ∧
    (∀ x b c bs, s.dev.stagedOf 1 = none → s.dev.stagedOf 2 = none → s.dev.stagedOf 3 = some x → s.dev.upd.state = 4 →
      (s.dev.takeReady h).readStaged s.mode x = (bs, c) →
      (c.offerPlan s.mode { replay := false } true (containerPayload bs) (cDigest bs) = (none, b) → b.badCodewords b.planBase bs.length = [] →
        Answers (.updateAccept h) s h 0x55 0 [] fun d =>
          d.seq = b.seq ∧ d.regs = b.regs ∧ d.mem = (b.poke b.planBase bs).mem ∧ d.upd = { b.upd with objects := [], state := 0 } ∧
          d.boot = { b.boot with retained := b.boot.retained.map fun (r : Retained) => Retained.seal { r with planDigest := cDigest bs } }) ∧
      (∀ r, c.offerPlan s.mode { replay := false } true (containerPayload bs) (cDigest bs) = (some r, b) →
        Answers (.updateAccept h) s h 0x55 7 ([3] ++ leBytes 1 r.1) fun d => d = { b with proto := s.dev.proto })) ∧
    Answers (.updateStatus h) s h 0x57 0 s.dev.upd.payload fun d => d = s.dev

/-- Security: NONCE and QUOTE answer the current nonce and the signed quote; a security request that passes 15 R498 takes effect (a
key revoked, the lifecycle moved, debug opened) and one that fails is refused with its reason; an authorisation opens the
perturbation facility or is refused. After either check a new nonce is drawn (a free value). The commands whose completion it
states: NONCE, QUOTE, SECURITY_REQUEST, PERT_AUTHORISE. -/
def Obligations.SecurityRequestsTakeEffectOrAreRefused : Prop :=
  (∀ (s : State) (h : ReqHdr), s.service h roleMO anyState = .run 0 →
    Answers (.nonce h) s h 0x60 0 (leBytes 8 s.dev.boot.nonce.toNat) fun d => d = s.dev) ∧
  (∀ (s : State) (h : ReqHdr) (n body : List Byte), s.service h roleAll fromReady = .run 0 → n.length = 32 →
    body = s.dev.quoteBody s.otp n →
    Answers (.quote h n) s h 0x61 0 (body ++ sliceOf (Config.slhSign (s.dev.identitySeeds s.otp) body) 0 49856) fun d => d = s.dev) ∧
  (∀ (s : State) (h : ReqHdr) (r : List Byte) (why : Nat), s.service h roleM inReadyParked = .run 0 →
    why = s.dev.requestReason s.otp s.mode r → why ≠ 0 →
    Answers (.securityRequest h r) s h 0x62 7 (leBytes 1 why) fun d =>
      d.boot = { s.dev.boot with nonce := Config.draw s.dev.freeCtr } ∧ d.ev = (s.dev.raise Ev.REQUEST_REJECTED why).ev ∧
      d.freeCtr = s.dev.freeCtr + 1 ∧ { d with boot := s.dev.boot, ev := s.dev.ev, regs := s.dev.regs, freeCtr := s.dev.freeCtr } = s.dev ∧
      RegsBut [Reg.HS_NONCE_LO_nonce, Reg.HS_NONCE_HI_nonce, Reg.PERT_NONCE_LO_nonce, Reg.PERT_NONCE_HI_nonce] s.dev d) ∧
  (∀ (s : State) (h : ReqHdr) (r : List Byte), s.service h roleM inReadyParked = .run 0 → s.dev.requestReason s.otp s.mode r = 0 →
    Completes (.securityRequest h r) s fun t =>
      t.mode = s.mode ∧ Responds h 0x62 0 [0] t.dev ∧ t.dev.boot.nonce = Config.draw s.dev.freeCtr ∧
      (fieldOf r 5 1 = 1 → t.otp = s.otp.revoke (fieldOf r 16 1) (fieldOf r 17 1)) ∧
      (fieldOf r 5 1 = 2 → t.otp.lifecycle = (if fieldOf r 18 1 = 2 then .production else .returned) ∧
        t.otp = { s.otp with lifecycle := t.otp.lifecycle }) ∧
      (fieldOf r 5 1 = 3 → t.otp = s.otp ∧ t.dev.boot.debugOpen = true)) ∧
  (∀ (s : State) (h : ReqHdr) (r : List Byte), s.service h roleM inReadyParked = .run 0 → s.dev.authReason s.otp s.mode r = 0 →
    Does (.pertAuthorise h r) s fun e =>
      Responds h 0x63 0 [0] e ∧ e.pertIsOpen = true ∧ e.rd Reg.PERT_STATUS_open_by = 2 ∧
      e.rd Reg.PERT_STATUS_kinds = fieldOf r 6 2 % 2 ^ Reg.PERT_STATUS_kinds.width ∧ e.rd Reg.PERT_JOBS_LEFT_jobs = fieldOf r 16 2 ∧
      e.rd Reg.HS_STATUS_pert_open = 1 ∧ e.boot.nonce = Config.draw s.dev.freeCtr) ∧
  (∀ (s : State) (h : ReqHdr) (r : List Byte) (why : Nat), s.service h roleM inReadyParked = .run 0 →
    why = s.dev.authReason s.otp s.mode r → why ≠ 0 →
    Answers (.pertAuthorise h r) s h 0x63 7 (leBytes 1 why) fun d =>
      d.boot = { s.dev.boot with nonce := Config.draw s.dev.freeCtr } ∧ d.ev = (s.dev.raise Ev.PERT_AUTH_REJECTED why).ev ∧
      { d with boot := s.dev.boot, ev := s.dev.ev, regs := s.dev.regs, freeCtr := s.dev.freeCtr } = s.dev)

/-- Provisioning in BLANK over the maintenance port: a key goes into an absent owner slot and no other place, a present slot is
refused; with a key present the lifecycle becomes DEVELOPMENT. The recovery exchange in RECOVERY: status, data kept in memory, and a
commit that writes a valid image into a slot with a non-zero verdict, or a valid faceplate for one that is missing, as many bytes as it
names, and enters COLD_START, and refuses any other with its reason. The commands whose completion it states:
PROVISION_KEY, RECOVERY_STATUS, RECOVERY_WRITE, RECOVERY_COMMIT, PROVISION_LIFECYCLE. -/
def Obligations.ProvisioningAndRecoveryWriteOnce : Prop :=
  (∀ (s : State) (h : ReqHdr) (k : Nat) (key : List Byte), h.path = .maint → s.takes h = true → s.dev.life = 0 → s.mode = .coldStart →
    k < 4 → key.length = 64 → s.otp.present 1 k = false →
    ∃ d e, exec (.provisionKey h k key) s = .next { s with otp := { s.otp with owner := s.otp.owner.set k key }, dev := e } ∧
      Replied h 0xE0 0 [] d e ∧ { d with regs := s.dev.regs, boot := s.dev.boot } = s.dev ∧
      RegsBut [Reg.HS_KEY_STATUS_owner_revoked, Reg.HS_KEY_STATUS_owner_present, Reg.HS_KEY_STATUS_vendor_revoked,
        Reg.HS_KEY_STATUS_vendor_present] s.dev d) ∧
  (∀ (s : State) (h : ReqHdr) (k : Nat) (key : List Byte), h.path = .maint → s.takes h = true → s.dev.life = 0 → s.mode = .coldStart →
    k < 4 → key.length = 64 → s.otp.present 1 k = true →
    Does (.provisionKey h k key) s fun e => Replied h 0xE0 7 [] s.dev e) ∧
  (∀ (s : State) (h : ReqHdr), h.path = .maint → s.takes h = true → s.dev.life = 0 → s.mode = .coldStart →
    s.otp.lifecycle = .blank → s.otp.presentBits 1 ≠ 0 →
    ∃ d e, exec (.provisionLifecycle h) s = .next { s with otp := { s.otp with lifecycle := .development }, dev := e } ∧
      Replied h 0xE1 0 [] d e ∧ d = s.dev.raise Ev.LIFECYCLE_CHANGED (1 * 256)) ∧
  (∀ (s : State) (h : ReqHdr), s.takes h = true → s.mode = .recovery →
    Does (.recoveryStatus h) s (fun e => Replied h 0xF0 0
      (leBytes 1 (s.dev.rd Reg.HS_STATUS_recovery_reason) ++ leBytes 1 (s.dev.rd Reg.HS_SLOT_STATUS_a_reason) ++
        leBytes 1 (s.dev.rd Reg.HS_SLOT_STATUS_b_reason) ++ leBytes 1 (s.dev.rd Reg.HS_FACEPLATE_copy0_reason) ++
        leBytes 1 (s.dev.rd Reg.HS_FACEPLATE_copy1_reason) ++ leBytes 11 0 ++ s.dev.ev.held.flatMap EventRec.bytes) s.dev e) ∧
    (∀ off data, off + data.length ≤ slotSize → Does (.recoveryWrite h 1 off data) s fun e => Replied h 0xF1 0 []
      { s.dev with boot := { s.dev.boot with recoverySlot := cellsWrite s.dev.boot.recoverySlot off data } } e) ∧
    (∀ off data, off + data.length ≤ copySize → Does (.recoveryWrite h 2 off data) s fun e => Replied h 0xF1 0 []
      { s.dev with boot := { s.dev.boot with recoveryFace := cellsWrite s.dev.boot.recoveryFace off data } } e) ∧
    (∀ off data, slotSize < off + data.length → Does (.recoveryWrite h 1 off data) s fun e => Replied h 0xF1 4 [] s.dev e) ∧
    (∀ n bs r, n ≤ slotSize → bs = cellsRead s.dev.boot.recoverySlot 0 n →
      r = (if n < cTotal bs then 1 else slotReason s.otp s.dev.life (sliceOf bs)) →
      (∀ k, r = 0 → s.dev.recoveryTarget = some k → Completes (.recoveryCommit h 1 n) s fun t =>
        t.mode = .coldStart ∧ t.otp = s.otp ∧ Responds h 0xF2 0 [0] t.dev ∧
        t.dev.boot.flash = flashWrite s.dev.boot.flash (slotBase k) bs) ∧
      (r ≠ 0 → Does (.recoveryCommit h 1 n) s fun e => Replied h 0xF2 7 (leBytes 1 r) s.dev e)) ∧
    (∀ n bs r, n ≤ copySize → s.dev.rd Reg.HS_STATUS_recovery_reason = 3 → bs = cellsRead s.dev.boot.recoveryFace 0 n →
      r = s.dev.faceplateReason s.otp n (sliceOf bs) →
      (r = 0 → Completes (.recoveryCommit h 2 n) s fun t =>
        t.mode = .coldStart ∧ t.otp = s.otp ∧ Responds h 0xF2 0 [0] t.dev ∧
        t.dev.boot.flash = flashWrite s.dev.boot.flash (copyBase 0) bs) ∧
      (r ≠ 0 → Does (.recoveryCommit h 2 n) s fun e => Replied h 0xF2 7 (leBytes 1 r) s.dev e)))
end

