-- ==== Sys2Proof/Laws/State.lean ====
section
/-! SUPPORT. What each update of the device leaves alone, one lemma per field and update, so that no proof unfolds a record
update. -/
namespace Sys2Proof.Machine
variable (d : Device)
-- Device.wr
@[simp] theorem Device.wr_defer (f : Fld) (v : Nat) : (d.wr f v).defer = d.defer := rfl
@[simp] theorem Device.wr_mem (f : Fld) (v : Nat) : (d.wr f v).mem = d.mem := rfl
@[simp] theorem Device.wr_ev (f : Fld) (v : Nat) : (d.wr f v).ev = d.ev := rfl
@[simp] theorem Device.wr_sp (f : Fld) (v : Nat) : (d.wr f v).sp = d.sp := rfl
@[simp] theorem Device.wr_pins (f : Fld) (v : Nat) : (d.wr f v).pins = d.pins := rfl
@[simp] theorem Device.wr_seq (f : Fld) (v : Nat) : (d.wr f v).seq = d.seq := rfl
@[simp] theorem Device.wr_arrays (f : Fld) (v : Nat) : (d.wr f v).arrays = d.arrays := rfl
@[simp] theorem Device.wr_cores (f : Fld) (v : Nat) : (d.wr f v).cores = d.cores := rfl
@[simp] theorem Device.wr_quant (f : Fld) (v : Nat) : (d.wr f v).quant = d.quant := rfl
@[simp] theorem Device.wr_dma (f : Fld) (v : Nat) : (d.wr f v).dma = d.dma := rfl
@[simp] theorem Device.wr_memc (f : Fld) (v : Nat) : (d.wr f v).memc = d.memc := rfl
@[simp] theorem Device.wr_cam (f : Fld) (v : Nat) : (d.wr f v).cam = d.cam := rfl
@[simp] theorem Device.wr_isp (f : Fld) (v : Nat) : (d.wr f v).isp = d.isp := rfl
@[simp] theorem Device.wr_vid (f : Fld) (v : Nat) : (d.wr f v).vid = d.vid := rfl
@[simp] theorem Device.wr_join (f : Fld) (v : Nat) : (d.wr f v).join = d.join := rfl
@[simp] theorem Device.wr_fo (f : Fld) (v : Nat) : (d.wr f v).fo = d.fo := rfl
@[simp] theorem Device.wr_pwr (f : Fld) (v : Nat) : (d.wr f v).pwr = d.pwr := rfl
@[simp] theorem Device.wr_boot (f : Fld) (v : Nat) : (d.wr f v).boot = d.boot := rfl
@[simp] theorem Device.wr_proto (f : Fld) (v : Nat) : (d.wr f v).proto = d.proto := rfl
@[simp] theorem Device.wr_upd (f : Fld) (v : Nat) : (d.wr f v).upd = d.upd := rfl
@[simp] theorem Device.wr_fetch (f : Fld) (v : Nat) : (d.wr f v).fetch = d.fetch := rfl
@[simp] theorem Device.wr_safety (f : Fld) (v : Nat) : (d.wr f v).safety = d.safety := rfl
@[simp] theorem Device.wr_bus (f : Fld) (v : Nat) : (d.wr f v).bus = d.bus := rfl
@[simp] theorem Device.wr_latch (f : Fld) (v : Nat) : (d.wr f v).latch = d.latch := rfl
@[simp] theorem Device.wr_freeCtr (f : Fld) (v : Nat) : (d.wr f v).freeCtr = d.freeCtr := rfl

-- Device.wrShadow
@[simp] theorem Device.wrShadow_defer (f : Fld) (v : Nat) : (d.wrShadow f v).defer = d.defer := rfl
@[simp] theorem Device.wrShadow_mem (f : Fld) (v : Nat) : (d.wrShadow f v).mem = d.mem := rfl
@[simp] theorem Device.wrShadow_ev (f : Fld) (v : Nat) : (d.wrShadow f v).ev = d.ev := rfl
@[simp] theorem Device.wrShadow_sp (f : Fld) (v : Nat) : (d.wrShadow f v).sp = d.sp := rfl
@[simp] theorem Device.wrShadow_pins (f : Fld) (v : Nat) : (d.wrShadow f v).pins = d.pins := rfl
@[simp] theorem Device.wrShadow_seq (f : Fld) (v : Nat) : (d.wrShadow f v).seq = d.seq := rfl
@[simp] theorem Device.wrShadow_arrays (f : Fld) (v : Nat) : (d.wrShadow f v).arrays = d.arrays := rfl
@[simp] theorem Device.wrShadow_cores (f : Fld) (v : Nat) : (d.wrShadow f v).cores = d.cores := rfl
@[simp] theorem Device.wrShadow_quant (f : Fld) (v : Nat) : (d.wrShadow f v).quant = d.quant := rfl
@[simp] theorem Device.wrShadow_dma (f : Fld) (v : Nat) : (d.wrShadow f v).dma = d.dma := rfl
@[simp] theorem Device.wrShadow_memc (f : Fld) (v : Nat) : (d.wrShadow f v).memc = d.memc := rfl
@[simp] theorem Device.wrShadow_cam (f : Fld) (v : Nat) : (d.wrShadow f v).cam = d.cam := rfl
@[simp] theorem Device.wrShadow_isp (f : Fld) (v : Nat) : (d.wrShadow f v).isp = d.isp := rfl
@[simp] theorem Device.wrShadow_vid (f : Fld) (v : Nat) : (d.wrShadow f v).vid = d.vid := rfl
@[simp] theorem Device.wrShadow_join (f : Fld) (v : Nat) : (d.wrShadow f v).join = d.join := rfl
@[simp] theorem Device.wrShadow_fo (f : Fld) (v : Nat) : (d.wrShadow f v).fo = d.fo := rfl
@[simp] theorem Device.wrShadow_pwr (f : Fld) (v : Nat) : (d.wrShadow f v).pwr = d.pwr := rfl
@[simp] theorem Device.wrShadow_boot (f : Fld) (v : Nat) : (d.wrShadow f v).boot = d.boot := rfl
@[simp] theorem Device.wrShadow_proto (f : Fld) (v : Nat) : (d.wrShadow f v).proto = d.proto := rfl
@[simp] theorem Device.wrShadow_upd (f : Fld) (v : Nat) : (d.wrShadow f v).upd = d.upd := rfl
@[simp] theorem Device.wrShadow_fetch (f : Fld) (v : Nat) : (d.wrShadow f v).fetch = d.fetch := rfl
@[simp] theorem Device.wrShadow_safety (f : Fld) (v : Nat) : (d.wrShadow f v).safety = d.safety := rfl
@[simp] theorem Device.wrShadow_bus (f : Fld) (v : Nat) : (d.wrShadow f v).bus = d.bus := rfl
@[simp] theorem Device.wrShadow_latch (f : Fld) (v : Nat) : (d.wrShadow f v).latch = d.latch := rfl
@[simp] theorem Device.wrShadow_freeCtr (f : Fld) (v : Nat) : (d.wrShadow f v).freeCtr = d.freeCtr := rfl

-- Device.bump
@[simp] theorem Device.bump_defer (f : Fld) (n : Nat) : (d.bump f n).defer = d.defer := rfl
@[simp] theorem Device.bump_mem (f : Fld) (n : Nat) : (d.bump f n).mem = d.mem := rfl
@[simp] theorem Device.bump_ev (f : Fld) (n : Nat) : (d.bump f n).ev = d.ev := rfl
@[simp] theorem Device.bump_sp (f : Fld) (n : Nat) : (d.bump f n).sp = d.sp := rfl
@[simp] theorem Device.bump_pins (f : Fld) (n : Nat) : (d.bump f n).pins = d.pins := rfl
@[simp] theorem Device.bump_seq (f : Fld) (n : Nat) : (d.bump f n).seq = d.seq := rfl
@[simp] theorem Device.bump_arrays (f : Fld) (n : Nat) : (d.bump f n).arrays = d.arrays := rfl
@[simp] theorem Device.bump_cores (f : Fld) (n : Nat) : (d.bump f n).cores = d.cores := rfl
@[simp] theorem Device.bump_quant (f : Fld) (n : Nat) : (d.bump f n).quant = d.quant := rfl
@[simp] theorem Device.bump_dma (f : Fld) (n : Nat) : (d.bump f n).dma = d.dma := rfl
@[simp] theorem Device.bump_memc (f : Fld) (n : Nat) : (d.bump f n).memc = d.memc := rfl
@[simp] theorem Device.bump_cam (f : Fld) (n : Nat) : (d.bump f n).cam = d.cam := rfl
@[simp] theorem Device.bump_isp (f : Fld) (n : Nat) : (d.bump f n).isp = d.isp := rfl
@[simp] theorem Device.bump_vid (f : Fld) (n : Nat) : (d.bump f n).vid = d.vid := rfl
@[simp] theorem Device.bump_join (f : Fld) (n : Nat) : (d.bump f n).join = d.join := rfl
@[simp] theorem Device.bump_fo (f : Fld) (n : Nat) : (d.bump f n).fo = d.fo := rfl
@[simp] theorem Device.bump_pwr (f : Fld) (n : Nat) : (d.bump f n).pwr = d.pwr := rfl
@[simp] theorem Device.bump_boot (f : Fld) (n : Nat) : (d.bump f n).boot = d.boot := rfl
@[simp] theorem Device.bump_proto (f : Fld) (n : Nat) : (d.bump f n).proto = d.proto := rfl
@[simp] theorem Device.bump_upd (f : Fld) (n : Nat) : (d.bump f n).upd = d.upd := rfl
@[simp] theorem Device.bump_fetch (f : Fld) (n : Nat) : (d.bump f n).fetch = d.fetch := rfl
@[simp] theorem Device.bump_safety (f : Fld) (n : Nat) : (d.bump f n).safety = d.safety := rfl
@[simp] theorem Device.bump_bus (f : Fld) (n : Nat) : (d.bump f n).bus = d.bus := rfl
@[simp] theorem Device.bump_latch (f : Fld) (n : Nat) : (d.bump f n).latch = d.latch := rfl
@[simp] theorem Device.bump_freeCtr (f : Fld) (n : Nat) : (d.bump f n).freeCtr = d.freeCtr := rfl

-- Device.wrPair
@[simp] theorem Device.wrPair_defer (lo hi : Fld) (v : Nat) : (d.wrPair lo hi v).defer = d.defer := rfl
@[simp] theorem Device.wrPair_mem (lo hi : Fld) (v : Nat) : (d.wrPair lo hi v).mem = d.mem := rfl
@[simp] theorem Device.wrPair_ev (lo hi : Fld) (v : Nat) : (d.wrPair lo hi v).ev = d.ev := rfl
@[simp] theorem Device.wrPair_sp (lo hi : Fld) (v : Nat) : (d.wrPair lo hi v).sp = d.sp := rfl
@[simp] theorem Device.wrPair_pins (lo hi : Fld) (v : Nat) : (d.wrPair lo hi v).pins = d.pins := rfl
@[simp] theorem Device.wrPair_seq (lo hi : Fld) (v : Nat) : (d.wrPair lo hi v).seq = d.seq := rfl
@[simp] theorem Device.wrPair_arrays (lo hi : Fld) (v : Nat) : (d.wrPair lo hi v).arrays = d.arrays := rfl
@[simp] theorem Device.wrPair_cores (lo hi : Fld) (v : Nat) : (d.wrPair lo hi v).cores = d.cores := rfl
@[simp] theorem Device.wrPair_quant (lo hi : Fld) (v : Nat) : (d.wrPair lo hi v).quant = d.quant := rfl
@[simp] theorem Device.wrPair_dma (lo hi : Fld) (v : Nat) : (d.wrPair lo hi v).dma = d.dma := rfl
@[simp] theorem Device.wrPair_memc (lo hi : Fld) (v : Nat) : (d.wrPair lo hi v).memc = d.memc := rfl
@[simp] theorem Device.wrPair_cam (lo hi : Fld) (v : Nat) : (d.wrPair lo hi v).cam = d.cam := rfl
@[simp] theorem Device.wrPair_isp (lo hi : Fld) (v : Nat) : (d.wrPair lo hi v).isp = d.isp := rfl
@[simp] theorem Device.wrPair_vid (lo hi : Fld) (v : Nat) : (d.wrPair lo hi v).vid = d.vid := rfl
@[simp] theorem Device.wrPair_join (lo hi : Fld) (v : Nat) : (d.wrPair lo hi v).join = d.join := rfl
@[simp] theorem Device.wrPair_fo (lo hi : Fld) (v : Nat) : (d.wrPair lo hi v).fo = d.fo := rfl
@[simp] theorem Device.wrPair_pwr (lo hi : Fld) (v : Nat) : (d.wrPair lo hi v).pwr = d.pwr := rfl
@[simp] theorem Device.wrPair_boot (lo hi : Fld) (v : Nat) : (d.wrPair lo hi v).boot = d.boot := rfl
@[simp] theorem Device.wrPair_proto (lo hi : Fld) (v : Nat) : (d.wrPair lo hi v).proto = d.proto := rfl
@[simp] theorem Device.wrPair_upd (lo hi : Fld) (v : Nat) : (d.wrPair lo hi v).upd = d.upd := rfl
@[simp] theorem Device.wrPair_fetch (lo hi : Fld) (v : Nat) : (d.wrPair lo hi v).fetch = d.fetch := rfl
@[simp] theorem Device.wrPair_safety (lo hi : Fld) (v : Nat) : (d.wrPair lo hi v).safety = d.safety := rfl
@[simp] theorem Device.wrPair_bus (lo hi : Fld) (v : Nat) : (d.wrPair lo hi v).bus = d.bus := rfl
@[simp] theorem Device.wrPair_latch (lo hi : Fld) (v : Nat) : (d.wrPair lo hi v).latch = d.latch := rfl
@[simp] theorem Device.wrPair_freeCtr (lo hi : Fld) (v : Nat) : (d.wrPair lo hi v).freeCtr = d.freeCtr := rfl

-- Device.poke
@[simp] theorem Device.poke_regs (a : Nat) (bs : List Byte) : (d.poke a bs).regs = d.regs := rfl
@[simp] theorem Device.poke_defer (a : Nat) (bs : List Byte) : (d.poke a bs).defer = d.defer := rfl
@[simp] theorem Device.poke_ev (a : Nat) (bs : List Byte) : (d.poke a bs).ev = d.ev := rfl
@[simp] theorem Device.poke_sp (a : Nat) (bs : List Byte) : (d.poke a bs).sp = d.sp := rfl
@[simp] theorem Device.poke_pins (a : Nat) (bs : List Byte) : (d.poke a bs).pins = d.pins := rfl
@[simp] theorem Device.poke_seq (a : Nat) (bs : List Byte) : (d.poke a bs).seq = d.seq := rfl
@[simp] theorem Device.poke_arrays (a : Nat) (bs : List Byte) : (d.poke a bs).arrays = d.arrays := rfl
@[simp] theorem Device.poke_cores (a : Nat) (bs : List Byte) : (d.poke a bs).cores = d.cores := rfl
@[simp] theorem Device.poke_quant (a : Nat) (bs : List Byte) : (d.poke a bs).quant = d.quant := rfl
@[simp] theorem Device.poke_dma (a : Nat) (bs : List Byte) : (d.poke a bs).dma = d.dma := rfl
@[simp] theorem Device.poke_memc (a : Nat) (bs : List Byte) : (d.poke a bs).memc = d.memc := rfl
@[simp] theorem Device.poke_cam (a : Nat) (bs : List Byte) : (d.poke a bs).cam = d.cam := rfl
@[simp] theorem Device.poke_isp (a : Nat) (bs : List Byte) : (d.poke a bs).isp = d.isp := rfl
@[simp] theorem Device.poke_vid (a : Nat) (bs : List Byte) : (d.poke a bs).vid = d.vid := rfl
@[simp] theorem Device.poke_join (a : Nat) (bs : List Byte) : (d.poke a bs).join = d.join := rfl
@[simp] theorem Device.poke_fo (a : Nat) (bs : List Byte) : (d.poke a bs).fo = d.fo := rfl
@[simp] theorem Device.poke_pwr (a : Nat) (bs : List Byte) : (d.poke a bs).pwr = d.pwr := rfl
@[simp] theorem Device.poke_boot (a : Nat) (bs : List Byte) : (d.poke a bs).boot = d.boot := rfl
@[simp] theorem Device.poke_proto (a : Nat) (bs : List Byte) : (d.poke a bs).proto = d.proto := rfl
@[simp] theorem Device.poke_upd (a : Nat) (bs : List Byte) : (d.poke a bs).upd = d.upd := rfl
@[simp] theorem Device.poke_fetch (a : Nat) (bs : List Byte) : (d.poke a bs).fetch = d.fetch := rfl
@[simp] theorem Device.poke_safety (a : Nat) (bs : List Byte) : (d.poke a bs).safety = d.safety := rfl
@[simp] theorem Device.poke_bus (a : Nat) (bs : List Byte) : (d.poke a bs).bus = d.bus := rfl
@[simp] theorem Device.poke_latch (a : Nat) (bs : List Byte) : (d.poke a bs).latch = d.latch := rfl
@[simp] theorem Device.poke_freeCtr (a : Nat) (bs : List Byte) : (d.poke a bs).freeCtr = d.freeCtr := rfl
@[simp] theorem Device.poke_rd (a : Nat) (bs : List Byte) (fl : Fld) : (d.poke a bs).rd fl = d.rd fl := rfl
@[simp] theorem Device.poke_rdB (a : Nat) (bs : List Byte) (fl : Fld) : (d.poke a bs).rdB fl = d.rdB fl := rfl

-- Device.setErrs
@[simp] theorem Device.setErrs_regs (cw n : Nat) : (d.setErrs cw n).regs = d.regs := rfl
@[simp] theorem Device.setErrs_defer (cw n : Nat) : (d.setErrs cw n).defer = d.defer := rfl
@[simp] theorem Device.setErrs_ev (cw n : Nat) : (d.setErrs cw n).ev = d.ev := rfl
@[simp] theorem Device.setErrs_sp (cw n : Nat) : (d.setErrs cw n).sp = d.sp := rfl
@[simp] theorem Device.setErrs_pins (cw n : Nat) : (d.setErrs cw n).pins = d.pins := rfl
@[simp] theorem Device.setErrs_seq (cw n : Nat) : (d.setErrs cw n).seq = d.seq := rfl
@[simp] theorem Device.setErrs_arrays (cw n : Nat) : (d.setErrs cw n).arrays = d.arrays := rfl
@[simp] theorem Device.setErrs_cores (cw n : Nat) : (d.setErrs cw n).cores = d.cores := rfl
@[simp] theorem Device.setErrs_quant (cw n : Nat) : (d.setErrs cw n).quant = d.quant := rfl
@[simp] theorem Device.setErrs_dma (cw n : Nat) : (d.setErrs cw n).dma = d.dma := rfl
@[simp] theorem Device.setErrs_memc (cw n : Nat) : (d.setErrs cw n).memc = d.memc := rfl
@[simp] theorem Device.setErrs_cam (cw n : Nat) : (d.setErrs cw n).cam = d.cam := rfl
@[simp] theorem Device.setErrs_isp (cw n : Nat) : (d.setErrs cw n).isp = d.isp := rfl
@[simp] theorem Device.setErrs_vid (cw n : Nat) : (d.setErrs cw n).vid = d.vid := rfl
@[simp] theorem Device.setErrs_join (cw n : Nat) : (d.setErrs cw n).join = d.join := rfl
@[simp] theorem Device.setErrs_fo (cw n : Nat) : (d.setErrs cw n).fo = d.fo := rfl
@[simp] theorem Device.setErrs_pwr (cw n : Nat) : (d.setErrs cw n).pwr = d.pwr := rfl
@[simp] theorem Device.setErrs_boot (cw n : Nat) : (d.setErrs cw n).boot = d.boot := rfl
@[simp] theorem Device.setErrs_proto (cw n : Nat) : (d.setErrs cw n).proto = d.proto := rfl
@[simp] theorem Device.setErrs_upd (cw n : Nat) : (d.setErrs cw n).upd = d.upd := rfl
@[simp] theorem Device.setErrs_fetch (cw n : Nat) : (d.setErrs cw n).fetch = d.fetch := rfl
@[simp] theorem Device.setErrs_safety (cw n : Nat) : (d.setErrs cw n).safety = d.safety := rfl
@[simp] theorem Device.setErrs_bus (cw n : Nat) : (d.setErrs cw n).bus = d.bus := rfl
@[simp] theorem Device.setErrs_latch (cw n : Nat) : (d.setErrs cw n).latch = d.latch := rfl
@[simp] theorem Device.setErrs_freeCtr (cw n : Nat) : (d.setErrs cw n).freeCtr = d.freeCtr := rfl
@[simp] theorem Device.setErrs_rd (cw n : Nat) (fl : Fld) : (d.setErrs cw n).rd fl = d.rd fl := rfl
@[simp] theorem Device.setErrs_rdB (cw n : Nat) (fl : Fld) : (d.setErrs cw n).rdB fl = d.rdB fl := rfl

-- Device.setArray
@[simp] theorem Device.setArray_regs (c a : Nat) (x : ArrayRt) : (d.setArray c a x).regs = d.regs := rfl
@[simp] theorem Device.setArray_defer (c a : Nat) (x : ArrayRt) : (d.setArray c a x).defer = d.defer := rfl
@[simp] theorem Device.setArray_mem (c a : Nat) (x : ArrayRt) : (d.setArray c a x).mem = d.mem := rfl
@[simp] theorem Device.setArray_ev (c a : Nat) (x : ArrayRt) : (d.setArray c a x).ev = d.ev := rfl
@[simp] theorem Device.setArray_sp (c a : Nat) (x : ArrayRt) : (d.setArray c a x).sp = d.sp := rfl
@[simp] theorem Device.setArray_pins (c a : Nat) (x : ArrayRt) : (d.setArray c a x).pins = d.pins := rfl
@[simp] theorem Device.setArray_seq (c a : Nat) (x : ArrayRt) : (d.setArray c a x).seq = d.seq := rfl
@[simp] theorem Device.setArray_cores (c a : Nat) (x : ArrayRt) : (d.setArray c a x).cores = d.cores := rfl
@[simp] theorem Device.setArray_quant (c a : Nat) (x : ArrayRt) : (d.setArray c a x).quant = d.quant := rfl
@[simp] theorem Device.setArray_dma (c a : Nat) (x : ArrayRt) : (d.setArray c a x).dma = d.dma := rfl
@[simp] theorem Device.setArray_memc (c a : Nat) (x : ArrayRt) : (d.setArray c a x).memc = d.memc := rfl
@[simp] theorem Device.setArray_cam (c a : Nat) (x : ArrayRt) : (d.setArray c a x).cam = d.cam := rfl
@[simp] theorem Device.setArray_isp (c a : Nat) (x : ArrayRt) : (d.setArray c a x).isp = d.isp := rfl
@[simp] theorem Device.setArray_vid (c a : Nat) (x : ArrayRt) : (d.setArray c a x).vid = d.vid := rfl
@[simp] theorem Device.setArray_join (c a : Nat) (x : ArrayRt) : (d.setArray c a x).join = d.join := rfl
@[simp] theorem Device.setArray_fo (c a : Nat) (x : ArrayRt) : (d.setArray c a x).fo = d.fo := rfl
@[simp] theorem Device.setArray_pwr (c a : Nat) (x : ArrayRt) : (d.setArray c a x).pwr = d.pwr := rfl
@[simp] theorem Device.setArray_boot (c a : Nat) (x : ArrayRt) : (d.setArray c a x).boot = d.boot := rfl
@[simp] theorem Device.setArray_proto (c a : Nat) (x : ArrayRt) : (d.setArray c a x).proto = d.proto := rfl
@[simp] theorem Device.setArray_upd (c a : Nat) (x : ArrayRt) : (d.setArray c a x).upd = d.upd := rfl
@[simp] theorem Device.setArray_fetch (c a : Nat) (x : ArrayRt) : (d.setArray c a x).fetch = d.fetch := rfl
@[simp] theorem Device.setArray_safety (c a : Nat) (x : ArrayRt) : (d.setArray c a x).safety = d.safety := rfl
@[simp] theorem Device.setArray_bus (c a : Nat) (x : ArrayRt) : (d.setArray c a x).bus = d.bus := rfl
@[simp] theorem Device.setArray_latch (c a : Nat) (x : ArrayRt) : (d.setArray c a x).latch = d.latch := rfl
@[simp] theorem Device.setArray_freeCtr (c a : Nat) (x : ArrayRt) : (d.setArray c a x).freeCtr = d.freeCtr := rfl
@[simp] theorem Device.setArray_rd (c a : Nat) (x : ArrayRt) (fl : Fld) : (d.setArray c a x).rd fl = d.rd fl := rfl
@[simp] theorem Device.setArray_rdB (c a : Nat) (x : ArrayRt) (fl : Fld) : (d.setArray c a x).rdB fl = d.rdB fl := rfl

-- Device.setCore
@[simp] theorem Device.setCore_regs (c : Nat) (x : CoreRt) : (d.setCore c x).regs = d.regs := rfl
@[simp] theorem Device.setCore_defer (c : Nat) (x : CoreRt) : (d.setCore c x).defer = d.defer := rfl
@[simp] theorem Device.setCore_mem (c : Nat) (x : CoreRt) : (d.setCore c x).mem = d.mem := rfl
@[simp] theorem Device.setCore_ev (c : Nat) (x : CoreRt) : (d.setCore c x).ev = d.ev := rfl
@[simp] theorem Device.setCore_sp (c : Nat) (x : CoreRt) : (d.setCore c x).sp = d.sp := rfl
@[simp] theorem Device.setCore_pins (c : Nat) (x : CoreRt) : (d.setCore c x).pins = d.pins := rfl
@[simp] theorem Device.setCore_seq (c : Nat) (x : CoreRt) : (d.setCore c x).seq = d.seq := rfl
@[simp] theorem Device.setCore_arrays (c : Nat) (x : CoreRt) : (d.setCore c x).arrays = d.arrays := rfl
@[simp] theorem Device.setCore_quant (c : Nat) (x : CoreRt) : (d.setCore c x).quant = d.quant := rfl
@[simp] theorem Device.setCore_dma (c : Nat) (x : CoreRt) : (d.setCore c x).dma = d.dma := rfl
@[simp] theorem Device.setCore_memc (c : Nat) (x : CoreRt) : (d.setCore c x).memc = d.memc := rfl
@[simp] theorem Device.setCore_cam (c : Nat) (x : CoreRt) : (d.setCore c x).cam = d.cam := rfl
@[simp] theorem Device.setCore_isp (c : Nat) (x : CoreRt) : (d.setCore c x).isp = d.isp := rfl
@[simp] theorem Device.setCore_vid (c : Nat) (x : CoreRt) : (d.setCore c x).vid = d.vid := rfl
@[simp] theorem Device.setCore_join (c : Nat) (x : CoreRt) : (d.setCore c x).join = d.join := rfl
@[simp] theorem Device.setCore_fo (c : Nat) (x : CoreRt) : (d.setCore c x).fo = d.fo := rfl
@[simp] theorem Device.setCore_pwr (c : Nat) (x : CoreRt) : (d.setCore c x).pwr = d.pwr := rfl
@[simp] theorem Device.setCore_boot (c : Nat) (x : CoreRt) : (d.setCore c x).boot = d.boot := rfl
@[simp] theorem Device.setCore_proto (c : Nat) (x : CoreRt) : (d.setCore c x).proto = d.proto := rfl
@[simp] theorem Device.setCore_upd (c : Nat) (x : CoreRt) : (d.setCore c x).upd = d.upd := rfl
@[simp] theorem Device.setCore_fetch (c : Nat) (x : CoreRt) : (d.setCore c x).fetch = d.fetch := rfl
@[simp] theorem Device.setCore_safety (c : Nat) (x : CoreRt) : (d.setCore c x).safety = d.safety := rfl
@[simp] theorem Device.setCore_bus (c : Nat) (x : CoreRt) : (d.setCore c x).bus = d.bus := rfl
@[simp] theorem Device.setCore_latch (c : Nat) (x : CoreRt) : (d.setCore c x).latch = d.latch := rfl
@[simp] theorem Device.setCore_freeCtr (c : Nat) (x : CoreRt) : (d.setCore c x).freeCtr = d.freeCtr := rfl
@[simp] theorem Device.setCore_rd (c : Nat) (x : CoreRt) (fl : Fld) : (d.setCore c x).rd fl = d.rd fl := rfl
@[simp] theorem Device.setCore_rdB (c : Nat) (x : CoreRt) (fl : Fld) : (d.setCore c x).rdB fl = d.rdB fl := rfl

-- Device.setChan
@[simp] theorem Device.setChan_regs (k : Nat) (x : DmaCh) : (d.setChan k x).regs = d.regs := rfl
@[simp] theorem Device.setChan_defer (k : Nat) (x : DmaCh) : (d.setChan k x).defer = d.defer := rfl
@[simp] theorem Device.setChan_mem (k : Nat) (x : DmaCh) : (d.setChan k x).mem = d.mem := rfl
@[simp] theorem Device.setChan_ev (k : Nat) (x : DmaCh) : (d.setChan k x).ev = d.ev := rfl
@[simp] theorem Device.setChan_sp (k : Nat) (x : DmaCh) : (d.setChan k x).sp = d.sp := rfl
@[simp] theorem Device.setChan_pins (k : Nat) (x : DmaCh) : (d.setChan k x).pins = d.pins := rfl
@[simp] theorem Device.setChan_seq (k : Nat) (x : DmaCh) : (d.setChan k x).seq = d.seq := rfl
@[simp] theorem Device.setChan_arrays (k : Nat) (x : DmaCh) : (d.setChan k x).arrays = d.arrays := rfl
@[simp] theorem Device.setChan_cores (k : Nat) (x : DmaCh) : (d.setChan k x).cores = d.cores := rfl
@[simp] theorem Device.setChan_quant (k : Nat) (x : DmaCh) : (d.setChan k x).quant = d.quant := rfl
@[simp] theorem Device.setChan_memc (k : Nat) (x : DmaCh) : (d.setChan k x).memc = d.memc := rfl
@[simp] theorem Device.setChan_cam (k : Nat) (x : DmaCh) : (d.setChan k x).cam = d.cam := rfl
@[simp] theorem Device.setChan_isp (k : Nat) (x : DmaCh) : (d.setChan k x).isp = d.isp := rfl
@[simp] theorem Device.setChan_vid (k : Nat) (x : DmaCh) : (d.setChan k x).vid = d.vid := rfl
@[simp] theorem Device.setChan_join (k : Nat) (x : DmaCh) : (d.setChan k x).join = d.join := rfl
@[simp] theorem Device.setChan_fo (k : Nat) (x : DmaCh) : (d.setChan k x).fo = d.fo := rfl
@[simp] theorem Device.setChan_pwr (k : Nat) (x : DmaCh) : (d.setChan k x).pwr = d.pwr := rfl
@[simp] theorem Device.setChan_boot (k : Nat) (x : DmaCh) : (d.setChan k x).boot = d.boot := rfl
@[simp] theorem Device.setChan_proto (k : Nat) (x : DmaCh) : (d.setChan k x).proto = d.proto := rfl
@[simp] theorem Device.setChan_upd (k : Nat) (x : DmaCh) : (d.setChan k x).upd = d.upd := rfl
@[simp] theorem Device.setChan_fetch (k : Nat) (x : DmaCh) : (d.setChan k x).fetch = d.fetch := rfl
@[simp] theorem Device.setChan_safety (k : Nat) (x : DmaCh) : (d.setChan k x).safety = d.safety := rfl
@[simp] theorem Device.setChan_bus (k : Nat) (x : DmaCh) : (d.setChan k x).bus = d.bus := rfl
@[simp] theorem Device.setChan_latch (k : Nat) (x : DmaCh) : (d.setChan k x).latch = d.latch := rfl
@[simp] theorem Device.setChan_freeCtr (k : Nat) (x : DmaCh) : (d.setChan k x).freeCtr = d.freeCtr := rfl
@[simp] theorem Device.setChan_rd (k : Nat) (x : DmaCh) (fl : Fld) : (d.setChan k x).rd fl = d.rd fl := rfl
@[simp] theorem Device.setChan_rdB (k : Nat) (x : DmaCh) (fl : Fld) : (d.setChan k x).rdB fl = d.rdB fl := rfl

-- Device.setMemCh
@[simp] theorem Device.setMemCh_regs (c : Nat) (x : MemCh) : (d.setMemCh c x).regs = d.regs := rfl
@[simp] theorem Device.setMemCh_defer (c : Nat) (x : MemCh) : (d.setMemCh c x).defer = d.defer := rfl
@[simp] theorem Device.setMemCh_mem (c : Nat) (x : MemCh) : (d.setMemCh c x).mem = d.mem := rfl
@[simp] theorem Device.setMemCh_ev (c : Nat) (x : MemCh) : (d.setMemCh c x).ev = d.ev := rfl
@[simp] theorem Device.setMemCh_sp (c : Nat) (x : MemCh) : (d.setMemCh c x).sp = d.sp := rfl
@[simp] theorem Device.setMemCh_pins (c : Nat) (x : MemCh) : (d.setMemCh c x).pins = d.pins := rfl
@[simp] theorem Device.setMemCh_seq (c : Nat) (x : MemCh) : (d.setMemCh c x).seq = d.seq := rfl
@[simp] theorem Device.setMemCh_arrays (c : Nat) (x : MemCh) : (d.setMemCh c x).arrays = d.arrays := rfl
@[simp] theorem Device.setMemCh_cores (c : Nat) (x : MemCh) : (d.setMemCh c x).cores = d.cores := rfl
@[simp] theorem Device.setMemCh_quant (c : Nat) (x : MemCh) : (d.setMemCh c x).quant = d.quant := rfl
@[simp] theorem Device.setMemCh_dma (c : Nat) (x : MemCh) : (d.setMemCh c x).dma = d.dma := rfl
@[simp] theorem Device.setMemCh_cam (c : Nat) (x : MemCh) : (d.setMemCh c x).cam = d.cam := rfl
@[simp] theorem Device.setMemCh_isp (c : Nat) (x : MemCh) : (d.setMemCh c x).isp = d.isp := rfl
@[simp] theorem Device.setMemCh_vid (c : Nat) (x : MemCh) : (d.setMemCh c x).vid = d.vid := rfl
@[simp] theorem Device.setMemCh_join (c : Nat) (x : MemCh) : (d.setMemCh c x).join = d.join := rfl
@[simp] theorem Device.setMemCh_fo (c : Nat) (x : MemCh) : (d.setMemCh c x).fo = d.fo := rfl
@[simp] theorem Device.setMemCh_pwr (c : Nat) (x : MemCh) : (d.setMemCh c x).pwr = d.pwr := rfl
@[simp] theorem Device.setMemCh_boot (c : Nat) (x : MemCh) : (d.setMemCh c x).boot = d.boot := rfl
@[simp] theorem Device.setMemCh_proto (c : Nat) (x : MemCh) : (d.setMemCh c x).proto = d.proto := rfl
@[simp] theorem Device.setMemCh_upd (c : Nat) (x : MemCh) : (d.setMemCh c x).upd = d.upd := rfl
@[simp] theorem Device.setMemCh_fetch (c : Nat) (x : MemCh) : (d.setMemCh c x).fetch = d.fetch := rfl
@[simp] theorem Device.setMemCh_safety (c : Nat) (x : MemCh) : (d.setMemCh c x).safety = d.safety := rfl
@[simp] theorem Device.setMemCh_bus (c : Nat) (x : MemCh) : (d.setMemCh c x).bus = d.bus := rfl
@[simp] theorem Device.setMemCh_latch (c : Nat) (x : MemCh) : (d.setMemCh c x).latch = d.latch := rfl
@[simp] theorem Device.setMemCh_freeCtr (c : Nat) (x : MemCh) : (d.setMemCh c x).freeCtr = d.freeCtr := rfl
@[simp] theorem Device.setMemCh_rd (c : Nat) (x : MemCh) (fl : Fld) : (d.setMemCh c x).rd fl = d.rd fl := rfl
@[simp] theorem Device.setMemCh_rdB (c : Nat) (x : MemCh) (fl : Fld) : (d.setMemCh c x).rdB fl = d.rdB fl := rfl

-- Device.setStream
@[simp] theorem Device.setStream_regs (k : Nat) (x : StreamSt) : (d.setStream k x).regs = d.regs := rfl
@[simp] theorem Device.setStream_defer (k : Nat) (x : StreamSt) : (d.setStream k x).defer = d.defer := rfl
@[simp] theorem Device.setStream_mem (k : Nat) (x : StreamSt) : (d.setStream k x).mem = d.mem := rfl
@[simp] theorem Device.setStream_ev (k : Nat) (x : StreamSt) : (d.setStream k x).ev = d.ev := rfl
@[simp] theorem Device.setStream_sp (k : Nat) (x : StreamSt) : (d.setStream k x).sp = d.sp := rfl
@[simp] theorem Device.setStream_pins (k : Nat) (x : StreamSt) : (d.setStream k x).pins = d.pins := rfl
@[simp] theorem Device.setStream_seq (k : Nat) (x : StreamSt) : (d.setStream k x).seq = d.seq := rfl
@[simp] theorem Device.setStream_arrays (k : Nat) (x : StreamSt) : (d.setStream k x).arrays = d.arrays := rfl
@[simp] theorem Device.setStream_cores (k : Nat) (x : StreamSt) : (d.setStream k x).cores = d.cores := rfl
@[simp] theorem Device.setStream_quant (k : Nat) (x : StreamSt) : (d.setStream k x).quant = d.quant := rfl
@[simp] theorem Device.setStream_dma (k : Nat) (x : StreamSt) : (d.setStream k x).dma = d.dma := rfl
@[simp] theorem Device.setStream_memc (k : Nat) (x : StreamSt) : (d.setStream k x).memc = d.memc := rfl
@[simp] theorem Device.setStream_isp (k : Nat) (x : StreamSt) : (d.setStream k x).isp = d.isp := rfl
@[simp] theorem Device.setStream_vid (k : Nat) (x : StreamSt) : (d.setStream k x).vid = d.vid := rfl
@[simp] theorem Device.setStream_join (k : Nat) (x : StreamSt) : (d.setStream k x).join = d.join := rfl
@[simp] theorem Device.setStream_fo (k : Nat) (x : StreamSt) : (d.setStream k x).fo = d.fo := rfl
@[simp] theorem Device.setStream_pwr (k : Nat) (x : StreamSt) : (d.setStream k x).pwr = d.pwr := rfl
@[simp] theorem Device.setStream_boot (k : Nat) (x : StreamSt) : (d.setStream k x).boot = d.boot := rfl
@[simp] theorem Device.setStream_proto (k : Nat) (x : StreamSt) : (d.setStream k x).proto = d.proto := rfl
@[simp] theorem Device.setStream_upd (k : Nat) (x : StreamSt) : (d.setStream k x).upd = d.upd := rfl
@[simp] theorem Device.setStream_fetch (k : Nat) (x : StreamSt) : (d.setStream k x).fetch = d.fetch := rfl
@[simp] theorem Device.setStream_safety (k : Nat) (x : StreamSt) : (d.setStream k x).safety = d.safety := rfl
@[simp] theorem Device.setStream_bus (k : Nat) (x : StreamSt) : (d.setStream k x).bus = d.bus := rfl
@[simp] theorem Device.setStream_latch (k : Nat) (x : StreamSt) : (d.setStream k x).latch = d.latch := rfl
@[simp] theorem Device.setStream_freeCtr (k : Nat) (x : StreamSt) : (d.setStream k x).freeCtr = d.freeCtr := rfl
@[simp] theorem Device.setStream_rd (k : Nat) (x : StreamSt) (fl : Fld) : (d.setStream k x).rd fl = d.rd fl := rfl
@[simp] theorem Device.setStream_rdB (k : Nat) (x : StreamSt) (fl : Fld) : (d.setStream k x).rdB fl = d.rdB fl := rfl

-- Device.setRx
@[simp] theorem Device.setRx_regs (r : Nat) (x : RxSt) : (d.setRx r x).regs = d.regs := rfl
@[simp] theorem Device.setRx_defer (r : Nat) (x : RxSt) : (d.setRx r x).defer = d.defer := rfl
@[simp] theorem Device.setRx_mem (r : Nat) (x : RxSt) : (d.setRx r x).mem = d.mem := rfl
@[simp] theorem Device.setRx_ev (r : Nat) (x : RxSt) : (d.setRx r x).ev = d.ev := rfl
@[simp] theorem Device.setRx_sp (r : Nat) (x : RxSt) : (d.setRx r x).sp = d.sp := rfl
@[simp] theorem Device.setRx_pins (r : Nat) (x : RxSt) : (d.setRx r x).pins = d.pins := rfl
@[simp] theorem Device.setRx_seq (r : Nat) (x : RxSt) : (d.setRx r x).seq = d.seq := rfl
@[simp] theorem Device.setRx_arrays (r : Nat) (x : RxSt) : (d.setRx r x).arrays = d.arrays := rfl
@[simp] theorem Device.setRx_cores (r : Nat) (x : RxSt) : (d.setRx r x).cores = d.cores := rfl
@[simp] theorem Device.setRx_quant (r : Nat) (x : RxSt) : (d.setRx r x).quant = d.quant := rfl
@[simp] theorem Device.setRx_dma (r : Nat) (x : RxSt) : (d.setRx r x).dma = d.dma := rfl
@[simp] theorem Device.setRx_memc (r : Nat) (x : RxSt) : (d.setRx r x).memc = d.memc := rfl
@[simp] theorem Device.setRx_isp (r : Nat) (x : RxSt) : (d.setRx r x).isp = d.isp := rfl
@[simp] theorem Device.setRx_vid (r : Nat) (x : RxSt) : (d.setRx r x).vid = d.vid := rfl
@[simp] theorem Device.setRx_join (r : Nat) (x : RxSt) : (d.setRx r x).join = d.join := rfl
@[simp] theorem Device.setRx_fo (r : Nat) (x : RxSt) : (d.setRx r x).fo = d.fo := rfl
@[simp] theorem Device.setRx_pwr (r : Nat) (x : RxSt) : (d.setRx r x).pwr = d.pwr := rfl
@[simp] theorem Device.setRx_boot (r : Nat) (x : RxSt) : (d.setRx r x).boot = d.boot := rfl
@[simp] theorem Device.setRx_proto (r : Nat) (x : RxSt) : (d.setRx r x).proto = d.proto := rfl
@[simp] theorem Device.setRx_upd (r : Nat) (x : RxSt) : (d.setRx r x).upd = d.upd := rfl
@[simp] theorem Device.setRx_fetch (r : Nat) (x : RxSt) : (d.setRx r x).fetch = d.fetch := rfl
@[simp] theorem Device.setRx_safety (r : Nat) (x : RxSt) : (d.setRx r x).safety = d.safety := rfl
@[simp] theorem Device.setRx_bus (r : Nat) (x : RxSt) : (d.setRx r x).bus = d.bus := rfl
@[simp] theorem Device.setRx_latch (r : Nat) (x : RxSt) : (d.setRx r x).latch = d.latch := rfl
@[simp] theorem Device.setRx_freeCtr (r : Nat) (x : RxSt) : (d.setRx r x).freeCtr = d.freeCtr := rfl
@[simp] theorem Device.setRx_rd (r : Nat) (x : RxSt) (fl : Fld) : (d.setRx r x).rd fl = d.rd fl := rfl
@[simp] theorem Device.setRx_rdB (r : Nat) (x : RxSt) (fl : Fld) : (d.setRx r x).rdB fl = d.rdB fl := rfl

-- Device.setScm
@[simp] theorem Device.setScm_regs (m : Nat) (x : ScmSt) : (d.setScm m x).regs = d.regs := rfl
@[simp] theorem Device.setScm_defer (m : Nat) (x : ScmSt) : (d.setScm m x).defer = d.defer := rfl
@[simp] theorem Device.setScm_mem (m : Nat) (x : ScmSt) : (d.setScm m x).mem = d.mem := rfl
@[simp] theorem Device.setScm_ev (m : Nat) (x : ScmSt) : (d.setScm m x).ev = d.ev := rfl
@[simp] theorem Device.setScm_sp (m : Nat) (x : ScmSt) : (d.setScm m x).sp = d.sp := rfl
@[simp] theorem Device.setScm_pins (m : Nat) (x : ScmSt) : (d.setScm m x).pins = d.pins := rfl
@[simp] theorem Device.setScm_seq (m : Nat) (x : ScmSt) : (d.setScm m x).seq = d.seq := rfl
@[simp] theorem Device.setScm_arrays (m : Nat) (x : ScmSt) : (d.setScm m x).arrays = d.arrays := rfl
@[simp] theorem Device.setScm_cores (m : Nat) (x : ScmSt) : (d.setScm m x).cores = d.cores := rfl
@[simp] theorem Device.setScm_quant (m : Nat) (x : ScmSt) : (d.setScm m x).quant = d.quant := rfl
@[simp] theorem Device.setScm_dma (m : Nat) (x : ScmSt) : (d.setScm m x).dma = d.dma := rfl
@[simp] theorem Device.setScm_memc (m : Nat) (x : ScmSt) : (d.setScm m x).memc = d.memc := rfl
@[simp] theorem Device.setScm_isp (m : Nat) (x : ScmSt) : (d.setScm m x).isp = d.isp := rfl
@[simp] theorem Device.setScm_vid (m : Nat) (x : ScmSt) : (d.setScm m x).vid = d.vid := rfl
@[simp] theorem Device.setScm_join (m : Nat) (x : ScmSt) : (d.setScm m x).join = d.join := rfl
@[simp] theorem Device.setScm_fo (m : Nat) (x : ScmSt) : (d.setScm m x).fo = d.fo := rfl
@[simp] theorem Device.setScm_pwr (m : Nat) (x : ScmSt) : (d.setScm m x).pwr = d.pwr := rfl
@[simp] theorem Device.setScm_boot (m : Nat) (x : ScmSt) : (d.setScm m x).boot = d.boot := rfl
@[simp] theorem Device.setScm_proto (m : Nat) (x : ScmSt) : (d.setScm m x).proto = d.proto := rfl
@[simp] theorem Device.setScm_upd (m : Nat) (x : ScmSt) : (d.setScm m x).upd = d.upd := rfl
@[simp] theorem Device.setScm_fetch (m : Nat) (x : ScmSt) : (d.setScm m x).fetch = d.fetch := rfl
@[simp] theorem Device.setScm_safety (m : Nat) (x : ScmSt) : (d.setScm m x).safety = d.safety := rfl
@[simp] theorem Device.setScm_bus (m : Nat) (x : ScmSt) : (d.setScm m x).bus = d.bus := rfl
@[simp] theorem Device.setScm_latch (m : Nat) (x : ScmSt) : (d.setScm m x).latch = d.latch := rfl
@[simp] theorem Device.setScm_freeCtr (m : Nat) (x : ScmSt) : (d.setScm m x).freeCtr = d.freeCtr := rfl
@[simp] theorem Device.setScm_rd (m : Nat) (x : ScmSt) (fl : Fld) : (d.setScm m x).rd fl = d.rd fl := rfl
@[simp] theorem Device.setScm_rdB (m : Nat) (x : ScmSt) (fl : Fld) : (d.setScm m x).rdB fl = d.rdB fl := rfl

-- Device.setCtx
@[simp] theorem Device.setCtx_regs (p x : Nat) (c : CtxSt) : (d.setCtx p x c).regs = d.regs := rfl
@[simp] theorem Device.setCtx_defer (p x : Nat) (c : CtxSt) : (d.setCtx p x c).defer = d.defer := rfl
@[simp] theorem Device.setCtx_mem (p x : Nat) (c : CtxSt) : (d.setCtx p x c).mem = d.mem := rfl
@[simp] theorem Device.setCtx_ev (p x : Nat) (c : CtxSt) : (d.setCtx p x c).ev = d.ev := rfl
@[simp] theorem Device.setCtx_sp (p x : Nat) (c : CtxSt) : (d.setCtx p x c).sp = d.sp := rfl
@[simp] theorem Device.setCtx_pins (p x : Nat) (c : CtxSt) : (d.setCtx p x c).pins = d.pins := rfl
@[simp] theorem Device.setCtx_seq (p x : Nat) (c : CtxSt) : (d.setCtx p x c).seq = d.seq := rfl
@[simp] theorem Device.setCtx_arrays (p x : Nat) (c : CtxSt) : (d.setCtx p x c).arrays = d.arrays := rfl
@[simp] theorem Device.setCtx_cores (p x : Nat) (c : CtxSt) : (d.setCtx p x c).cores = d.cores := rfl
@[simp] theorem Device.setCtx_quant (p x : Nat) (c : CtxSt) : (d.setCtx p x c).quant = d.quant := rfl
@[simp] theorem Device.setCtx_dma (p x : Nat) (c : CtxSt) : (d.setCtx p x c).dma = d.dma := rfl
@[simp] theorem Device.setCtx_memc (p x : Nat) (c : CtxSt) : (d.setCtx p x c).memc = d.memc := rfl
@[simp] theorem Device.setCtx_cam (p x : Nat) (c : CtxSt) : (d.setCtx p x c).cam = d.cam := rfl
@[simp] theorem Device.setCtx_vid (p x : Nat) (c : CtxSt) : (d.setCtx p x c).vid = d.vid := rfl
@[simp] theorem Device.setCtx_join (p x : Nat) (c : CtxSt) : (d.setCtx p x c).join = d.join := rfl
@[simp] theorem Device.setCtx_fo (p x : Nat) (c : CtxSt) : (d.setCtx p x c).fo = d.fo := rfl
@[simp] theorem Device.setCtx_pwr (p x : Nat) (c : CtxSt) : (d.setCtx p x c).pwr = d.pwr := rfl
@[simp] theorem Device.setCtx_boot (p x : Nat) (c : CtxSt) : (d.setCtx p x c).boot = d.boot := rfl
@[simp] theorem Device.setCtx_proto (p x : Nat) (c : CtxSt) : (d.setCtx p x c).proto = d.proto := rfl
@[simp] theorem Device.setCtx_upd (p x : Nat) (c : CtxSt) : (d.setCtx p x c).upd = d.upd := rfl
@[simp] theorem Device.setCtx_fetch (p x : Nat) (c : CtxSt) : (d.setCtx p x c).fetch = d.fetch := rfl
@[simp] theorem Device.setCtx_safety (p x : Nat) (c : CtxSt) : (d.setCtx p x c).safety = d.safety := rfl
@[simp] theorem Device.setCtx_bus (p x : Nat) (c : CtxSt) : (d.setCtx p x c).bus = d.bus := rfl
@[simp] theorem Device.setCtx_latch (p x : Nat) (c : CtxSt) : (d.setCtx p x c).latch = d.latch := rfl
@[simp] theorem Device.setCtx_freeCtr (p x : Nat) (c : CtxSt) : (d.setCtx p x c).freeCtr = d.freeCtr := rfl
@[simp] theorem Device.setCtx_rd (p x : Nat) (c : CtxSt) (fl : Fld) : (d.setCtx p x c).rd fl = d.rd fl := rfl
@[simp] theorem Device.setCtx_rdB (p x : Nat) (c : CtxSt) (fl : Fld) : (d.setCtx p x c).rdB fl = d.rdB fl := rfl

-- Device.setEnc
@[simp] theorem Device.setEnc_regs (k : Nat) (x : EncSt) : (d.setEnc k x).regs = d.regs := rfl
@[simp] theorem Device.setEnc_defer (k : Nat) (x : EncSt) : (d.setEnc k x).defer = d.defer := rfl
@[simp] theorem Device.setEnc_mem (k : Nat) (x : EncSt) : (d.setEnc k x).mem = d.mem := rfl
@[simp] theorem Device.setEnc_ev (k : Nat) (x : EncSt) : (d.setEnc k x).ev = d.ev := rfl
@[simp] theorem Device.setEnc_sp (k : Nat) (x : EncSt) : (d.setEnc k x).sp = d.sp := rfl
@[simp] theorem Device.setEnc_pins (k : Nat) (x : EncSt) : (d.setEnc k x).pins = d.pins := rfl
@[simp] theorem Device.setEnc_seq (k : Nat) (x : EncSt) : (d.setEnc k x).seq = d.seq := rfl
@[simp] theorem Device.setEnc_arrays (k : Nat) (x : EncSt) : (d.setEnc k x).arrays = d.arrays := rfl
@[simp] theorem Device.setEnc_cores (k : Nat) (x : EncSt) : (d.setEnc k x).cores = d.cores := rfl
@[simp] theorem Device.setEnc_quant (k : Nat) (x : EncSt) : (d.setEnc k x).quant = d.quant := rfl
@[simp] theorem Device.setEnc_dma (k : Nat) (x : EncSt) : (d.setEnc k x).dma = d.dma := rfl
@[simp] theorem Device.setEnc_memc (k : Nat) (x : EncSt) : (d.setEnc k x).memc = d.memc := rfl
@[simp] theorem Device.setEnc_cam (k : Nat) (x : EncSt) : (d.setEnc k x).cam = d.cam := rfl
@[simp] theorem Device.setEnc_isp (k : Nat) (x : EncSt) : (d.setEnc k x).isp = d.isp := rfl
@[simp] theorem Device.setEnc_join (k : Nat) (x : EncSt) : (d.setEnc k x).join = d.join := rfl
@[simp] theorem Device.setEnc_fo (k : Nat) (x : EncSt) : (d.setEnc k x).fo = d.fo := rfl
@[simp] theorem Device.setEnc_pwr (k : Nat) (x : EncSt) : (d.setEnc k x).pwr = d.pwr := rfl
@[simp] theorem Device.setEnc_boot (k : Nat) (x : EncSt) : (d.setEnc k x).boot = d.boot := rfl
@[simp] theorem Device.setEnc_proto (k : Nat) (x : EncSt) : (d.setEnc k x).proto = d.proto := rfl
@[simp] theorem Device.setEnc_upd (k : Nat) (x : EncSt) : (d.setEnc k x).upd = d.upd := rfl
@[simp] theorem Device.setEnc_fetch (k : Nat) (x : EncSt) : (d.setEnc k x).fetch = d.fetch := rfl
@[simp] theorem Device.setEnc_safety (k : Nat) (x : EncSt) : (d.setEnc k x).safety = d.safety := rfl
@[simp] theorem Device.setEnc_bus (k : Nat) (x : EncSt) : (d.setEnc k x).bus = d.bus := rfl
@[simp] theorem Device.setEnc_latch (k : Nat) (x : EncSt) : (d.setEnc k x).latch = d.latch := rfl
@[simp] theorem Device.setEnc_freeCtr (k : Nat) (x : EncSt) : (d.setEnc k x).freeCtr = d.freeCtr := rfl
@[simp] theorem Device.setEnc_rd (k : Nat) (x : EncSt) (fl : Fld) : (d.setEnc k x).rd fl = d.rd fl := rfl
@[simp] theorem Device.setEnc_rdB (k : Nat) (x : EncSt) (fl : Fld) : (d.setEnc k x).rdB fl = d.rdB fl := rfl

-- Device.setPort
@[simp] theorem Device.setPort_regs (p : Nat) (x : PortSt) : (d.setPort p x).regs = d.regs := rfl
@[simp] theorem Device.setPort_defer (p : Nat) (x : PortSt) : (d.setPort p x).defer = d.defer := rfl
@[simp] theorem Device.setPort_mem (p : Nat) (x : PortSt) : (d.setPort p x).mem = d.mem := rfl
@[simp] theorem Device.setPort_ev (p : Nat) (x : PortSt) : (d.setPort p x).ev = d.ev := rfl
@[simp] theorem Device.setPort_sp (p : Nat) (x : PortSt) : (d.setPort p x).sp = d.sp := rfl
@[simp] theorem Device.setPort_pins (p : Nat) (x : PortSt) : (d.setPort p x).pins = d.pins := rfl
@[simp] theorem Device.setPort_seq (p : Nat) (x : PortSt) : (d.setPort p x).seq = d.seq := rfl
@[simp] theorem Device.setPort_arrays (p : Nat) (x : PortSt) : (d.setPort p x).arrays = d.arrays := rfl
@[simp] theorem Device.setPort_cores (p : Nat) (x : PortSt) : (d.setPort p x).cores = d.cores := rfl
@[simp] theorem Device.setPort_quant (p : Nat) (x : PortSt) : (d.setPort p x).quant = d.quant := rfl
@[simp] theorem Device.setPort_dma (p : Nat) (x : PortSt) : (d.setPort p x).dma = d.dma := rfl
@[simp] theorem Device.setPort_memc (p : Nat) (x : PortSt) : (d.setPort p x).memc = d.memc := rfl
@[simp] theorem Device.setPort_cam (p : Nat) (x : PortSt) : (d.setPort p x).cam = d.cam := rfl
@[simp] theorem Device.setPort_isp (p : Nat) (x : PortSt) : (d.setPort p x).isp = d.isp := rfl
@[simp] theorem Device.setPort_vid (p : Nat) (x : PortSt) : (d.setPort p x).vid = d.vid := rfl
@[simp] theorem Device.setPort_fo (p : Nat) (x : PortSt) : (d.setPort p x).fo = d.fo := rfl
@[simp] theorem Device.setPort_pwr (p : Nat) (x : PortSt) : (d.setPort p x).pwr = d.pwr := rfl
@[simp] theorem Device.setPort_boot (p : Nat) (x : PortSt) : (d.setPort p x).boot = d.boot := rfl
@[simp] theorem Device.setPort_proto (p : Nat) (x : PortSt) : (d.setPort p x).proto = d.proto := rfl
@[simp] theorem Device.setPort_upd (p : Nat) (x : PortSt) : (d.setPort p x).upd = d.upd := rfl
@[simp] theorem Device.setPort_fetch (p : Nat) (x : PortSt) : (d.setPort p x).fetch = d.fetch := rfl
@[simp] theorem Device.setPort_safety (p : Nat) (x : PortSt) : (d.setPort p x).safety = d.safety := rfl
@[simp] theorem Device.setPort_bus (p : Nat) (x : PortSt) : (d.setPort p x).bus = d.bus := rfl
@[simp] theorem Device.setPort_latch (p : Nat) (x : PortSt) : (d.setPort p x).latch = d.latch := rfl
@[simp] theorem Device.setPort_freeCtr (p : Nat) (x : PortSt) : (d.setPort p x).freeCtr = d.freeCtr := rfl
@[simp] theorem Device.setPort_rd (p : Nat) (x : PortSt) (fl : Fld) : (d.setPort p x).rd fl = d.rd fl := rfl
@[simp] theorem Device.setPort_rdB (p : Nat) (x : PortSt) (fl : Fld) : (d.setPort p x).rdB fl = d.rdB fl := rfl

-- Device.setRail
@[simp] theorem Device.setRail_regs (q : Nat) (x : RailSt) : (d.setRail q x).regs = d.regs := rfl
@[simp] theorem Device.setRail_defer (q : Nat) (x : RailSt) : (d.setRail q x).defer = d.defer := rfl
@[simp] theorem Device.setRail_mem (q : Nat) (x : RailSt) : (d.setRail q x).mem = d.mem := rfl
@[simp] theorem Device.setRail_ev (q : Nat) (x : RailSt) : (d.setRail q x).ev = d.ev := rfl
@[simp] theorem Device.setRail_sp (q : Nat) (x : RailSt) : (d.setRail q x).sp = d.sp := rfl
@[simp] theorem Device.setRail_pins (q : Nat) (x : RailSt) : (d.setRail q x).pins = d.pins := rfl
@[simp] theorem Device.setRail_seq (q : Nat) (x : RailSt) : (d.setRail q x).seq = d.seq := rfl
@[simp] theorem Device.setRail_arrays (q : Nat) (x : RailSt) : (d.setRail q x).arrays = d.arrays := rfl
@[simp] theorem Device.setRail_cores (q : Nat) (x : RailSt) : (d.setRail q x).cores = d.cores := rfl
@[simp] theorem Device.setRail_quant (q : Nat) (x : RailSt) : (d.setRail q x).quant = d.quant := rfl
@[simp] theorem Device.setRail_dma (q : Nat) (x : RailSt) : (d.setRail q x).dma = d.dma := rfl
@[simp] theorem Device.setRail_memc (q : Nat) (x : RailSt) : (d.setRail q x).memc = d.memc := rfl
@[simp] theorem Device.setRail_cam (q : Nat) (x : RailSt) : (d.setRail q x).cam = d.cam := rfl
@[simp] theorem Device.setRail_isp (q : Nat) (x : RailSt) : (d.setRail q x).isp = d.isp := rfl
@[simp] theorem Device.setRail_vid (q : Nat) (x : RailSt) : (d.setRail q x).vid = d.vid := rfl
@[simp] theorem Device.setRail_join (q : Nat) (x : RailSt) : (d.setRail q x).join = d.join := rfl
@[simp] theorem Device.setRail_fo (q : Nat) (x : RailSt) : (d.setRail q x).fo = d.fo := rfl
@[simp] theorem Device.setRail_boot (q : Nat) (x : RailSt) : (d.setRail q x).boot = d.boot := rfl
@[simp] theorem Device.setRail_proto (q : Nat) (x : RailSt) : (d.setRail q x).proto = d.proto := rfl
@[simp] theorem Device.setRail_upd (q : Nat) (x : RailSt) : (d.setRail q x).upd = d.upd := rfl
@[simp] theorem Device.setRail_fetch (q : Nat) (x : RailSt) : (d.setRail q x).fetch = d.fetch := rfl
@[simp] theorem Device.setRail_safety (q : Nat) (x : RailSt) : (d.setRail q x).safety = d.safety := rfl
@[simp] theorem Device.setRail_bus (q : Nat) (x : RailSt) : (d.setRail q x).bus = d.bus := rfl
@[simp] theorem Device.setRail_latch (q : Nat) (x : RailSt) : (d.setRail q x).latch = d.latch := rfl
@[simp] theorem Device.setRail_freeCtr (q : Nat) (x : RailSt) : (d.setRail q x).freeCtr = d.freeCtr := rfl
@[simp] theorem Device.setRail_rd (q : Nat) (x : RailSt) (fl : Fld) : (d.setRail q x).rd fl = d.rd fl := rfl
@[simp] theorem Device.setRail_rdB (q : Nat) (x : RailSt) (fl : Fld) : (d.setRail q x).rdB fl = d.rdB fl := rfl

-- Device.setCtr
@[simp] theorem Device.setCtr_regs (c : Nat) (x : CounterSt) : (d.setCtr c x).regs = d.regs := rfl
@[simp] theorem Device.setCtr_defer (c : Nat) (x : CounterSt) : (d.setCtr c x).defer = d.defer := rfl
@[simp] theorem Device.setCtr_mem (c : Nat) (x : CounterSt) : (d.setCtr c x).mem = d.mem := rfl
@[simp] theorem Device.setCtr_ev (c : Nat) (x : CounterSt) : (d.setCtr c x).ev = d.ev := rfl
@[simp] theorem Device.setCtr_sp (c : Nat) (x : CounterSt) : (d.setCtr c x).sp = d.sp := rfl
@[simp] theorem Device.setCtr_pins (c : Nat) (x : CounterSt) : (d.setCtr c x).pins = d.pins := rfl
@[simp] theorem Device.setCtr_arrays (c : Nat) (x : CounterSt) : (d.setCtr c x).arrays = d.arrays := rfl
@[simp] theorem Device.setCtr_cores (c : Nat) (x : CounterSt) : (d.setCtr c x).cores = d.cores := rfl
@[simp] theorem Device.setCtr_quant (c : Nat) (x : CounterSt) : (d.setCtr c x).quant = d.quant := rfl
@[simp] theorem Device.setCtr_dma (c : Nat) (x : CounterSt) : (d.setCtr c x).dma = d.dma := rfl
@[simp] theorem Device.setCtr_memc (c : Nat) (x : CounterSt) : (d.setCtr c x).memc = d.memc := rfl
@[simp] theorem Device.setCtr_cam (c : Nat) (x : CounterSt) : (d.setCtr c x).cam = d.cam := rfl
@[simp] theorem Device.setCtr_isp (c : Nat) (x : CounterSt) : (d.setCtr c x).isp = d.isp := rfl
@[simp] theorem Device.setCtr_vid (c : Nat) (x : CounterSt) : (d.setCtr c x).vid = d.vid := rfl
@[simp] theorem Device.setCtr_join (c : Nat) (x : CounterSt) : (d.setCtr c x).join = d.join := rfl
@[simp] theorem Device.setCtr_fo (c : Nat) (x : CounterSt) : (d.setCtr c x).fo = d.fo := rfl
@[simp] theorem Device.setCtr_pwr (c : Nat) (x : CounterSt) : (d.setCtr c x).pwr = d.pwr := rfl
@[simp] theorem Device.setCtr_boot (c : Nat) (x : CounterSt) : (d.setCtr c x).boot = d.boot := rfl
@[simp] theorem Device.setCtr_proto (c : Nat) (x : CounterSt) : (d.setCtr c x).proto = d.proto := rfl
@[simp] theorem Device.setCtr_upd (c : Nat) (x : CounterSt) : (d.setCtr c x).upd = d.upd := rfl
@[simp] theorem Device.setCtr_fetch (c : Nat) (x : CounterSt) : (d.setCtr c x).fetch = d.fetch := rfl
@[simp] theorem Device.setCtr_safety (c : Nat) (x : CounterSt) : (d.setCtr c x).safety = d.safety := rfl
@[simp] theorem Device.setCtr_bus (c : Nat) (x : CounterSt) : (d.setCtr c x).bus = d.bus := rfl
@[simp] theorem Device.setCtr_latch (c : Nat) (x : CounterSt) : (d.setCtr c x).latch = d.latch := rfl
@[simp] theorem Device.setCtr_freeCtr (c : Nat) (x : CounterSt) : (d.setCtr c x).freeCtr = d.freeCtr := rfl
@[simp] theorem Device.setCtr_rd (c : Nat) (x : CounterSt) (fl : Fld) : (d.setCtr c x).rd fl = d.rd fl := rfl
@[simp] theorem Device.setCtr_rdB (c : Nat) (x : CounterSt) (fl : Fld) : (d.setCtr c x).rdB fl = d.rdB fl := rfl

-- Device.setTensor
@[simp] theorem Device.setTensor_regs (t : Nat) (x : TensorSt) : (d.setTensor t x).regs = d.regs := rfl
@[simp] theorem Device.setTensor_defer (t : Nat) (x : TensorSt) : (d.setTensor t x).defer = d.defer := rfl
@[simp] theorem Device.setTensor_mem (t : Nat) (x : TensorSt) : (d.setTensor t x).mem = d.mem := rfl
@[simp] theorem Device.setTensor_ev (t : Nat) (x : TensorSt) : (d.setTensor t x).ev = d.ev := rfl
@[simp] theorem Device.setTensor_sp (t : Nat) (x : TensorSt) : (d.setTensor t x).sp = d.sp := rfl
@[simp] theorem Device.setTensor_pins (t : Nat) (x : TensorSt) : (d.setTensor t x).pins = d.pins := rfl
@[simp] theorem Device.setTensor_seq (t : Nat) (x : TensorSt) : (d.setTensor t x).seq = d.seq := rfl
@[simp] theorem Device.setTensor_arrays (t : Nat) (x : TensorSt) : (d.setTensor t x).arrays = d.arrays := rfl
@[simp] theorem Device.setTensor_cores (t : Nat) (x : TensorSt) : (d.setTensor t x).cores = d.cores := rfl
@[simp] theorem Device.setTensor_dma (t : Nat) (x : TensorSt) : (d.setTensor t x).dma = d.dma := rfl
@[simp] theorem Device.setTensor_memc (t : Nat) (x : TensorSt) : (d.setTensor t x).memc = d.memc := rfl
@[simp] theorem Device.setTensor_cam (t : Nat) (x : TensorSt) : (d.setTensor t x).cam = d.cam := rfl
@[simp] theorem Device.setTensor_isp (t : Nat) (x : TensorSt) : (d.setTensor t x).isp = d.isp := rfl
@[simp] theorem Device.setTensor_vid (t : Nat) (x : TensorSt) : (d.setTensor t x).vid = d.vid := rfl
@[simp] theorem Device.setTensor_join (t : Nat) (x : TensorSt) : (d.setTensor t x).join = d.join := rfl
@[simp] theorem Device.setTensor_fo (t : Nat) (x : TensorSt) : (d.setTensor t x).fo = d.fo := rfl
@[simp] theorem Device.setTensor_pwr (t : Nat) (x : TensorSt) : (d.setTensor t x).pwr = d.pwr := rfl
@[simp] theorem Device.setTensor_boot (t : Nat) (x : TensorSt) : (d.setTensor t x).boot = d.boot := rfl
@[simp] theorem Device.setTensor_proto (t : Nat) (x : TensorSt) : (d.setTensor t x).proto = d.proto := rfl
@[simp] theorem Device.setTensor_upd (t : Nat) (x : TensorSt) : (d.setTensor t x).upd = d.upd := rfl
@[simp] theorem Device.setTensor_fetch (t : Nat) (x : TensorSt) : (d.setTensor t x).fetch = d.fetch := rfl
@[simp] theorem Device.setTensor_safety (t : Nat) (x : TensorSt) : (d.setTensor t x).safety = d.safety := rfl
@[simp] theorem Device.setTensor_bus (t : Nat) (x : TensorSt) : (d.setTensor t x).bus = d.bus := rfl
@[simp] theorem Device.setTensor_latch (t : Nat) (x : TensorSt) : (d.setTensor t x).latch = d.latch := rfl
@[simp] theorem Device.setTensor_freeCtr (t : Nat) (x : TensorSt) : (d.setTensor t x).freeCtr = d.freeCtr := rfl
@[simp] theorem Device.setTensor_rd (t : Nat) (x : TensorSt) (fl : Fld) : (d.setTensor t x).rd fl = d.rd fl := rfl
@[simp] theorem Device.setTensor_rdB (t : Nat) (x : TensorSt) (fl : Fld) : (d.setTensor t x).rdB fl = d.rdB fl := rfl

-- Device.setDefer
@[simp] theorem Device.setDefer_regs (b : Nat) (x : Defer) : (d.setDefer b x).regs = d.regs := rfl
@[simp] theorem Device.setDefer_mem (b : Nat) (x : Defer) : (d.setDefer b x).mem = d.mem := rfl
@[simp] theorem Device.setDefer_ev (b : Nat) (x : Defer) : (d.setDefer b x).ev = d.ev := rfl
@[simp] theorem Device.setDefer_sp (b : Nat) (x : Defer) : (d.setDefer b x).sp = d.sp := rfl
@[simp] theorem Device.setDefer_pins (b : Nat) (x : Defer) : (d.setDefer b x).pins = d.pins := rfl
@[simp] theorem Device.setDefer_seq (b : Nat) (x : Defer) : (d.setDefer b x).seq = d.seq := rfl
@[simp] theorem Device.setDefer_arrays (b : Nat) (x : Defer) : (d.setDefer b x).arrays = d.arrays := rfl
@[simp] theorem Device.setDefer_cores (b : Nat) (x : Defer) : (d.setDefer b x).cores = d.cores := rfl
@[simp] theorem Device.setDefer_quant (b : Nat) (x : Defer) : (d.setDefer b x).quant = d.quant := rfl
@[simp] theorem Device.setDefer_dma (b : Nat) (x : Defer) : (d.setDefer b x).dma = d.dma := rfl
@[simp] theorem Device.setDefer_memc (b : Nat) (x : Defer) : (d.setDefer b x).memc = d.memc := rfl
@[simp] theorem Device.setDefer_cam (b : Nat) (x : Defer) : (d.setDefer b x).cam = d.cam := rfl
@[simp] theorem Device.setDefer_isp (b : Nat) (x : Defer) : (d.setDefer b x).isp = d.isp := rfl
@[simp] theorem Device.setDefer_vid (b : Nat) (x : Defer) : (d.setDefer b x).vid = d.vid := rfl
@[simp] theorem Device.setDefer_join (b : Nat) (x : Defer) : (d.setDefer b x).join = d.join := rfl
@[simp] theorem Device.setDefer_fo (b : Nat) (x : Defer) : (d.setDefer b x).fo = d.fo := rfl
@[simp] theorem Device.setDefer_pwr (b : Nat) (x : Defer) : (d.setDefer b x).pwr = d.pwr := rfl
@[simp] theorem Device.setDefer_boot (b : Nat) (x : Defer) : (d.setDefer b x).boot = d.boot := rfl
@[simp] theorem Device.setDefer_proto (b : Nat) (x : Defer) : (d.setDefer b x).proto = d.proto := rfl
@[simp] theorem Device.setDefer_upd (b : Nat) (x : Defer) : (d.setDefer b x).upd = d.upd := rfl
@[simp] theorem Device.setDefer_fetch (b : Nat) (x : Defer) : (d.setDefer b x).fetch = d.fetch := rfl
@[simp] theorem Device.setDefer_safety (b : Nat) (x : Defer) : (d.setDefer b x).safety = d.safety := rfl
@[simp] theorem Device.setDefer_bus (b : Nat) (x : Defer) : (d.setDefer b x).bus = d.bus := rfl
@[simp] theorem Device.setDefer_latch (b : Nat) (x : Defer) : (d.setDefer b x).latch = d.latch := rfl
@[simp] theorem Device.setDefer_freeCtr (b : Nat) (x : Defer) : (d.setDefer b x).freeCtr = d.freeCtr := rfl
@[simp] theorem Device.setDefer_rd (b : Nat) (x : Defer) (fl : Fld) : (d.setDefer b x).rd fl = d.rd fl := rfl
@[simp] theorem Device.setDefer_rdB (b : Nat) (x : Defer) (fl : Fld) : (d.setDefer b x).rdB fl = d.rdB fl := rfl

-- Device.answer
@[simp] theorem Device.answer_regs (v : Nat) : (d.answer v).regs = d.regs := rfl
@[simp] theorem Device.answer_defer (v : Nat) : (d.answer v).defer = d.defer := rfl
@[simp] theorem Device.answer_mem (v : Nat) : (d.answer v).mem = d.mem := rfl
@[simp] theorem Device.answer_ev (v : Nat) : (d.answer v).ev = d.ev := rfl
@[simp] theorem Device.answer_sp (v : Nat) : (d.answer v).sp = d.sp := rfl
@[simp] theorem Device.answer_pins (v : Nat) : (d.answer v).pins = d.pins := rfl
@[simp] theorem Device.answer_seq (v : Nat) : (d.answer v).seq = d.seq := rfl
@[simp] theorem Device.answer_arrays (v : Nat) : (d.answer v).arrays = d.arrays := rfl
@[simp] theorem Device.answer_cores (v : Nat) : (d.answer v).cores = d.cores := rfl
@[simp] theorem Device.answer_quant (v : Nat) : (d.answer v).quant = d.quant := rfl
@[simp] theorem Device.answer_dma (v : Nat) : (d.answer v).dma = d.dma := rfl
@[simp] theorem Device.answer_memc (v : Nat) : (d.answer v).memc = d.memc := rfl
@[simp] theorem Device.answer_cam (v : Nat) : (d.answer v).cam = d.cam := rfl
@[simp] theorem Device.answer_isp (v : Nat) : (d.answer v).isp = d.isp := rfl
@[simp] theorem Device.answer_vid (v : Nat) : (d.answer v).vid = d.vid := rfl
@[simp] theorem Device.answer_join (v : Nat) : (d.answer v).join = d.join := rfl
@[simp] theorem Device.answer_fo (v : Nat) : (d.answer v).fo = d.fo := rfl
@[simp] theorem Device.answer_pwr (v : Nat) : (d.answer v).pwr = d.pwr := rfl
@[simp] theorem Device.answer_boot (v : Nat) : (d.answer v).boot = d.boot := rfl
@[simp] theorem Device.answer_proto (v : Nat) : (d.answer v).proto = d.proto := rfl
@[simp] theorem Device.answer_upd (v : Nat) : (d.answer v).upd = d.upd := rfl
@[simp] theorem Device.answer_fetch (v : Nat) : (d.answer v).fetch = d.fetch := rfl
@[simp] theorem Device.answer_safety (v : Nat) : (d.answer v).safety = d.safety := rfl
@[simp] theorem Device.answer_latch (v : Nat) : (d.answer v).latch = d.latch := rfl
@[simp] theorem Device.answer_freeCtr (v : Nat) : (d.answer v).freeCtr = d.freeCtr := rfl
@[simp] theorem Device.answer_rd (v : Nat) (fl : Fld) : (d.answer v).rd fl = d.rd fl := rfl
@[simp] theorem Device.answer_rdB (v : Nat) (fl : Fld) : (d.answer v).rdB fl = d.rdB fl := rfl

-- Device.readLatching
@[simp] theorem Device.readLatching_regs (lo hiAddr hi : Nat) : (d.readLatching lo hiAddr hi).regs = d.regs := rfl
@[simp] theorem Device.readLatching_defer (lo hiAddr hi : Nat) : (d.readLatching lo hiAddr hi).defer = d.defer := rfl
@[simp] theorem Device.readLatching_mem (lo hiAddr hi : Nat) : (d.readLatching lo hiAddr hi).mem = d.mem := rfl
@[simp] theorem Device.readLatching_ev (lo hiAddr hi : Nat) : (d.readLatching lo hiAddr hi).ev = d.ev := rfl
@[simp] theorem Device.readLatching_sp (lo hiAddr hi : Nat) : (d.readLatching lo hiAddr hi).sp = d.sp := rfl
@[simp] theorem Device.readLatching_pins (lo hiAddr hi : Nat) : (d.readLatching lo hiAddr hi).pins = d.pins := rfl
@[simp] theorem Device.readLatching_seq (lo hiAddr hi : Nat) : (d.readLatching lo hiAddr hi).seq = d.seq := rfl
@[simp] theorem Device.readLatching_arrays (lo hiAddr hi : Nat) : (d.readLatching lo hiAddr hi).arrays = d.arrays := rfl
@[simp] theorem Device.readLatching_cores (lo hiAddr hi : Nat) : (d.readLatching lo hiAddr hi).cores = d.cores := rfl
@[simp] theorem Device.readLatching_quant (lo hiAddr hi : Nat) : (d.readLatching lo hiAddr hi).quant = d.quant := rfl
@[simp] theorem Device.readLatching_dma (lo hiAddr hi : Nat) : (d.readLatching lo hiAddr hi).dma = d.dma := rfl
@[simp] theorem Device.readLatching_memc (lo hiAddr hi : Nat) : (d.readLatching lo hiAddr hi).memc = d.memc := rfl
@[simp] theorem Device.readLatching_cam (lo hiAddr hi : Nat) : (d.readLatching lo hiAddr hi).cam = d.cam := rfl
@[simp] theorem Device.readLatching_isp (lo hiAddr hi : Nat) : (d.readLatching lo hiAddr hi).isp = d.isp := rfl
@[simp] theorem Device.readLatching_vid (lo hiAddr hi : Nat) : (d.readLatching lo hiAddr hi).vid = d.vid := rfl
@[simp] theorem Device.readLatching_join (lo hiAddr hi : Nat) : (d.readLatching lo hiAddr hi).join = d.join := rfl
@[simp] theorem Device.readLatching_fo (lo hiAddr hi : Nat) : (d.readLatching lo hiAddr hi).fo = d.fo := rfl
@[simp] theorem Device.readLatching_pwr (lo hiAddr hi : Nat) : (d.readLatching lo hiAddr hi).pwr = d.pwr := rfl
@[simp] theorem Device.readLatching_boot (lo hiAddr hi : Nat) : (d.readLatching lo hiAddr hi).boot = d.boot := rfl
@[simp] theorem Device.readLatching_proto (lo hiAddr hi : Nat) : (d.readLatching lo hiAddr hi).proto = d.proto := rfl
@[simp] theorem Device.readLatching_upd (lo hiAddr hi : Nat) : (d.readLatching lo hiAddr hi).upd = d.upd := rfl
@[simp] theorem Device.readLatching_fetch (lo hiAddr hi : Nat) : (d.readLatching lo hiAddr hi).fetch = d.fetch := rfl
@[simp] theorem Device.readLatching_safety (lo hiAddr hi : Nat) : (d.readLatching lo hiAddr hi).safety = d.safety := rfl
@[simp] theorem Device.readLatching_freeCtr (lo hiAddr hi : Nat) : (d.readLatching lo hiAddr hi).freeCtr = d.freeCtr := rfl
@[simp] theorem Device.readLatching_rd (lo hiAddr hi : Nat) (fl : Fld) : (d.readLatching lo hiAddr hi).rd fl = d.rd fl := rfl
@[simp] theorem Device.readLatching_rdB (lo hiAddr hi : Nat) (fl : Fld) : (d.readLatching lo hiAddr hi).rdB fl = d.rdB fl := rfl

-- Device.post
@[simp] theorem Device.post_regs (m : Message) : (d.post m).regs = d.regs := rfl
@[simp] theorem Device.post_defer (m : Message) : (d.post m).defer = d.defer := rfl
@[simp] theorem Device.post_mem (m : Message) : (d.post m).mem = d.mem := rfl
@[simp] theorem Device.post_ev (m : Message) : (d.post m).ev = d.ev := rfl
@[simp] theorem Device.post_sp (m : Message) : (d.post m).sp = d.sp := rfl
@[simp] theorem Device.post_pins (m : Message) : (d.post m).pins = d.pins := rfl
@[simp] theorem Device.post_seq (m : Message) : (d.post m).seq = d.seq := rfl
@[simp] theorem Device.post_arrays (m : Message) : (d.post m).arrays = d.arrays := rfl
@[simp] theorem Device.post_cores (m : Message) : (d.post m).cores = d.cores := rfl
@[simp] theorem Device.post_quant (m : Message) : (d.post m).quant = d.quant := rfl
@[simp] theorem Device.post_dma (m : Message) : (d.post m).dma = d.dma := rfl
@[simp] theorem Device.post_memc (m : Message) : (d.post m).memc = d.memc := rfl
@[simp] theorem Device.post_cam (m : Message) : (d.post m).cam = d.cam := rfl
@[simp] theorem Device.post_isp (m : Message) : (d.post m).isp = d.isp := rfl
@[simp] theorem Device.post_vid (m : Message) : (d.post m).vid = d.vid := rfl
@[simp] theorem Device.post_join (m : Message) : (d.post m).join = d.join := rfl
@[simp] theorem Device.post_fo (m : Message) : (d.post m).fo = d.fo := rfl
@[simp] theorem Device.post_pwr (m : Message) : (d.post m).pwr = d.pwr := rfl
@[simp] theorem Device.post_boot (m : Message) : (d.post m).boot = d.boot := rfl
@[simp] theorem Device.post_upd (m : Message) : (d.post m).upd = d.upd := rfl
@[simp] theorem Device.post_fetch (m : Message) : (d.post m).fetch = d.fetch := rfl
@[simp] theorem Device.post_safety (m : Message) : (d.post m).safety = d.safety := rfl
@[simp] theorem Device.post_bus (m : Message) : (d.post m).bus = d.bus := rfl
@[simp] theorem Device.post_latch (m : Message) : (d.post m).latch = d.latch := rfl
@[simp] theorem Device.post_freeCtr (m : Message) : (d.post m).freeCtr = d.freeCtr := rfl
@[simp] theorem Device.post_rd (m : Message) (fl : Fld) : (d.post m).rd fl = d.rd fl := rfl
@[simp] theorem Device.post_rdB (m : Message) (fl : Fld) : (d.post m).rdB fl = d.rdB fl := rfl

-- Device.setSession
@[simp] theorem Device.setSession_regs (x : Session) : (d.setSession x).regs = d.regs := rfl
@[simp] theorem Device.setSession_defer (x : Session) : (d.setSession x).defer = d.defer := rfl
@[simp] theorem Device.setSession_mem (x : Session) : (d.setSession x).mem = d.mem := rfl
@[simp] theorem Device.setSession_ev (x : Session) : (d.setSession x).ev = d.ev := rfl
@[simp] theorem Device.setSession_sp (x : Session) : (d.setSession x).sp = d.sp := rfl
@[simp] theorem Device.setSession_pins (x : Session) : (d.setSession x).pins = d.pins := rfl
@[simp] theorem Device.setSession_seq (x : Session) : (d.setSession x).seq = d.seq := rfl
@[simp] theorem Device.setSession_arrays (x : Session) : (d.setSession x).arrays = d.arrays := rfl
@[simp] theorem Device.setSession_cores (x : Session) : (d.setSession x).cores = d.cores := rfl
@[simp] theorem Device.setSession_quant (x : Session) : (d.setSession x).quant = d.quant := rfl
@[simp] theorem Device.setSession_dma (x : Session) : (d.setSession x).dma = d.dma := rfl
@[simp] theorem Device.setSession_memc (x : Session) : (d.setSession x).memc = d.memc := rfl
@[simp] theorem Device.setSession_cam (x : Session) : (d.setSession x).cam = d.cam := rfl
@[simp] theorem Device.setSession_isp (x : Session) : (d.setSession x).isp = d.isp := rfl
@[simp] theorem Device.setSession_vid (x : Session) : (d.setSession x).vid = d.vid := rfl
@[simp] theorem Device.setSession_join (x : Session) : (d.setSession x).join = d.join := rfl
@[simp] theorem Device.setSession_fo (x : Session) : (d.setSession x).fo = d.fo := rfl
@[simp] theorem Device.setSession_pwr (x : Session) : (d.setSession x).pwr = d.pwr := rfl
@[simp] theorem Device.setSession_boot (x : Session) : (d.setSession x).boot = d.boot := rfl
@[simp] theorem Device.setSession_upd (x : Session) : (d.setSession x).upd = d.upd := rfl
@[simp] theorem Device.setSession_fetch (x : Session) : (d.setSession x).fetch = d.fetch := rfl
@[simp] theorem Device.setSession_safety (x : Session) : (d.setSession x).safety = d.safety := rfl
@[simp] theorem Device.setSession_bus (x : Session) : (d.setSession x).bus = d.bus := rfl
@[simp] theorem Device.setSession_latch (x : Session) : (d.setSession x).latch = d.latch := rfl
@[simp] theorem Device.setSession_freeCtr (x : Session) : (d.setSession x).freeCtr = d.freeCtr := rfl
@[simp] theorem Device.setSession_rd (x : Session) (fl : Fld) : (d.setSession x).rd fl = d.rd fl := rfl
@[simp] theorem Device.setSession_rdB (x : Session) (fl : Fld) : (d.setSession x).rdB fl = d.rdB fl := rfl

-- Device.keepSessions
@[simp] theorem Device.keepSessions_regs (p : Session → Bool) : (d.keepSessions p).regs = d.regs := rfl
@[simp] theorem Device.keepSessions_defer (p : Session → Bool) : (d.keepSessions p).defer = d.defer := rfl
@[simp] theorem Device.keepSessions_mem (p : Session → Bool) : (d.keepSessions p).mem = d.mem := rfl
@[simp] theorem Device.keepSessions_ev (p : Session → Bool) : (d.keepSessions p).ev = d.ev := rfl
@[simp] theorem Device.keepSessions_sp (p : Session → Bool) : (d.keepSessions p).sp = d.sp := rfl
@[simp] theorem Device.keepSessions_pins (p : Session → Bool) : (d.keepSessions p).pins = d.pins := rfl
@[simp] theorem Device.keepSessions_seq (p : Session → Bool) : (d.keepSessions p).seq = d.seq := rfl
@[simp] theorem Device.keepSessions_arrays (p : Session → Bool) : (d.keepSessions p).arrays = d.arrays := rfl
@[simp] theorem Device.keepSessions_cores (p : Session → Bool) : (d.keepSessions p).cores = d.cores := rfl
@[simp] theorem Device.keepSessions_quant (p : Session → Bool) : (d.keepSessions p).quant = d.quant := rfl
@[simp] theorem Device.keepSessions_dma (p : Session → Bool) : (d.keepSessions p).dma = d.dma := rfl
@[simp] theorem Device.keepSessions_memc (p : Session → Bool) : (d.keepSessions p).memc = d.memc := rfl
@[simp] theorem Device.keepSessions_cam (p : Session → Bool) : (d.keepSessions p).cam = d.cam := rfl
@[simp] theorem Device.keepSessions_isp (p : Session → Bool) : (d.keepSessions p).isp = d.isp := rfl
@[simp] theorem Device.keepSessions_vid (p : Session → Bool) : (d.keepSessions p).vid = d.vid := rfl
@[simp] theorem Device.keepSessions_join (p : Session → Bool) : (d.keepSessions p).join = d.join := rfl
@[simp] theorem Device.keepSessions_fo (p : Session → Bool) : (d.keepSessions p).fo = d.fo := rfl
@[simp] theorem Device.keepSessions_pwr (p : Session → Bool) : (d.keepSessions p).pwr = d.pwr := rfl
@[simp] theorem Device.keepSessions_boot (p : Session → Bool) : (d.keepSessions p).boot = d.boot := rfl
@[simp] theorem Device.keepSessions_upd (p : Session → Bool) : (d.keepSessions p).upd = d.upd := rfl
@[simp] theorem Device.keepSessions_fetch (p : Session → Bool) : (d.keepSessions p).fetch = d.fetch := rfl
@[simp] theorem Device.keepSessions_safety (p : Session → Bool) : (d.keepSessions p).safety = d.safety := rfl
@[simp] theorem Device.keepSessions_bus (p : Session → Bool) : (d.keepSessions p).bus = d.bus := rfl
@[simp] theorem Device.keepSessions_latch (p : Session → Bool) : (d.keepSessions p).latch = d.latch := rfl
@[simp] theorem Device.keepSessions_freeCtr (p : Session → Bool) : (d.keepSessions p).freeCtr = d.freeCtr := rfl
@[simp] theorem Device.keepSessions_rd (p : Session → Bool) (fl : Fld) : (d.keepSessions p).rd fl = d.rd fl := rfl
@[simp] theorem Device.keepSessions_rdB (p : Session → Bool) (fl : Fld) : (d.keepSessions p).rdB fl = d.rdB fl := rfl

-- Device.takeReady
@[simp] theorem Device.takeReady_regs (h : ReqHdr) : (d.takeReady h).regs = d.regs := rfl
@[simp] theorem Device.takeReady_defer (h : ReqHdr) : (d.takeReady h).defer = d.defer := rfl
@[simp] theorem Device.takeReady_mem (h : ReqHdr) : (d.takeReady h).mem = d.mem := rfl
@[simp] theorem Device.takeReady_ev (h : ReqHdr) : (d.takeReady h).ev = d.ev := rfl
@[simp] theorem Device.takeReady_sp (h : ReqHdr) : (d.takeReady h).sp = d.sp := rfl
@[simp] theorem Device.takeReady_pins (h : ReqHdr) : (d.takeReady h).pins = d.pins := rfl
@[simp] theorem Device.takeReady_seq (h : ReqHdr) : (d.takeReady h).seq = d.seq := rfl
@[simp] theorem Device.takeReady_arrays (h : ReqHdr) : (d.takeReady h).arrays = d.arrays := rfl
@[simp] theorem Device.takeReady_cores (h : ReqHdr) : (d.takeReady h).cores = d.cores := rfl
@[simp] theorem Device.takeReady_quant (h : ReqHdr) : (d.takeReady h).quant = d.quant := rfl
@[simp] theorem Device.takeReady_dma (h : ReqHdr) : (d.takeReady h).dma = d.dma := rfl
@[simp] theorem Device.takeReady_memc (h : ReqHdr) : (d.takeReady h).memc = d.memc := rfl
@[simp] theorem Device.takeReady_cam (h : ReqHdr) : (d.takeReady h).cam = d.cam := rfl
@[simp] theorem Device.takeReady_isp (h : ReqHdr) : (d.takeReady h).isp = d.isp := rfl
@[simp] theorem Device.takeReady_vid (h : ReqHdr) : (d.takeReady h).vid = d.vid := rfl
@[simp] theorem Device.takeReady_join (h : ReqHdr) : (d.takeReady h).join = d.join := rfl
@[simp] theorem Device.takeReady_fo (h : ReqHdr) : (d.takeReady h).fo = d.fo := rfl
@[simp] theorem Device.takeReady_pwr (h : ReqHdr) : (d.takeReady h).pwr = d.pwr := rfl
@[simp] theorem Device.takeReady_boot (h : ReqHdr) : (d.takeReady h).boot = d.boot := rfl
@[simp] theorem Device.takeReady_upd (h : ReqHdr) : (d.takeReady h).upd = d.upd := rfl
@[simp] theorem Device.takeReady_fetch (h : ReqHdr) : (d.takeReady h).fetch = d.fetch := rfl
@[simp] theorem Device.takeReady_safety (h : ReqHdr) : (d.takeReady h).safety = d.safety := rfl
@[simp] theorem Device.takeReady_bus (h : ReqHdr) : (d.takeReady h).bus = d.bus := rfl
@[simp] theorem Device.takeReady_latch (h : ReqHdr) : (d.takeReady h).latch = d.latch := rfl
@[simp] theorem Device.takeReady_freeCtr (h : ReqHdr) : (d.takeReady h).freeCtr = d.freeCtr := rfl
@[simp] theorem Device.takeReady_rd (h : ReqHdr) (fl : Fld) : (d.takeReady h).rd fl = d.rd fl := rfl
@[simp] theorem Device.takeReady_rdB (h : ReqHdr) (fl : Fld) : (d.takeReady h).rdB fl = d.rdB fl := rfl

-- Device.addReady
@[simp] theorem Device.addReady_regs (r : Request) : (d.addReady r).regs = d.regs := rfl
@[simp] theorem Device.addReady_defer (r : Request) : (d.addReady r).defer = d.defer := rfl
@[simp] theorem Device.addReady_mem (r : Request) : (d.addReady r).mem = d.mem := rfl
@[simp] theorem Device.addReady_ev (r : Request) : (d.addReady r).ev = d.ev := rfl
@[simp] theorem Device.addReady_sp (r : Request) : (d.addReady r).sp = d.sp := rfl
@[simp] theorem Device.addReady_pins (r : Request) : (d.addReady r).pins = d.pins := rfl
@[simp] theorem Device.addReady_seq (r : Request) : (d.addReady r).seq = d.seq := rfl
@[simp] theorem Device.addReady_arrays (r : Request) : (d.addReady r).arrays = d.arrays := rfl
@[simp] theorem Device.addReady_cores (r : Request) : (d.addReady r).cores = d.cores := rfl
@[simp] theorem Device.addReady_quant (r : Request) : (d.addReady r).quant = d.quant := rfl
@[simp] theorem Device.addReady_dma (r : Request) : (d.addReady r).dma = d.dma := rfl
@[simp] theorem Device.addReady_memc (r : Request) : (d.addReady r).memc = d.memc := rfl
@[simp] theorem Device.addReady_cam (r : Request) : (d.addReady r).cam = d.cam := rfl
@[simp] theorem Device.addReady_isp (r : Request) : (d.addReady r).isp = d.isp := rfl
@[simp] theorem Device.addReady_vid (r : Request) : (d.addReady r).vid = d.vid := rfl
@[simp] theorem Device.addReady_join (r : Request) : (d.addReady r).join = d.join := rfl
@[simp] theorem Device.addReady_fo (r : Request) : (d.addReady r).fo = d.fo := rfl
@[simp] theorem Device.addReady_pwr (r : Request) : (d.addReady r).pwr = d.pwr := rfl
@[simp] theorem Device.addReady_boot (r : Request) : (d.addReady r).boot = d.boot := rfl
@[simp] theorem Device.addReady_upd (r : Request) : (d.addReady r).upd = d.upd := rfl
@[simp] theorem Device.addReady_fetch (r : Request) : (d.addReady r).fetch = d.fetch := rfl
@[simp] theorem Device.addReady_safety (r : Request) : (d.addReady r).safety = d.safety := rfl
@[simp] theorem Device.addReady_bus (r : Request) : (d.addReady r).bus = d.bus := rfl
@[simp] theorem Device.addReady_latch (r : Request) : (d.addReady r).latch = d.latch := rfl
@[simp] theorem Device.addReady_freeCtr (r : Request) : (d.addReady r).freeCtr = d.freeCtr := rfl
@[simp] theorem Device.addReady_rd (r : Request) (fl : Fld) : (d.addReady r).rd fl = d.rd fl := rfl
@[simp] theorem Device.addReady_rdB (r : Request) (fl : Fld) : (d.addReady r).rdB fl = d.rdB fl := rfl

-- Device.updItem
@[simp] theorem Device.updItem_regs (num turn : Nat) (g : ItemRt → ItemRt) : (d.updItem num turn g).regs = d.regs := rfl
@[simp] theorem Device.updItem_defer (num turn : Nat) (g : ItemRt → ItemRt) : (d.updItem num turn g).defer = d.defer := rfl
@[simp] theorem Device.updItem_mem (num turn : Nat) (g : ItemRt → ItemRt) : (d.updItem num turn g).mem = d.mem := rfl
@[simp] theorem Device.updItem_ev (num turn : Nat) (g : ItemRt → ItemRt) : (d.updItem num turn g).ev = d.ev := rfl
@[simp] theorem Device.updItem_sp (num turn : Nat) (g : ItemRt → ItemRt) : (d.updItem num turn g).sp = d.sp := rfl
@[simp] theorem Device.updItem_pins (num turn : Nat) (g : ItemRt → ItemRt) : (d.updItem num turn g).pins = d.pins := rfl
@[simp] theorem Device.updItem_arrays (num turn : Nat) (g : ItemRt → ItemRt) : (d.updItem num turn g).arrays = d.arrays := rfl
@[simp] theorem Device.updItem_cores (num turn : Nat) (g : ItemRt → ItemRt) : (d.updItem num turn g).cores = d.cores := rfl
@[simp] theorem Device.updItem_quant (num turn : Nat) (g : ItemRt → ItemRt) : (d.updItem num turn g).quant = d.quant := rfl
@[simp] theorem Device.updItem_dma (num turn : Nat) (g : ItemRt → ItemRt) : (d.updItem num turn g).dma = d.dma := rfl
@[simp] theorem Device.updItem_memc (num turn : Nat) (g : ItemRt → ItemRt) : (d.updItem num turn g).memc = d.memc := rfl
@[simp] theorem Device.updItem_cam (num turn : Nat) (g : ItemRt → ItemRt) : (d.updItem num turn g).cam = d.cam := rfl
@[simp] theorem Device.updItem_isp (num turn : Nat) (g : ItemRt → ItemRt) : (d.updItem num turn g).isp = d.isp := rfl
@[simp] theorem Device.updItem_vid (num turn : Nat) (g : ItemRt → ItemRt) : (d.updItem num turn g).vid = d.vid := rfl
@[simp] theorem Device.updItem_join (num turn : Nat) (g : ItemRt → ItemRt) : (d.updItem num turn g).join = d.join := rfl
@[simp] theorem Device.updItem_fo (num turn : Nat) (g : ItemRt → ItemRt) : (d.updItem num turn g).fo = d.fo := rfl
@[simp] theorem Device.updItem_pwr (num turn : Nat) (g : ItemRt → ItemRt) : (d.updItem num turn g).pwr = d.pwr := rfl
@[simp] theorem Device.updItem_boot (num turn : Nat) (g : ItemRt → ItemRt) : (d.updItem num turn g).boot = d.boot := rfl
@[simp] theorem Device.updItem_proto (num turn : Nat) (g : ItemRt → ItemRt) : (d.updItem num turn g).proto = d.proto := rfl
@[simp] theorem Device.updItem_upd (num turn : Nat) (g : ItemRt → ItemRt) : (d.updItem num turn g).upd = d.upd := rfl
@[simp] theorem Device.updItem_fetch (num turn : Nat) (g : ItemRt → ItemRt) : (d.updItem num turn g).fetch = d.fetch := rfl
@[simp] theorem Device.updItem_safety (num turn : Nat) (g : ItemRt → ItemRt) : (d.updItem num turn g).safety = d.safety := rfl
@[simp] theorem Device.updItem_bus (num turn : Nat) (g : ItemRt → ItemRt) : (d.updItem num turn g).bus = d.bus := rfl
@[simp] theorem Device.updItem_latch (num turn : Nat) (g : ItemRt → ItemRt) : (d.updItem num turn g).latch = d.latch := rfl
@[simp] theorem Device.updItem_freeCtr (num turn : Nat) (g : ItemRt → ItemRt) : (d.updItem num turn g).freeCtr = d.freeCtr := rfl
@[simp] theorem Device.updItem_rd (num turn : Nat) (g : ItemRt → ItemRt) (fl : Fld) : (d.updItem num turn g).rd fl = d.rd fl := rfl
@[simp] theorem Device.updItem_rdB (num turn : Nat) (g : ItemRt → ItemRt) (fl : Fld) : (d.updItem num turn g).rdB fl = d.rdB fl := rfl

-- Device.removeItem
@[simp] theorem Device.removeItem_regs (num turn : Nat) : (d.removeItem num turn).regs = d.regs := rfl
@[simp] theorem Device.removeItem_defer (num turn : Nat) : (d.removeItem num turn).defer = d.defer := rfl
@[simp] theorem Device.removeItem_mem (num turn : Nat) : (d.removeItem num turn).mem = d.mem := rfl
@[simp] theorem Device.removeItem_ev (num turn : Nat) : (d.removeItem num turn).ev = d.ev := rfl
@[simp] theorem Device.removeItem_sp (num turn : Nat) : (d.removeItem num turn).sp = d.sp := rfl
@[simp] theorem Device.removeItem_pins (num turn : Nat) : (d.removeItem num turn).pins = d.pins := rfl
@[simp] theorem Device.removeItem_arrays (num turn : Nat) : (d.removeItem num turn).arrays = d.arrays := rfl
@[simp] theorem Device.removeItem_cores (num turn : Nat) : (d.removeItem num turn).cores = d.cores := rfl
@[simp] theorem Device.removeItem_quant (num turn : Nat) : (d.removeItem num turn).quant = d.quant := rfl
@[simp] theorem Device.removeItem_dma (num turn : Nat) : (d.removeItem num turn).dma = d.dma := rfl
@[simp] theorem Device.removeItem_memc (num turn : Nat) : (d.removeItem num turn).memc = d.memc := rfl
@[simp] theorem Device.removeItem_cam (num turn : Nat) : (d.removeItem num turn).cam = d.cam := rfl
@[simp] theorem Device.removeItem_isp (num turn : Nat) : (d.removeItem num turn).isp = d.isp := rfl
@[simp] theorem Device.removeItem_vid (num turn : Nat) : (d.removeItem num turn).vid = d.vid := rfl
@[simp] theorem Device.removeItem_join (num turn : Nat) : (d.removeItem num turn).join = d.join := rfl
@[simp] theorem Device.removeItem_fo (num turn : Nat) : (d.removeItem num turn).fo = d.fo := rfl
@[simp] theorem Device.removeItem_pwr (num turn : Nat) : (d.removeItem num turn).pwr = d.pwr := rfl
@[simp] theorem Device.removeItem_boot (num turn : Nat) : (d.removeItem num turn).boot = d.boot := rfl
@[simp] theorem Device.removeItem_proto (num turn : Nat) : (d.removeItem num turn).proto = d.proto := rfl
@[simp] theorem Device.removeItem_upd (num turn : Nat) : (d.removeItem num turn).upd = d.upd := rfl
@[simp] theorem Device.removeItem_fetch (num turn : Nat) : (d.removeItem num turn).fetch = d.fetch := rfl
@[simp] theorem Device.removeItem_safety (num turn : Nat) : (d.removeItem num turn).safety = d.safety := rfl
@[simp] theorem Device.removeItem_bus (num turn : Nat) : (d.removeItem num turn).bus = d.bus := rfl
@[simp] theorem Device.removeItem_latch (num turn : Nat) : (d.removeItem num turn).latch = d.latch := rfl
@[simp] theorem Device.removeItem_freeCtr (num turn : Nat) : (d.removeItem num turn).freeCtr = d.freeCtr := rfl
@[simp] theorem Device.removeItem_rd (num turn : Nat) (fl : Fld) : (d.removeItem num turn).rd fl = d.rd fl := rfl
@[simp] theorem Device.removeItem_rdB (num turn : Nat) (fl : Fld) : (d.removeItem num turn).rdB fl = d.rdB fl := rfl

-- Device.setReplay
@[simp] theorem Device.setReplay_regs (g : Replay → Replay) : (d.setReplay g).regs = d.regs := rfl
@[simp] theorem Device.setReplay_defer (g : Replay → Replay) : (d.setReplay g).defer = d.defer := rfl
@[simp] theorem Device.setReplay_mem (g : Replay → Replay) : (d.setReplay g).mem = d.mem := rfl
@[simp] theorem Device.setReplay_ev (g : Replay → Replay) : (d.setReplay g).ev = d.ev := rfl
@[simp] theorem Device.setReplay_sp (g : Replay → Replay) : (d.setReplay g).sp = d.sp := rfl
@[simp] theorem Device.setReplay_pins (g : Replay → Replay) : (d.setReplay g).pins = d.pins := rfl
@[simp] theorem Device.setReplay_seq (g : Replay → Replay) : (d.setReplay g).seq = d.seq := rfl
@[simp] theorem Device.setReplay_arrays (g : Replay → Replay) : (d.setReplay g).arrays = d.arrays := rfl
@[simp] theorem Device.setReplay_cores (g : Replay → Replay) : (d.setReplay g).cores = d.cores := rfl
@[simp] theorem Device.setReplay_quant (g : Replay → Replay) : (d.setReplay g).quant = d.quant := rfl
@[simp] theorem Device.setReplay_dma (g : Replay → Replay) : (d.setReplay g).dma = d.dma := rfl
@[simp] theorem Device.setReplay_memc (g : Replay → Replay) : (d.setReplay g).memc = d.memc := rfl
@[simp] theorem Device.setReplay_cam (g : Replay → Replay) : (d.setReplay g).cam = d.cam := rfl
@[simp] theorem Device.setReplay_isp (g : Replay → Replay) : (d.setReplay g).isp = d.isp := rfl
@[simp] theorem Device.setReplay_join (g : Replay → Replay) : (d.setReplay g).join = d.join := rfl
@[simp] theorem Device.setReplay_fo (g : Replay → Replay) : (d.setReplay g).fo = d.fo := rfl
@[simp] theorem Device.setReplay_pwr (g : Replay → Replay) : (d.setReplay g).pwr = d.pwr := rfl
@[simp] theorem Device.setReplay_boot (g : Replay → Replay) : (d.setReplay g).boot = d.boot := rfl
@[simp] theorem Device.setReplay_proto (g : Replay → Replay) : (d.setReplay g).proto = d.proto := rfl
@[simp] theorem Device.setReplay_upd (g : Replay → Replay) : (d.setReplay g).upd = d.upd := rfl
@[simp] theorem Device.setReplay_fetch (g : Replay → Replay) : (d.setReplay g).fetch = d.fetch := rfl
@[simp] theorem Device.setReplay_safety (g : Replay → Replay) : (d.setReplay g).safety = d.safety := rfl
@[simp] theorem Device.setReplay_bus (g : Replay → Replay) : (d.setReplay g).bus = d.bus := rfl
@[simp] theorem Device.setReplay_latch (g : Replay → Replay) : (d.setReplay g).latch = d.latch := rfl
@[simp] theorem Device.setReplay_freeCtr (g : Replay → Replay) : (d.setReplay g).freeCtr = d.freeCtr := rfl
@[simp] theorem Device.setReplay_rd (g : Replay → Replay) (fl : Fld) : (d.setReplay g).rd fl = d.rd fl := rfl
@[simp] theorem Device.setReplay_rdB (g : Replay → Replay) (fl : Fld) : (d.setReplay g).rdB fl = d.rdB fl := rfl

-- Device.enqueue
@[simp] theorem Device.enqueue_regs (e : EventRec) : (d.enqueue e).regs = d.regs := rfl
@[simp] theorem Device.enqueue_defer (e : EventRec) : (d.enqueue e).defer = d.defer := rfl
@[simp] theorem Device.enqueue_mem (e : EventRec) : (d.enqueue e).mem = d.mem := rfl
@[simp] theorem Device.enqueue_sp (e : EventRec) : (d.enqueue e).sp = d.sp := rfl
@[simp] theorem Device.enqueue_pins (e : EventRec) : (d.enqueue e).pins = d.pins := rfl
@[simp] theorem Device.enqueue_seq (e : EventRec) : (d.enqueue e).seq = d.seq := rfl
@[simp] theorem Device.enqueue_arrays (e : EventRec) : (d.enqueue e).arrays = d.arrays := rfl
@[simp] theorem Device.enqueue_cores (e : EventRec) : (d.enqueue e).cores = d.cores := rfl
@[simp] theorem Device.enqueue_quant (e : EventRec) : (d.enqueue e).quant = d.quant := rfl
@[simp] theorem Device.enqueue_dma (e : EventRec) : (d.enqueue e).dma = d.dma := rfl
@[simp] theorem Device.enqueue_memc (e : EventRec) : (d.enqueue e).memc = d.memc := rfl
@[simp] theorem Device.enqueue_cam (e : EventRec) : (d.enqueue e).cam = d.cam := rfl
@[simp] theorem Device.enqueue_isp (e : EventRec) : (d.enqueue e).isp = d.isp := rfl
@[simp] theorem Device.enqueue_vid (e : EventRec) : (d.enqueue e).vid = d.vid := rfl
@[simp] theorem Device.enqueue_join (e : EventRec) : (d.enqueue e).join = d.join := rfl
@[simp] theorem Device.enqueue_fo (e : EventRec) : (d.enqueue e).fo = d.fo := rfl
@[simp] theorem Device.enqueue_pwr (e : EventRec) : (d.enqueue e).pwr = d.pwr := rfl
@[simp] theorem Device.enqueue_boot (e : EventRec) : (d.enqueue e).boot = d.boot := rfl
@[simp] theorem Device.enqueue_proto (e : EventRec) : (d.enqueue e).proto = d.proto := rfl
@[simp] theorem Device.enqueue_upd (e : EventRec) : (d.enqueue e).upd = d.upd := rfl
@[simp] theorem Device.enqueue_fetch (e : EventRec) : (d.enqueue e).fetch = d.fetch := rfl
@[simp] theorem Device.enqueue_safety (e : EventRec) : (d.enqueue e).safety = d.safety := rfl
@[simp] theorem Device.enqueue_bus (e : EventRec) : (d.enqueue e).bus = d.bus := rfl
@[simp] theorem Device.enqueue_latch (e : EventRec) : (d.enqueue e).latch = d.latch := rfl
@[simp] theorem Device.enqueue_freeCtr (e : EventRec) : (d.enqueue e).freeCtr = d.freeCtr := rfl
@[simp] theorem Device.enqueue_rd (e : EventRec) (fl : Fld) : (d.enqueue e).rd fl = d.rd fl := rfl
@[simp] theorem Device.enqueue_rdB (e : EventRec) (fl : Fld) : (d.enqueue e).rdB fl = d.rdB fl := rfl

-- Device.raiseFrom
@[simp] theorem Device.raiseFrom_regs (src code payload : Nat) : (d.raiseFrom src code payload).regs = d.regs := rfl
@[simp] theorem Device.raiseFrom_defer (src code payload : Nat) : (d.raiseFrom src code payload).defer = d.defer := rfl
@[simp] theorem Device.raiseFrom_mem (src code payload : Nat) : (d.raiseFrom src code payload).mem = d.mem := rfl
@[simp] theorem Device.raiseFrom_sp (src code payload : Nat) : (d.raiseFrom src code payload).sp = d.sp := rfl
@[simp] theorem Device.raiseFrom_pins (src code payload : Nat) : (d.raiseFrom src code payload).pins = d.pins := rfl
@[simp] theorem Device.raiseFrom_seq (src code payload : Nat) : (d.raiseFrom src code payload).seq = d.seq := rfl
@[simp] theorem Device.raiseFrom_arrays (src code payload : Nat) : (d.raiseFrom src code payload).arrays = d.arrays := rfl
@[simp] theorem Device.raiseFrom_cores (src code payload : Nat) : (d.raiseFrom src code payload).cores = d.cores := rfl
@[simp] theorem Device.raiseFrom_quant (src code payload : Nat) : (d.raiseFrom src code payload).quant = d.quant := rfl
@[simp] theorem Device.raiseFrom_dma (src code payload : Nat) : (d.raiseFrom src code payload).dma = d.dma := rfl
@[simp] theorem Device.raiseFrom_memc (src code payload : Nat) : (d.raiseFrom src code payload).memc = d.memc := rfl
@[simp] theorem Device.raiseFrom_cam (src code payload : Nat) : (d.raiseFrom src code payload).cam = d.cam := rfl
@[simp] theorem Device.raiseFrom_isp (src code payload : Nat) : (d.raiseFrom src code payload).isp = d.isp := rfl
@[simp] theorem Device.raiseFrom_vid (src code payload : Nat) : (d.raiseFrom src code payload).vid = d.vid := rfl
@[simp] theorem Device.raiseFrom_join (src code payload : Nat) : (d.raiseFrom src code payload).join = d.join := rfl
@[simp] theorem Device.raiseFrom_fo (src code payload : Nat) : (d.raiseFrom src code payload).fo = d.fo := rfl
@[simp] theorem Device.raiseFrom_pwr (src code payload : Nat) : (d.raiseFrom src code payload).pwr = d.pwr := rfl
@[simp] theorem Device.raiseFrom_boot (src code payload : Nat) : (d.raiseFrom src code payload).boot = d.boot := rfl
@[simp] theorem Device.raiseFrom_proto (src code payload : Nat) : (d.raiseFrom src code payload).proto = d.proto := rfl
@[simp] theorem Device.raiseFrom_upd (src code payload : Nat) : (d.raiseFrom src code payload).upd = d.upd := rfl
@[simp] theorem Device.raiseFrom_fetch (src code payload : Nat) : (d.raiseFrom src code payload).fetch = d.fetch := rfl
@[simp] theorem Device.raiseFrom_safety (src code payload : Nat) : (d.raiseFrom src code payload).safety = d.safety := rfl
@[simp] theorem Device.raiseFrom_bus (src code payload : Nat) : (d.raiseFrom src code payload).bus = d.bus := rfl
@[simp] theorem Device.raiseFrom_latch (src code payload : Nat) : (d.raiseFrom src code payload).latch = d.latch := rfl
@[simp] theorem Device.raiseFrom_freeCtr (src code payload : Nat) : (d.raiseFrom src code payload).freeCtr = d.freeCtr := rfl
@[simp] theorem Device.raiseFrom_rd (src code payload : Nat) (fl : Fld) : (d.raiseFrom src code payload).rd fl = d.rd fl := rfl
@[simp] theorem Device.raiseFrom_rdB (src code payload : Nat) (fl : Fld) : (d.raiseFrom src code payload).rdB fl = d.rdB fl := rfl

-- Device.raise
@[simp] theorem Device.raise_regs (code payload : Nat) : (d.raise code payload).regs = d.regs := rfl
@[simp] theorem Device.raise_defer (code payload : Nat) : (d.raise code payload).defer = d.defer := rfl
@[simp] theorem Device.raise_mem (code payload : Nat) : (d.raise code payload).mem = d.mem := rfl
@[simp] theorem Device.raise_sp (code payload : Nat) : (d.raise code payload).sp = d.sp := rfl
@[simp] theorem Device.raise_pins (code payload : Nat) : (d.raise code payload).pins = d.pins := rfl
@[simp] theorem Device.raise_seq (code payload : Nat) : (d.raise code payload).seq = d.seq := rfl
@[simp] theorem Device.raise_arrays (code payload : Nat) : (d.raise code payload).arrays = d.arrays := rfl
@[simp] theorem Device.raise_cores (code payload : Nat) : (d.raise code payload).cores = d.cores := rfl
@[simp] theorem Device.raise_quant (code payload : Nat) : (d.raise code payload).quant = d.quant := rfl
@[simp] theorem Device.raise_dma (code payload : Nat) : (d.raise code payload).dma = d.dma := rfl
@[simp] theorem Device.raise_memc (code payload : Nat) : (d.raise code payload).memc = d.memc := rfl
@[simp] theorem Device.raise_cam (code payload : Nat) : (d.raise code payload).cam = d.cam := rfl
@[simp] theorem Device.raise_isp (code payload : Nat) : (d.raise code payload).isp = d.isp := rfl
@[simp] theorem Device.raise_vid (code payload : Nat) : (d.raise code payload).vid = d.vid := rfl
@[simp] theorem Device.raise_join (code payload : Nat) : (d.raise code payload).join = d.join := rfl
@[simp] theorem Device.raise_fo (code payload : Nat) : (d.raise code payload).fo = d.fo := rfl
@[simp] theorem Device.raise_pwr (code payload : Nat) : (d.raise code payload).pwr = d.pwr := rfl
@[simp] theorem Device.raise_boot (code payload : Nat) : (d.raise code payload).boot = d.boot := rfl
@[simp] theorem Device.raise_proto (code payload : Nat) : (d.raise code payload).proto = d.proto := rfl
@[simp] theorem Device.raise_upd (code payload : Nat) : (d.raise code payload).upd = d.upd := rfl
@[simp] theorem Device.raise_fetch (code payload : Nat) : (d.raise code payload).fetch = d.fetch := rfl
@[simp] theorem Device.raise_safety (code payload : Nat) : (d.raise code payload).safety = d.safety := rfl
@[simp] theorem Device.raise_bus (code payload : Nat) : (d.raise code payload).bus = d.bus := rfl
@[simp] theorem Device.raise_latch (code payload : Nat) : (d.raise code payload).latch = d.latch := rfl
@[simp] theorem Device.raise_freeCtr (code payload : Nat) : (d.raise code payload).freeCtr = d.freeCtr := rfl
@[simp] theorem Device.raise_rd (code payload : Nat) (fl : Fld) : (d.raise code payload).rd fl = d.rd fl := rfl
@[simp] theorem Device.raise_rdB (code payload : Nat) (fl : Fld) : (d.raise code payload).rdB fl = d.rdB fl := rfl

-- Device.raiseIf
@[simp] theorem Device.raiseIf_regs (c : Bool) (code payload : Nat) : (d.raiseIf c code payload).regs = d.regs := rfl
@[simp] theorem Device.raiseIf_defer (c : Bool) (code payload : Nat) : (d.raiseIf c code payload).defer = d.defer := rfl
@[simp] theorem Device.raiseIf_mem (c : Bool) (code payload : Nat) : (d.raiseIf c code payload).mem = d.mem := rfl
@[simp] theorem Device.raiseIf_sp (c : Bool) (code payload : Nat) : (d.raiseIf c code payload).sp = d.sp := rfl
@[simp] theorem Device.raiseIf_pins (c : Bool) (code payload : Nat) : (d.raiseIf c code payload).pins = d.pins := rfl
@[simp] theorem Device.raiseIf_seq (c : Bool) (code payload : Nat) : (d.raiseIf c code payload).seq = d.seq := rfl
@[simp] theorem Device.raiseIf_arrays (c : Bool) (code payload : Nat) : (d.raiseIf c code payload).arrays = d.arrays := rfl
@[simp] theorem Device.raiseIf_cores (c : Bool) (code payload : Nat) : (d.raiseIf c code payload).cores = d.cores := rfl
@[simp] theorem Device.raiseIf_quant (c : Bool) (code payload : Nat) : (d.raiseIf c code payload).quant = d.quant := rfl
@[simp] theorem Device.raiseIf_dma (c : Bool) (code payload : Nat) : (d.raiseIf c code payload).dma = d.dma := rfl
@[simp] theorem Device.raiseIf_memc (c : Bool) (code payload : Nat) : (d.raiseIf c code payload).memc = d.memc := rfl
@[simp] theorem Device.raiseIf_cam (c : Bool) (code payload : Nat) : (d.raiseIf c code payload).cam = d.cam := rfl
@[simp] theorem Device.raiseIf_isp (c : Bool) (code payload : Nat) : (d.raiseIf c code payload).isp = d.isp := rfl
@[simp] theorem Device.raiseIf_vid (c : Bool) (code payload : Nat) : (d.raiseIf c code payload).vid = d.vid := rfl
@[simp] theorem Device.raiseIf_join (c : Bool) (code payload : Nat) : (d.raiseIf c code payload).join = d.join := rfl
@[simp] theorem Device.raiseIf_fo (c : Bool) (code payload : Nat) : (d.raiseIf c code payload).fo = d.fo := rfl
@[simp] theorem Device.raiseIf_pwr (c : Bool) (code payload : Nat) : (d.raiseIf c code payload).pwr = d.pwr := rfl
@[simp] theorem Device.raiseIf_boot (c : Bool) (code payload : Nat) : (d.raiseIf c code payload).boot = d.boot := rfl
@[simp] theorem Device.raiseIf_proto (c : Bool) (code payload : Nat) : (d.raiseIf c code payload).proto = d.proto := rfl
@[simp] theorem Device.raiseIf_upd (c : Bool) (code payload : Nat) : (d.raiseIf c code payload).upd = d.upd := rfl
@[simp] theorem Device.raiseIf_fetch (c : Bool) (code payload : Nat) : (d.raiseIf c code payload).fetch = d.fetch := rfl
@[simp] theorem Device.raiseIf_safety (c : Bool) (code payload : Nat) : (d.raiseIf c code payload).safety = d.safety := rfl
@[simp] theorem Device.raiseIf_bus (c : Bool) (code payload : Nat) : (d.raiseIf c code payload).bus = d.bus := rfl
@[simp] theorem Device.raiseIf_latch (c : Bool) (code payload : Nat) : (d.raiseIf c code payload).latch = d.latch := rfl
@[simp] theorem Device.raiseIf_freeCtr (c : Bool) (code payload : Nat) : (d.raiseIf c code payload).freeCtr = d.freeCtr := rfl
@[simp] theorem Device.raiseIf_rd (c : Bool) (code payload : Nat) (fl : Fld) : (d.raiseIf c code payload).rd fl = d.rd fl := rfl
@[simp] theorem Device.raiseIf_rdB (c : Bool) (code payload : Nat) (fl : Fld) : (d.raiseIf c code payload).rdB fl = d.rdB fl := rfl

-- Device.stamp
@[simp] theorem Device.stamp_regs (t : Nat) : (d.stamp t).regs = d.regs := rfl
@[simp] theorem Device.stamp_defer (t : Nat) : (d.stamp t).defer = d.defer := rfl
@[simp] theorem Device.stamp_mem (t : Nat) : (d.stamp t).mem = d.mem := rfl
@[simp] theorem Device.stamp_ev (t : Nat) : (d.stamp t).ev = d.ev := rfl
@[simp] theorem Device.stamp_pins (t : Nat) : (d.stamp t).pins = d.pins := rfl
@[simp] theorem Device.stamp_seq (t : Nat) : (d.stamp t).seq = d.seq := rfl
@[simp] theorem Device.stamp_arrays (t : Nat) : (d.stamp t).arrays = d.arrays := rfl
@[simp] theorem Device.stamp_cores (t : Nat) : (d.stamp t).cores = d.cores := rfl
@[simp] theorem Device.stamp_quant (t : Nat) : (d.stamp t).quant = d.quant := rfl
@[simp] theorem Device.stamp_dma (t : Nat) : (d.stamp t).dma = d.dma := rfl
@[simp] theorem Device.stamp_memc (t : Nat) : (d.stamp t).memc = d.memc := rfl
@[simp] theorem Device.stamp_cam (t : Nat) : (d.stamp t).cam = d.cam := rfl
@[simp] theorem Device.stamp_isp (t : Nat) : (d.stamp t).isp = d.isp := rfl
@[simp] theorem Device.stamp_vid (t : Nat) : (d.stamp t).vid = d.vid := rfl
@[simp] theorem Device.stamp_join (t : Nat) : (d.stamp t).join = d.join := rfl
@[simp] theorem Device.stamp_fo (t : Nat) : (d.stamp t).fo = d.fo := rfl
@[simp] theorem Device.stamp_pwr (t : Nat) : (d.stamp t).pwr = d.pwr := rfl
@[simp] theorem Device.stamp_boot (t : Nat) : (d.stamp t).boot = d.boot := rfl
@[simp] theorem Device.stamp_proto (t : Nat) : (d.stamp t).proto = d.proto := rfl
@[simp] theorem Device.stamp_upd (t : Nat) : (d.stamp t).upd = d.upd := rfl
@[simp] theorem Device.stamp_fetch (t : Nat) : (d.stamp t).fetch = d.fetch := rfl
@[simp] theorem Device.stamp_safety (t : Nat) : (d.stamp t).safety = d.safety := rfl
@[simp] theorem Device.stamp_bus (t : Nat) : (d.stamp t).bus = d.bus := rfl
@[simp] theorem Device.stamp_latch (t : Nat) : (d.stamp t).latch = d.latch := rfl
@[simp] theorem Device.stamp_freeCtr (t : Nat) : (d.stamp t).freeCtr = d.freeCtr := rfl
@[simp] theorem Device.stamp_rd (t : Nat) (fl : Fld) : (d.stamp t).rd fl = d.rd fl := rfl
@[simp] theorem Device.stamp_rdB (t : Nat) (fl : Fld) : (d.stamp t).rdB fl = d.rdB fl := rfl

-- Device.meet
@[simp] theorem Device.meet_regs (cause : Nat) : (d.meet cause).regs = d.regs := rfl
@[simp] theorem Device.meet_defer (cause : Nat) : (d.meet cause).defer = d.defer := rfl
@[simp] theorem Device.meet_mem (cause : Nat) : (d.meet cause).mem = d.mem := rfl
@[simp] theorem Device.meet_ev (cause : Nat) : (d.meet cause).ev = d.ev := rfl
@[simp] theorem Device.meet_sp (cause : Nat) : (d.meet cause).sp = d.sp := rfl
@[simp] theorem Device.meet_pins (cause : Nat) : (d.meet cause).pins = d.pins := rfl
@[simp] theorem Device.meet_seq (cause : Nat) : (d.meet cause).seq = d.seq := rfl
@[simp] theorem Device.meet_arrays (cause : Nat) : (d.meet cause).arrays = d.arrays := rfl
@[simp] theorem Device.meet_cores (cause : Nat) : (d.meet cause).cores = d.cores := rfl
@[simp] theorem Device.meet_quant (cause : Nat) : (d.meet cause).quant = d.quant := rfl
@[simp] theorem Device.meet_dma (cause : Nat) : (d.meet cause).dma = d.dma := rfl
@[simp] theorem Device.meet_memc (cause : Nat) : (d.meet cause).memc = d.memc := rfl
@[simp] theorem Device.meet_cam (cause : Nat) : (d.meet cause).cam = d.cam := rfl
@[simp] theorem Device.meet_isp (cause : Nat) : (d.meet cause).isp = d.isp := rfl
@[simp] theorem Device.meet_vid (cause : Nat) : (d.meet cause).vid = d.vid := rfl
@[simp] theorem Device.meet_join (cause : Nat) : (d.meet cause).join = d.join := rfl
@[simp] theorem Device.meet_pwr (cause : Nat) : (d.meet cause).pwr = d.pwr := rfl
@[simp] theorem Device.meet_boot (cause : Nat) : (d.meet cause).boot = d.boot := rfl
@[simp] theorem Device.meet_proto (cause : Nat) : (d.meet cause).proto = d.proto := rfl
@[simp] theorem Device.meet_upd (cause : Nat) : (d.meet cause).upd = d.upd := rfl
@[simp] theorem Device.meet_fetch (cause : Nat) : (d.meet cause).fetch = d.fetch := rfl
@[simp] theorem Device.meet_safety (cause : Nat) : (d.meet cause).safety = d.safety := rfl
@[simp] theorem Device.meet_bus (cause : Nat) : (d.meet cause).bus = d.bus := rfl
@[simp] theorem Device.meet_latch (cause : Nat) : (d.meet cause).latch = d.latch := rfl
@[simp] theorem Device.meet_freeCtr (cause : Nat) : (d.meet cause).freeCtr = d.freeCtr := rfl
@[simp] theorem Device.meet_rd (cause : Nat) (fl : Fld) : (d.meet cause).rd fl = d.rd fl := rfl
@[simp] theorem Device.meet_rdB (cause : Nat) (fl : Fld) : (d.meet cause).rdB fl = d.rdB fl := rfl

end Sys2Proof.Machine
end

