-- ==== Sys2Proof/Laws/Events.lean ====
section
/-! SUPPORT. What raising an event does: one record enters the queue, the records held, or the count of losses. -/

namespace Sys2Proof.Machine

variable (d : Device)

/-- While the health monitor runs and the queue has room, the record enters the queue (13 R414). -/
theorem Device.raiseFrom_queue {src code payload : Nat} (hm : d.ev.hmRunning = true)
    (room : d.ev.queue.length < eventQueueCap) :
    (d.raiseFrom src code payload).ev = { d.ev with queue := d.ev.queue ++ [d.mkEvent src code payload] } := by
  simp [Device.raiseFrom, Events.accept, Events.enqueue, hm, room]

/-- Before the health monitor runs, Headstock holds the record (15 R522). -/
theorem Device.raiseFrom_held {src code payload : Nat} (hm : d.ev.hmRunning = false) :
    (d.raiseFrom src code payload).ev = { d.ev with held := d.ev.held ++ [d.mkEvent src code payload] } := by
  simp [Device.raiseFrom, Events.accept, hm]

/-- A full queue keeps its records and counts the loss (13 R414). -/
theorem Device.raiseFrom_full {src code payload : Nat} (hm : d.ev.hmRunning = true)
    (full : ¬ d.ev.queue.length < eventQueueCap) :
    (d.raiseFrom src code payload).ev =
      { d.ev with lost := d.ev.lost + 1, lostTotal := satAdd 32 d.ev.lostTotal 1 } := by
  simp [Device.raiseFrom, Events.accept, Events.enqueue, hm, full]

@[simp] theorem Events.enqueue_hmRunning (ev : Events) (e : EventRec) : (ev.enqueue e).hmRunning = ev.hmRunning := by
  unfold Events.enqueue; split <;> rfl

@[simp] theorem Events.enqueue_held (ev : Events) (e : EventRec) : (ev.enqueue e).held = ev.held := by
  unfold Events.enqueue; split <;> rfl

@[simp] theorem Events.enqueue_log (ev : Events) (e : EventRec) : (ev.enqueue e).log = ev.log := by
  unfold Events.enqueue; split <;> rfl

@[simp] theorem Events.admit_hmRunning (ev : Events) (e : EventRec) : (ev.accept e).hmRunning = ev.hmRunning := by
  unfold Events.accept; split <;> simp

@[simp] theorem Events.admit_log (ev : Events) (e : EventRec) : (ev.accept e).log = ev.log := by
  unfold Events.accept; split <;> simp

/-- Raising an event never stops or starts the health monitor. -/
@[simp] theorem Device.raiseFrom_hmRunning (src code payload : Nat) :
    (d.raiseFrom src code payload).ev.hmRunning = d.ev.hmRunning := d.ev.admit_hmRunning _

@[simp] theorem Device.raise_hmRunning (code payload : Nat) : (d.raise code payload).ev.hmRunning = d.ev.hmRunning :=
  d.ev.admit_hmRunning _

@[simp] theorem Device.raiseFrom_log (src code payload : Nat) : (d.raiseFrom src code payload).ev.log = d.ev.log :=
  d.ev.admit_log _

/-- Raising an event changes the event records alone. -/
theorem Device.raiseFrom_eq (src code payload : Nat) :
    d.raiseFrom src code payload = { d with ev := (d.raiseFrom src code payload).ev } := rfl

theorem Device.raise_eq (code payload : Nat) : d.raise code payload = { d with ev := (d.raise code payload).ev } := rfl

/-- What an event's record says, and where it goes, depends on the events and the spindle alone. -/
theorem Device.raise_ev_congr {d e : Device} (code payload : Nat) (hev : d.ev = e.ev) (hsp : d.sp = e.sp) :
    (d.raise code payload).ev = (e.raise code payload).ev := by
  simp only [Device.raise, Device.raiseFrom, Device.mkEvent, Device.index, Device.turn, hev, hsp]

theorem Device.raiseIf_ev_congr {d e : Device} (c : Bool) (code payload : Nat) (hev : d.ev = e.ev) (hsp : d.sp = e.sp) :
    (d.raiseIf c code payload).ev = (e.raiseIf c code payload).ev := by
  simp only [Device.raiseIf, Device.raise_ev_congr code payload hev hsp, hev]

end Sys2Proof.Machine
end

