-- ==== Sys2Proof/Laws/Maps.lean ====
section
/-! SUPPORT. Laws of the sparse maps: what a map reads as after one key has been set, and that setting keeps the canonical
form. -/

namespace Sys2Proof.Machine

variable {α : Type}

theorem mget_adel_same (dflt : α) (m : List (Nat × α)) (k : Nat) : mget dflt (adel m k) k = dflt := by
  induction m with
  | nil => rfl
  | cons p m ih =>
    obtain ⟨a, w⟩ := p
    by_cases h : a = k
    · simpa [adel, List.filter_cons, h] using ih
    · simp only [adel, List.filter_cons, bne_iff_ne, ne_eq, h, not_false_eq_true, if_true, mget, if_false]
      exact ih

theorem mget_adel_other (dflt : α) (m : List (Nat × α)) {k j : Nat} (h : j ≠ k) : mget dflt (adel m k) j = mget dflt m j := by
  induction m with
  | nil => rfl
  | cons p m ih =>
    obtain ⟨a, w⟩ := p
    by_cases ha : a = k
    · have : a ≠ j := fun e => h (by omega)
      simp only [adel, List.filter_cons, ha, bne_self_eq_false, Bool.false_eq_true, if_false, mget]
      rw [if_neg (by omega)]
      exact ih
    · simp only [adel, List.filter_cons, bne_iff_ne, ne_eq, ha, not_false_eq_true, if_true, mget]
      split
      · rfl
      · exact ih

/-- A map reads, at the key just set, as the value set. -/
@[simp] theorem mget_mset_same [DecidableEq α] (dflt : α) (m : List (Nat × α)) (k : Nat) (v : α) :
    mget dflt (mset dflt m k v) k = v := by
  induction m with
  | nil => by_cases h : v = dflt <;> simp [mset, mget, h]
  | cons p m ih =>
    obtain ⟨a, w⟩ := p
    unfold mset
    split
    · split
      · next hv => rw [mget_adel_same, hv]
      · simp [mget]
    · split
      · split
        · next hv => rw [mget_adel_same, hv]
        · simp [mget]
      · next h1 h2 =>
        rw [mget, if_neg (by omega)]
        exact ih

/-- A map reads, at every other key, as before. -/
theorem mget_mset_other [DecidableEq α] (dflt e : α) (m : List (Nat × α)) {k j : Nat} (v : α) (h : j ≠ k) :
    mget e (mset dflt m k v) j = mget e m j := by
  induction m with
  | nil => by_cases hv : v = dflt <;> simp [mset, mget, hv, Ne.symm h]
  | cons p m ih =>
    obtain ⟨a, w⟩ := p
    unfold mset
    split
    · split
      · exact mget_adel_other e _ h
      · rw [mget, if_neg (Ne.symm h)]
    · split
      · next h1 h2 =>
        split
        · rw [mget_adel_other e _ h, mget, if_neg (by omega)]
        · rw [mget, mget, if_neg (Ne.symm h), if_neg (by omega)]
      · rw [mget, mget]
        split
        · rfl
        · exact ih

theorem adel_of_lt {m : List (Nat × α)} {k : Nat} (h : ∀ p ∈ m, k < p.1) : adel m k = m :=
  List.filter_eq_self.2 fun p hp => by simpa using Nat.ne_of_gt (h p hp)

theorem mem_mset [DecidableEq α] {dflt : α} {m : List (Nat × α)} {k : Nat} {v : α} {p : Nat × α} (h : p ∈ mset dflt m k v) :
    p ∈ m ∨ p = (k, v) := by
  induction m with
  | nil =>
    simp only [mset] at h
    split at h <;> simp_all
  | cons q m ih =>
    obtain ⟨a, w⟩ := q
    unfold mset at h
    split at h
    · split at h
      · exact .inl (List.mem_filter.1 h).1
      · rcases List.mem_cons.1 h with h | h
        · exact .inr h
        · exact .inl h
    · split at h
      · split at h
        · exact .inl (List.mem_cons_of_mem _ (List.mem_filter.1 h).1)
        · rcases List.mem_cons.1 h with h | h
          · exact .inr h
          · exact .inl (List.mem_cons_of_mem _ h)
      · rcases List.mem_cons.1 h with h | h
        · exact .inl (by simp [h])
        · rcases ih h with h | h
          · exact .inl (List.mem_cons_of_mem _ h)
          · exact .inr h

/-- Setting one key keeps the canonical form. -/
theorem mwf_mset [DecidableEq α] {dflt : α} {m : List (Nat × α)} (k : Nat) (v : α) (h : mwf dflt m = true) :
    mwf dflt (mset dflt m k v) = true := by
  induction m with
  | nil => by_cases hv : v = dflt <;> simp [mset, mwf, hv]
  | cons p m ih =>
    obtain ⟨a, w⟩ := p
    simp only [mwf, Bool.and_eq_true, decide_eq_true_eq, List.all_eq_true] at h
    obtain ⟨⟨hw, hall⟩, hm⟩ := h
    unfold mset
    split
    · next hk =>
      split
      · have hlt : ∀ q ∈ (a, w) :: m, k < q.1 := by
          intro q hq
          rcases List.mem_cons.1 hq with rfl | hq
          · exact hk
          · exact Nat.lt_trans hk (hall q hq)
        rw [adel_of_lt hlt]
        simp only [mwf, Bool.and_eq_true, decide_eq_true_eq, List.all_eq_true]
        exact ⟨⟨hw, hall⟩, hm⟩
      · next hv =>
        simp only [mwf, Bool.and_eq_true, decide_eq_true_eq, List.all_eq_true]
        refine ⟨⟨hv, ?_⟩, ⟨hw, hall⟩, hm⟩
        rintro q hq
        rcases List.mem_cons.1 hq with rfl | hq
        · exact hk
        · exact Nat.lt_trans hk (hall q hq)
    · split
      · next hk =>
        subst hk
        split
        · rwa [adel_of_lt hall]
        · next hv =>
          simp only [mwf, Bool.and_eq_true, decide_eq_true_eq, List.all_eq_true]
          exact ⟨⟨hv, hall⟩, hm⟩
      · next h1 h2 =>
        simp only [mwf, Bool.and_eq_true, decide_eq_true_eq, List.all_eq_true]
        refine ⟨⟨hw, ?_⟩, ih hm⟩
        intro q hq
        rcases mem_mset hq with hq | rfl
        · exact hall q hq
        · simp only []; omega

theorem mwf_filter [DecidableEq α] {dflt : α} {m : List (Nat × α)} (p : Nat × α → Bool) (h : mwf dflt m = true) :
    mwf dflt (m.filter p) = true := by
  induction m with
  | nil => rfl
  | cons q m ih =>
    obtain ⟨a, w⟩ := q
    simp only [mwf, Bool.and_eq_true, decide_eq_true_eq, List.all_eq_true] at h
    obtain ⟨⟨hw, hall⟩, hm⟩ := h
    rw [List.filter_cons]
    split
    · simp only [mwf, Bool.and_eq_true, decide_eq_true_eq, List.all_eq_true]
      exact ⟨⟨hw, fun q hq => hall q ((List.mem_filter.1 hq).1)⟩, ih hm⟩
    · exact ih hm

/-- A key of a listing, once set, is found. -/
@[simp] theorem afind_aput_same (m : List (Nat × α)) (k : Nat) (v : α) : afind (aput m k v) k = some v := by
  induction m with
  | nil => simp [aput, afind]
  | cons p m ih =>
    obtain ⟨a, w⟩ := p
    unfold aput
    split
    · simp [afind]
    · split
      · simp [afind]
      · rw [afind, if_neg (by omega)]
        exact ih

theorem afind_aput_other (m : List (Nat × α)) {k j : Nat} (v : α) (h : j ≠ k) : afind (aput m k v) j = afind m j := by
  induction m with
  | nil => simp [aput, afind, Ne.symm h]
  | cons p m ih =>
    obtain ⟨a, w⟩ := p
    unfold aput
    split
    · rw [afind, if_neg (Ne.symm h)]
    · split
      · next h1 h2 => rw [afind, afind, if_neg (Ne.symm h), if_neg (by omega)]
      · rw [afind, afind]
        split
        · rfl
        · exact ih

theorem afind_adel_other (m : List (Nat × α)) {k j : Nat} (h : j ≠ k) : afind (adel m k) j = afind m j := by
  induction m with
  | nil => rfl
  | cons p m ih =>
    obtain ⟨a, w⟩ := p
    by_cases ha : a = k
    · simp only [adel, List.filter_cons, ha, bne_self_eq_false, Bool.false_eq_true, if_false, afind]
      rw [if_neg (Ne.symm h)]
      exact ih
    · simp only [adel, List.filter_cons, bne_iff_ne, ne_eq, ha, not_false_eq_true, if_true, afind]
      split
      · rfl
      · exact ih

/-- A fold over numbers keeps what each of its steps keeps. -/
theorem forN_keeps {β : Type} (P : β → Prop) (f : Nat → β → β) (h : ∀ k b, P b → P (f k b)) (n : Nat) (b : β) (hb : P b) :
    P (forN n f b) := by
  induction n with
  | zero => exact hb
  | succ n ih => exact h n _ ih

/-- A fold over a list keeps what each of its steps keeps. -/
theorem forL_keeps {β γ : Type} (P : β → Prop) (f : γ → β → β) (h : ∀ x b, P b → P (f x b)) (l : List γ) (b : β) (hb : P b) :
    P (forL l f b) := by
  unfold forL
  induction l generalizing b with
  | nil => exact hb
  | cons x l ih => exact ih _ (h x b hb)

end Sys2Proof.Machine
end

