-- ==== Sys2Proof/Laws/Regs.lean ====
section
/-! SUPPORT. Register fields: a field just set reads as the value set, every other field as before. -/

namespace Sys2Proof.Machine

@[simp] theorem Regs.get_put_same (r : Regs) (f : Fld) (v : Nat) : (r.put f v).get f = v % 2 ^ f.width := by
  simp [Regs.get, Regs.put]

theorem Regs.get_put_other (r : Regs) {f g : Fld} (v : Nat) (h : g.key ≠ f.key) : (r.put f v).get g = r.get g := by
  simp [Regs.get, Regs.put, mget_mset_other _ _ _ _ h]

@[simp] theorem Regs.put_shd (r : Regs) (f : Fld) (v : Nat) : (r.put f v).shd = r.shd := rfl

variable (d : Device)

/-- Reading and writing in terms of the register file alone: what keeps the register file keeps every read. -/
theorem Device.rd_eq (f : Fld) : d.rd f = d.regs.get f := rfl

theorem Device.wr_regs (f : Fld) (v : Nat) : (d.wr f v).regs = d.regs.put f v := rfl

theorem Device.bump_regs (f : Fld) (n : Nat) : (d.bump f n).regs = d.regs.put f (satAdd f.width (d.regs.get f) n) := rfl

@[simp] theorem Device.rd_wr_same (f : Fld) (v : Nat) : (d.wr f v).rd f = v % 2 ^ f.width := by
  simp [Device.rd_eq, Device.wr_regs]

theorem Device.rd_wr_other {f g : Fld} (v : Nat) (h : g.key ≠ f.key) : (d.wr f v).rd g = d.rd g := d.regs.get_put_other v h

@[simp] theorem Device.rdB_wr_same (f : Fld) (v : Nat) : (d.wr f v).rdB f = (v % 2 ^ f.width != 0) := by simp [Device.rdB]

theorem Device.rdB_wr_other {f g : Fld} (v : Nat) (h : g.key ≠ f.key) : (d.wr f v).rdB g = d.rdB g := by
  simp [Device.rdB, d.rd_wr_other v h]

@[simp] theorem Device.rd_wrShadow (f g : Fld) (v : Nat) : (d.wrShadow f v).rd g = d.rd g := rfl

/-- Software reads, of a field with a shadow copy, what it last wrote (01 R52). -/
@[simp] theorem Device.rdShadow_wrShadow_same (f : Fld) (v : Nat) : (d.wrShadow f v).rdShadow f = v % 2 ^ f.width := by
  simp [Device.rdShadow, Device.wrShadow]

@[simp] theorem Device.rd_bump_same (f : Fld) (n : Nat) : (d.bump f n).rd f = min (d.rd f + n) (2 ^ f.width - 1) := by
  have h : 0 < 2 ^ f.width := Nat.two_pow_pos _
  simp only [Device.bump, Device.rd_wr_same, satAdd]
  exact Nat.mod_eq_of_lt (by omega)

theorem Device.rd_bump_other {f g : Fld} (n : Nat) (h : g.key ≠ f.key) : (d.bump f n).rd g = d.rd g := d.rd_wr_other _ h

theorem Device.rd_wrPair_other {lo hi g : Fld} (v : Nat) (h : g.key ≠ lo.key) (h' : g.key ≠ hi.key) :
    (d.wrPair lo hi v).rd g = d.rd g := by
  rw [Device.wrPair, Device.rd_wr_other _ _ h', Device.rd_wr_other _ _ h]

/-- Devices with the same registers read alike. -/
theorem Device.rd_congr {d e : Device} (h : d.regs = e.regs) (f : Fld) : d.rd f = e.rd f := by simp [Device.rd, h]

end Sys2Proof.Machine
end

