-- ==== Sys2Proof/Laws/Frames.lean ====
section
/-! SUPPORT. Frames of the shared operations: which registers, and which parts of the device, an operation leaves alone. -/

namespace Sys2Proof.Safety

open Sys2Proof.Machine

variable {ks : List Fld} {d e : Device}

theorem RegsBut.refl (ks : List Fld) (d : Device) : RegsBut ks d d := ⟨rfl, fun _ _ => rfl⟩

/-- A device with the same registers reads alike. -/
theorem RegsBut.regs {e' : Device} (h : RegsBut ks d e) (r : e'.regs = e.regs) : RegsBut ks d e' :=
  ⟨by rw [r]; exact h.1, fun f hf => by rw [Device.rd_congr r]; exact h.2 f hf⟩

theorem RegsBut.wr (h : RegsBut ks d e) {k : Fld} (v : Nat) (m : k ∈ ks) : RegsBut ks d (e.wr k v) :=
  ⟨h.1, fun f hf => by rw [Device.rd_wr_other _ _ (hf k m)]; exact h.2 f hf⟩

theorem RegsBut.bump (h : RegsBut ks d e) {k : Fld} (n : Nat) (m : k ∈ ks) : RegsBut ks d (e.bump k n) := h.wr _ m

theorem RegsBut.wrPair (h : RegsBut ks d e) {lo hi : Fld} (v : Nat) (m : lo ∈ ks) (m' : hi ∈ ks) :
    RegsBut ks d (e.wrPair lo hi v) := (h.wr _ m).wr _ m'

theorem RegsBut.raise (h : RegsBut ks d e) (code payload : Nat) : RegsBut ks d (e.raise code payload) :=
  h.regs (by rw [Device.raise_eq])

theorem RegsBut.mono {ks' : List Fld} (h : RegsBut ks d e) (sub : ∀ k ∈ ks, k ∈ ks') : RegsBut ks' d e :=
  ⟨h.1, fun f hf => h.2 f fun k m => hf k (sub k m)⟩

end Sys2Proof.Safety
end

