-- ==== Sys2Proof/Laws/Memory.lean ====
section
/-! SUPPORT. Memory: a byte just written reads back, every other byte reads as before, and every write keeps the canonical
form. -/

namespace Sys2Proof.Machine

/-- One byte of the physical space. -/
theorem Memory.read_succ (m : Memory) (a n : Nat) : m.read a (n + 1) = mget 0 m.cells a :: m.read (a + 1) n := rfl

@[simp] theorem Memory.read_length (m : Memory) (a n : Nat) : (m.read a n).length = n := by
  induction n generalizing a with
  | zero => rfl
  | succ n ih => simp [Memory.read, ih]

@[simp] theorem Memory.write_errs (m : Memory) (a : Nat) (bs : List Byte) : (m.write a bs).errs = m.errs := by
  induction bs generalizing m a with
  | nil => rfl
  | cons b bs ih => rw [Memory.write, ih]

/-- Every byte outside the bytes written reads as before. -/
theorem Memory.mget_write_other (m : Memory) {a j : Nat} (bs : List Byte) (h : j < a ∨ a + bs.length ≤ j) :
    mget 0 (m.write a bs).cells j = mget 0 m.cells j := by
  induction bs generalizing m a with
  | nil => rfl
  | cons b bs ih =>
    rw [Memory.write, ih _ (by simp only [List.length_cons] at h; omega)]
    exact mget_mset_other _ _ _ _ (by simp only [List.length_cons] at h; omega)

/-- The bytes written read back. -/
theorem Memory.read_write_same (m : Memory) (a : Nat) (bs : List Byte) : (m.write a bs).read a bs.length = bs := by
  induction bs generalizing m a with
  | nil => rfl
  | cons b bs ih =>
    rw [List.length_cons, Memory.read, Memory.write, ih, Memory.mget_write_other _ _ (by omega), mget_mset_same]

/-- Reading apart from the bytes written reads as before. -/
theorem Memory.read_write_apart (m : Memory) {a c : Nat} (bs : List Byte) (n : Nat) (h : c + n ≤ a ∨ a + bs.length ≤ c) :
    (m.write a bs).read c n = m.read c n := by
  induction n generalizing c with
  | zero => rfl
  | succ n ih => rw [Memory.read, Memory.read, ih (by omega), Memory.mget_write_other _ _ (by omega)]

theorem Memory.wf_write {m : Memory} (a : Nat) (bs : List Byte) (h : m.wf = true) : (m.write a bs).wf = true := by
  induction bs generalizing m a with
  | nil => exact h
  | cons b bs ih =>
    refine ih _ ?_
    simp only [Memory.wf, Bool.and_eq_true] at h ⊢
    exact ⟨mwf_mset _ _ h.1, h.2⟩

theorem Device.poke_wf {d : Device} (a : Nat) (bs : List Byte) (h : d.mem.wf = true) : (d.poke a bs).mem.wf = true :=
  Memory.wf_write a bs h

end Sys2Proof.Machine
end

