-- ==== Sys2Proof/Laws/MemOps.lean ====
section
/-! SUPPORT. What the checked accesses to memory can do: they change registers, memory, events, the controller's counts, the cause
met and the free-value counter, and nothing else; they keep memory's canonical form; and on clean memory they read and write
bytes. -/

namespace Sys2Proof.Machine

/-- e differs from d at most in what an access to memory may change, and its memory keeps the canonical form. -/
def MemOnly (d e : Device) : Prop :=
  { e with regs := d.regs, mem := d.mem, ev := d.ev, memc := d.memc, fo := d.fo, freeCtr := d.freeCtr } = d ∧
    (d.mem.wf = true → e.mem.wf = true)

variable {d e f : Device}

theorem MemOnly.refl (d : Device) : MemOnly d d := ⟨rfl, id⟩

theorem MemOnly.trans (h : MemOnly d e) (k : MemOnly e f) : MemOnly d f :=
  ⟨(congrArg (fun x : Device =>
      { x with regs := d.regs, mem := d.mem, ev := d.ev, memc := d.memc, fo := d.fo, freeCtr := d.freeCtr }) k.1).trans h.1,
    fun w => k.2 (h.2 w)⟩

/-- A fold over a list of accesses. -/
theorem MemOnly.forL {β γ : Type} (pick : γ → Device) (g : β → γ → γ) (h : ∀ b x, MemOnly (pick x) (pick (g b x))) (l : List β) (x : γ) :
    MemOnly (pick x) (pick (forL l g x)) :=
  forL_keeps (fun y => MemOnly (pick x) (pick y)) g (fun b y k => k.trans (h b y)) l x (MemOnly.refl _)

theorem Device.wr_memOnly (d : Device) (k : Fld) (v : Nat) : MemOnly d (d.wr k v) := ⟨rfl, id⟩
theorem Device.awaitChannel_memOnly (d : Device) (w : WaitingAccess) : MemOnly d (d.awaitChannel w) := ⟨rfl, id⟩
theorem Device.bump_memOnly (d : Device) (k : Fld) (n : Nat) : MemOnly d (d.bump k n) := ⟨rfl, id⟩
theorem Device.raise_memOnly (d : Device) (code payload : Nat) : MemOnly d (d.raise code payload) := ⟨rfl, id⟩
theorem Device.meet_memOnly (d : Device) (c : Nat) : MemOnly d (d.meet c) := ⟨rfl, id⟩
theorem Device.setMemCh_memOnly (d : Device) (c : Nat) (x : MemCh) : MemOnly d (d.setMemCh c x) := ⟨rfl, id⟩
theorem Device.poke_memOnly (d : Device) (a : Nat) (bs : List Byte) : MemOnly d (d.poke a bs) := ⟨rfl, Device.poke_wf a bs⟩

/-- Setting the errors of a codeword keeps the canonical form. -/
theorem Device.setErrs_memOnly (d : Device) (cw n : Nat) : MemOnly d (d.setErrs cw n) := by
  refine ⟨rfl, fun h => ?_⟩
  simp only [Memory.wf, Bool.and_eq_true] at h ⊢
  exact ⟨h.1, mwf_mset _ _ h.2⟩

theorem Device.freeBytes_memOnly (d : Device) (n : Nat) : MemOnly d (d.freeBytes n).2 := ⟨rfl, id⟩

theorem Device.slotUsed_memOnly (d : Device) (i : Nat) : MemOnly d (d.slotUsed i) := by
  unfold Device.slotUsed
  split
  · exact ⟨rfl, id⟩
  · exact MemOnly.refl _

theorem Device.countCorrected_memOnly (d : Device) (a src : Nat) : MemOnly d (d.countCorrected a src) := by
  unfold Device.countCorrected
  dsimp only
  (repeat' split) <;> exact ⟨rfl, id⟩

theorem Device.countUncorrected_memOnly (d : Device) (md : Mode) (a src : Nat) (live scrub : Bool) :
    MemOnly d (d.countUncorrected md a src live scrub) := by
  unfold Device.countUncorrected Device.recordUe
  dsimp only
  (repeat' split) <;> exact ⟨rfl, id⟩

theorem Device.fixDead_memOnly (d : Device) (kind cw : Nat) : MemOnly d (d.fixDead kind cw) := by
  unfold Device.fixDead
  split
  · exact Device.setErrs_memOnly _ _ _
  · exact MemOnly.refl _

/-- Reading a codeword. -/
theorem Device.readCodeword_memOnly (d : Device) (md : Mode) (cw extra src : Nat) (live scrub : Bool) :
    MemOnly d (d.readCodeword md cw extra src live scrub).2 := by
  unfold Device.readCodeword
  dsimp only
  split
  · exact Device.countUncorrected_memOnly _ _ _ _ _ _
  · split
    · exact MemOnly.refl _
    · exact (Device.setErrs_memOnly _ _ _).trans (Device.countCorrected_memOnly _ _ _)
    · exact (Device.freeBytes_memOnly _ _).trans
        ((Device.poke_memOnly _ _ _).trans ((Device.setErrs_memOnly _ _ _).trans (Device.countCorrected_memOnly _ _ _)))
    · exact MemOnly.trans (e := { d with freeCtr := d.freeCtr + 1 }) ⟨rfl, id⟩
        ((Device.fixDead_memOnly _ _ _).trans (Device.countUncorrected_memOnly _ md cw src live scrub))

theorem Device.injectErrors_memOnly (d : Device) (a n : Nat) : MemOnly d (d.injectErrors a n) := by
  unfold Device.injectErrors
  split
  · exact MemOnly.refl _
  · exact Device.setErrs_memOnly _ _ _

theorem Device.slotErrors_memOnly (d : Device) (i : Nat) (cws : List Nat) (xs : List (Nat × Nat)) :
    MemOnly d (d.slotErrors i cws xs).2 := by
  unfold Device.slotErrors
  dsimp only
  generalize (if d.rd (Reg.PERT_SLOT_CFG_duration i) = 0 then _ else _ : List Nat) = mine
  split
  · exact MemOnly.refl _
  · split
    · exact (Device.slotUsed_memOnly _ _).trans
        (MemOnly.forL (fun x : Device => x) _ (fun _ _ => Device.setErrs_memOnly _ _ _) _ _)
    · exact Device.slotUsed_memOnly _ _

theorem Device.pertMemory_memOnly (d : Device) (a n : Nat) : MemOnly d (d.pertMemory a n).2 := by
  unfold Device.pertMemory
  dsimp only
  split
  · exact MemOnly.refl _
  · exact MemOnly.forL (fun x : List (Nat × Nat) × Device => x.2) _ (fun _ _ => Device.slotErrors_memOnly _ _ _ _) _ ([], d)

/-- A checked read, whatever it meets. -/
theorem Device.readChecked_memOnly (d : Device) (md : Mode) (ag : Agent) (a n : Nat) : MemOnly d (d.readChecked md ag a n).2.2 := by
  unfold Device.readChecked
  dsimp only
  refine (Device.pertMemory_memOnly d a n).trans ?_
  generalize (d.pertMemory a n).1 = xs
  generalize (d.pertMemory a n).2 = d
  generalize hk : Machine.forL _ _ (([] : List Nat), d) = x
  have hx : MemOnly d x.2 := by
    rw [← hk]
    refine MemOnly.forL (fun x : List Nat × Device => x.2) _ ?_ _ ([], d)
    rintro cw ⟨bad, d⟩
    exact Device.readCodeword_memOnly _ _ _ _ _ _ _
  split
  · exact hx
  · exact hx.trans (Device.freeBytes_memOnly _ _)

/-- A checked write, whatever it meets. -/
theorem Device.writeChecked_memOnly (d : Device) (md : Mode) (ag : Agent) (a : Nat) (bs : List Byte) :
    MemOnly d (d.writeChecked md ag a bs).2 := by
  unfold Device.writeChecked
  dsimp only
  split
  · exact Device.poke_memOnly _ _ _
  · refine MemOnly.forL (fun x : Option Nat × Device => x.2) _ ?_ _ (none, d)
    rintro ⟨p, q⟩ ⟨bad, d⟩
    dsimp only
    split
    · exact Device.awaitChannel_memOnly _ _
    · split
      · exact Device.countUncorrected_memOnly _ _ _ _ _ _
      · split
        · exact (Device.poke_memOnly _ _ _).trans (Device.setErrs_memOnly _ _ _)
        · split
          · exact Device.readCodeword_memOnly _ _ _ _ _ _ _
          · exact (Device.readCodeword_memOnly _ _ _ _ _ _ _).trans (Device.poke_memOnly _ _ _)

theorem Device.reportRefused_memOnly (d : Device) (ag : Agent) (a : Nat) (write : Bool) : MemOnly d (d.reportRefused ag a write) := by
  unfold Device.reportRefused Device.reportUnmapped Device.reportProtection
  dsimp only
  (repeat' split) <;> exact ⟨rfl, id⟩

/-- A write of an engine under its rights, whatever it meets. -/
theorem Device.guardedWrite_memOnly (d : Device) (md : Mode) (ag : Agent) (a : Nat) (bs : List Byte) :
    MemOnly d (d.guardedWrite md ag a bs) := by
  refine MemOnly.forL (fun x : Device => x) _ ?_ _ d
  rintro ⟨p, q⟩ d
  dsimp only
  split
  · exact Device.writeChecked_memOnly _ _ _ _ _
  · exact Device.reportRefused_memOnly _ _ _ _

/-- A read of an engine under its rights, whatever it meets. -/
theorem Device.guardedRead_memOnly (d : Device) (md : Mode) (ag : Agent) (a n : Nat) : MemOnly d (d.guardedRead md ag a n).2.2 := by
  refine MemOnly.forL (fun x : List Byte × Option Nat × Device => x.2.2) _ ?_ _ ([], none, d)
  rintro ⟨p, z⟩ ⟨bs, bad, d⟩
  dsimp only
  split
  · exact Device.readChecked_memOnly _ _ _ _ _
  · exact Device.reportRefused_memOnly _ _ _ _

/-- A write by an engine. -/
theorem Device.engineWrite_memOnly (d : Device) (md : Mode) (a : Nat) (bs : List Byte) : MemOnly d (d.engineWrite md a bs) :=
  Device.guardedWrite_memOnly _ _ _ _ _

/-- The scrub of a word. -/
theorem Device.scrubWord_memOnly (d : Device) (md : Mode) (a n : Nat) : MemOnly d (d.scrubWord md a n) := by
  unfold Device.scrubWord
  dsimp only
  refine ((Device.injectErrors_memOnly d a n).trans (Device.pertMemory_memOnly _ a 64)).trans ?_
  exact MemOnly.forL (fun x : Device => x) _ (fun cw d => Device.readCodeword_memOnly _ _ _ _ _ _ _) _ _

-- Clean memory.

/-- Where no codeword is bad, a checked write stores its bytes and does nothing else. -/
theorem Device.writeChecked_clean (d : Device) (md : Mode) (ag : Agent) {a : Nat} {bs : List Byte} (h : d.badCodewords a bs.length = []) :
    d.writeChecked md ag a bs = (none, d.poke a bs) := by
  simp [Device.writeChecked, h]

/-- A byte string that reaches no boundary is one piece. -/
theorem cutAt_one {sz a : Nat} {bs : List Byte} (h : bs ≠ []) (k : bs.length ≤ sz - a % sz) : cutAt sz bs.length a bs = [(a, bs)] := by
  obtain ⟨b, t, rfl⟩ := List.exists_cons_of_ne_nil h
  simp only [cutAt, List.length_cons, List.isEmpty_cons, Bool.false_eq_true, if_false] at k ⊢
  rw [List.take_of_length_le (by simpa using k), List.drop_of_length_le (by simpa using k)]
  cases t <;> simp [cutAt]

/-- A write of an engine that has the right and meets no error stores its bytes and does nothing else. -/
theorem Device.guardedWrite_clean (d : Device) (md : Mode) (ag : Agent) {a : Nat} {bs : List Byte}
    (h : d.badCodewords a bs.length = []) (r : (d.rights ag a).2 = true) (k : bs.length ≤ rightsStep - a % rightsStep) :
    d.guardedWrite md ag a bs = d.poke a bs := by
  by_cases e : bs = []
  · subst e; rfl
  · simp [Device.guardedWrite, cutAt_one e k, Machine.forL, r, d.writeChecked_clean md ag h]

theorem Device.engineWrite_clean (d : Device) (md : Mode) {a : Nat} {bs : List Byte} (h : d.badCodewords a bs.length = [])
    (r : (d.rights .engine a).2 = true) (k : bs.length ≤ rightsStep - a % rightsStep) : d.engineWrite md a bs = d.poke a bs :=
  d.guardedWrite_clean md .engine h r k

/-- Where no slot injects, an access to memory gets no extra errors. -/
theorem Device.pertMemory_quiet (d : Device) (a n : Nat) (h : d.activeSlots 5 = []) : d.pertMemory a n = ([], d) := by
  simp [Device.pertMemory, h]

/-- Where no codeword is bad and no slot injects, a checked read returns the bytes and does nothing else. -/
theorem Device.readChecked_clean (d : Device) (md : Mode) (ag : Agent) {a n : Nat} (h : d.badCodewords a n = []) (q : d.activeSlots 5 = []) :
    d.readChecked md ag a n = (d.bytes a n, none, d) := by
  simp [Device.readChecked, d.pertMemory_quiet a n q, h, Machine.forL]

/-- A read of an engine that has the right and meets no error returns the bytes and does nothing else. -/
theorem Device.guardedRead_clean (d : Device) (md : Mode) (ag : Agent) {a n : Nat} (h : d.badCodewords a n = [])
    (q : d.activeSlots 5 = []) (r : (d.rights ag a).1 = true) (k : n ≤ rightsStep - a % rightsStep) :
    d.guardedRead md ag a n = (d.bytes a n, none, d) := by
  cases n with
  | zero => rfl
  | succ n =>
    have c := cutAt_one (sz := rightsStep) (a := a) (bs := List.replicate (n + 1) 0) (by simp) (by simpa using k)
    rw [List.length_replicate] at c
    rw [Device.guardedRead, c]
    simp [Machine.forL, r, d.readChecked_clean md ag h q]

/-- Without errors in memory, and with every channel in service, no codeword is bad. -/
theorem Device.badCodewords_none (d : Device) (h : d.mem.errs = []) (k : d.channelsAway = false) (a n : Nat) : d.badCodewords a n = [] := by
  unfold Device.badCodewords
  simp [h, k]

/-- Whether codewords are bad depends on the errors, the registers and the channels alone. -/
theorem Device.badCodewords_congr {d e : Device} (hm : d.mem.errs = e.mem.errs) (hr : d.regs = e.regs)
    (hc : d.memc.chans = e.memc.chans) (a n : Nat) : d.badCodewords a n = e.badCodewords a n := by
  have hrd : d.rd = e.rd := funext fun f => by simp [Device.rd, hr]
  have hp : d.place = e.place := funext fun a => by
    unfold Device.place Device.areaOf Device.dramSize
    rw [hrd]
  have ha : d.channelsAway = e.channelsAway := by simp only [Device.channelsAway, hrd, hc]
  have ho : d.offlineAt = e.offlineAt := funext fun a => by simp only [Device.offlineAt, hrd, hp]
  have ht : d.retrainingAt = e.retrainingAt := funext fun a => by simp only [Device.retrainingAt, Device.memCh, hp, hc]
  have he : d.errsAt = e.errsAt := funext fun a => by simp only [Device.errsAt, hm]
  unfold Device.badCodewords
  rw [hp, ha, ho, ht, he, hm]

/-- A store brings no bad codeword. -/
@[simp] theorem Device.poke_badCodewords (d : Device) (b : Nat) (bs : List Byte) (a n : Nat) :
    (d.poke b bs).badCodewords a n = d.badCodewords a n :=
  Device.badCodewords_congr (d := d.poke b bs) (e := d) (Memory.write_errs _ _ _) rfl rfl a n

-- Zero fills.

/-- The zero fill of DRAM keeps the canonical form. -/
theorem Device.zeroDram_wf (h : d.mem.wf = true) : d.zeroDram.mem.wf = true := by
  simp only [Memory.wf, Bool.and_eq_true] at h
  simp only [Device.zeroDram, Memory.wf, Bool.and_eq_true]
  exact ⟨mwf_filter _ h.1, mwf_filter _ h.2⟩

/-- The zero fill of shared and core memory keeps the canonical form. -/
theorem Device.zeroSram_wf (h : d.mem.wf = true) : d.zeroSram.mem.wf = true := by
  simp only [Memory.wf, Bool.and_eq_true] at h
  simp only [Device.zeroSram, Memory.wf, Bool.and_eq_true]
  exact ⟨mwf_filter _ h.1, mwf_filter _ h.2⟩

/-- Memory after reset has the canonical form. -/
theorem State.reset_mem_wf : State.reset.dev.mem.wf = true := rfl

/-- A read of the maintenance buffer changes what an access to memory may change. -/
theorem Device.maintRead_memOnly (d : Device) (md : Mode) (o n : Nat) : MemOnly d (d.maintRead md o n).2 :=
  Device.readChecked_memOnly _ _ _ _ _

/-- A store into the maintenance buffer changes what an access to memory may change. -/
theorem Device.maintStore_memOnly (d : Device) (md : Mode) (o : Nat) (bs : List Byte) : MemOnly d (d.maintStore md o bs) :=
  Device.writeChecked_memOnly _ _ _ _ _

end Sys2Proof.Machine
end

