-- ==== Sys2Proof/WellFormed.lean ====
section
/-! DEFINITION. Which commands are well formed: operands whose Lean types are wider than the fields that the spec gives them. -/

namespace Sys2Proof

/-- A natural number that fits a field of w bits. -/
def fits (w n : Nat) : Bool := decide (n < 2 ^ w)

/-- Spindle times are 64-bit counts (01 'Reference sources and lock'); turns are 32-bit (00 R4). -/
def timeOk (t : Nat) : Bool := fits 64 t

/-- A position of 00 R4: a 32-bit turn and an index of 0 to 4095. -/
def positionOk (turn index : Nat) : Bool := fits 32 turn && fits 12 index

/-- The fields of a transaction's header (12 R392): 9-bit device IDs, at most 4096 payload bytes. -/
def Transaction.wf (t : Transaction) : Bool :=
  fits 9 t.source && fits 9 t.destination && fits 9 t.original && fits 32 t.turn && fits 32 t.sequence && fits 64 t.address &&
    fits 16 t.item && decide (t.payload.length ≤ 4096)

/-- A HEARTBEAT (12 R398): the active list is 0, 1 or 2; the buddy field has 16 bits, 0xFFFF for none. -/
def Heartbeat.wf (h : Heartbeat) : Bool :=
  fits 9 h.sender && decide (h.activeList ≤ 2) && positionOk h.turn h.index && fits 16 h.buddy && fits 32 h.count

/-- An ALIGN (12 R398). -/
def AlignRec.wf (a : AlignRec) : Bool :=
  fits 9 a.master && positionOk a.turn a.index && timeOk a.sendTime && fits 64 a.correction

/-- The fields of a message header (16 R534) and the sender's address (16 R538, 128 bits). -/
def ReqHdr.wf (h : ReqHdr) : Bool :=
  fits 8 h.major && fits 8 h.minor && fits 32 h.sequence && fits 64 h.session &&
    match h.path with
    | .eth _ a => fits 128 a
    | .maint | .app _ | .recovery _ | .safety => true

/-- The fields of a fragment's header (16 R534); no fragment carries more than 8896 bytes (16 R535). -/
def Fragment.wf (f : Fragment) : Bool :=
  fits 16 f.msgType && fits 8 f.major && fits 8 f.minor && fits 8 f.flags && fits 8 f.status && fits 32 f.length &&
    fits 32 f.sequence && fits 64 f.session && fits 32 f.offset && decide (f.data.length ≤ 8896)

/-- An Ethernet frame's content. -/
def EthPayload.wf : EthPayload → Bool
  | .fragment u f => fits 128 u.source && fits 128 u.destination && fits 16 u.destPort && f.wf
  | .resolve a b => fits 128 a && fits 128 b
  | .echo a b data => fits 128 a && fits 128 b && decide (data.length < 9000)
  | .gptp | .mka _ | .other _ => true

/-- The maintenance port's own registers, by number above the 48-bit address space (16 R556). -/
def maintRegister (a : Nat) : Bool := decide (2 ^ 48 ≤ a) && decide (a < 2 ^ 48 + 32) && a % 4 == 0

/-- A decoded picture's planes have the sizes that 4:2:0 gives them; of an incomplete one no more (11 R360, R362). -/
def DecodeResult.wf : DecodeResult → Bool
  | .decoded _ n k w h l cb cr =>
    decide (k < n) && decide (l.length = w * h) && decide (cb.length = (w + 1) / 2 * ((h + 1) / 2)) &&
      decide (cr.length = (w + 1) / 2 * ((h + 1) / 2))
  | .incomplete _ n k w h l cb cr =>
    decide (k < n) && decide (l.length ≤ w * h) && decide (cb.length ≤ (w + 1) / 2 * ((h + 1) / 2)) &&
      decide (cr.length ≤ (w + 1) / 2 * ((h + 1) / 2))
  | .readError => true

/-- A well-formed command: every operand fits the field that the spec gives it. -/
def Instr.wf : Instr → Bool
  | .porstRise _ _ | .porstFall _ | .brownOutEnd | .coldStart _ | .warmStart _ _ | .enterReady _ => true
  | .brownOut _ p _ => decide (p ≤ 1000)
  | .memTrainingComplete _ g => decide (g.length = 16)
  | .fxTrainingComplete _ _ n _ _ _ => fits 9 n
  | .gptpSync _ r t => timeOk r && timeOk t
  | .ppsEdge t => timeOk t
  | .sourceTimeout _ | .indexBoundary | .fsyncAssert _ | .fsyncDeassert _ | .ppsOutAssert | .ppsOutDeassert | .stepRequest => true
  | .holdoverExpired t => timeOk t
  | .spPeriodWrite _ | .spPhaseWrite _ | .spSlewWrite _ | .fsyncOffsetWrite _ _ | .holdReleaseNow _ | .holdReleaseAtTurn _
  | .ppsSecondsArm _ => true
  | .spTimeLoRead | .nePlanActiveLoRead | .dmaBadAddrLoRead _ | .memUeAddrLoRead | .memProtAddrLoRead | .csiTsLoRead _
  | .hsSlotSeqLoRead _ | .hsNonceLoRead | .pertNonceLoRead => true
  | .neQstatSelWrite _ | .neQthrWrite _ | .neCtrSelWrite _ | .fxWindowWrite _ _ _ _ | .hsMeasSelWrite _ | .hsExtExtend _ => true
  | .pertClose | .pertSlotEnable _ _ | .pertSlotEnd _ => true
  | .registerWrite a _ => fits 48 a && decide (a % 4 = 0)
  | .registerClearingRead a => (fits 48 a && decide (a % 4 = 0)) || maintRegister a
  | .physAccess _ a n st _ => fits 48 a && decide (0 < n) &&
    match st with
    | none => true
    | some bs => decide (bs.length = n)
  | .dramScrubStep _ _ | .shmScrubStep _ _ | .dramRefreshPoll _ _ | .dramChannelFault _ | .dramRetrainDone _ _
  | .dramIntervalMaintenance _ _ _ => true
  | .passFeedComplete _ _ | .passDecisionPoint _ _ _ | .descriptorComplete _ _ | .vectorOpComplete _ => true
  | .constantsWritten | .dmaLoadComplete _ _ _ | .dmaReadData _ _ | .dmaWriteAck _ | .dmaAccessTimeout _ | .mirrorAckTimeout _
  | .emitQueueTimeout _ | .dmaDescBad _ => true
  | .frameStart _ _ _ _ t => timeOk t
  | .frameEnd _ _ _ _ t => timeOk t
  | .ignoredShortPacket _ _ _ _ => true
  | .longPacket _ _ _ _ _ _ data t => fits 16 data.length && timeOk t
  | .laneSotError _ | .camStreamLost _ | .camIbi _ _ _ | .csiLaneSync _ _ => true
  | .lineAccepted _ _ t => timeOk t
  | .frameTimeout _ t => timeOk t
  | .frameCompletion _ t => timeOk t
  | .scmEntryComplete _ _ data t => decide (data.length ≤ 6) && timeOk t
  | .scmTimeout _ t => timeOk t
  | .warpBandStart _ _ _ | .warpBandComplete _ _ _ => true
  | .encodeComplete _ _ | .logData _ => true
  | .decodeComplete _ r => r.wf
  | .replayFrameStart _ t => timeOk t
  | .replayLineDelivery _ l => timeOk l.at_
  | .flitReceived _ _ _ _ | .laneLockLoss _ _ | .portRetrainDone _ _ => true
  | .transitReceived _ _ t correction _ => t.wf && fits 64 correction
  | .writeReceived t => t.wf
  | .signalReceived t => t.wf
  | .mirrorReceived t => t.wf
  | .ackReceived source q refused => fits 9 source && fits 32 q && fits 16 refused
  | .heartbeatReceived h => h.wf
  | .alignReceived _ a t => a.wf && timeOk t
  | .takeoverReceived sender retired turn index q => fits 9 sender && fits 9 retired && positionOk turn index && fits 32 q
  | .e2eTimeout dst => fits 9 dst
  | .logRecordMove | .turnHealthRecord | .watchdogExpiry _ | .hmWatchdogExpiry | .componentRestartDone _ => true
  | .steadyTick rails other => decide (rails.length = 4) && decide (other.length = 5)
  | .groupReportWrite | .voltageReached _ | .limiterWindow _ _ _ | .ballastWindow _ _ _ | .ballastHoldExpiry _ | .railLoss _ _ => true
  | .thermalSample _ temps => decide (temps.length = 8)
  | .ethFrameReceived _ _ _ mac vlan body t => fits 48 mac && fits 12 vlan && body.wf && timeOk t
  | .reassemblyTimeout session q => fits 64 session && fits 32 q
  | .macsecPeerTimeout _ | .asCapableChange _ _ _ | .ethFrameTransmitted _ _ | .qbvGateChange _ => true
  | .sessionIdleTimeout session => fits 64 session
  | .openSession h a b c r => h.wf && fits 8 a && fits 8 b && fits 8 c && fits 8 r
  | .closeSession h | .keepalive h | .status h | .stop h | .restartWarm h | .restartCold h | .updateAccept h | .updateDiscard h
  | .updateStatus h | .replayStop h | .nonce h | .provisionLifecycle h | .recoveryStatus h => h.wf
  | .start h _ _ => h.wf
  | .eventRead h first count => h.wf && fits 64 first && fits 16 count
  | .eventSubscribe h sev => h.wf && fits 8 sev
  | .unknownType h ty => h.wf && fits 16 ty
  | .modelReadResponse _ m off len data => fits 32 m && fits 64 off && fits 32 len && decide (data.length ≤ 1048576)
  | .modelReadTimeout _ off => fits 64 off
  | .fetchRetry _ => true
  | .updateBegin h kind m len off _ => h.wf && fits 8 kind && fits 32 m && fits 64 len && fits 64 off
  | .updateData h k off _ => h.wf && fits 32 k && fits 64 off
  | .updateEnd h k => h.wf && fits 32 k
  | .replayStart h _ => h.wf
  | .quote h _ => h.wf
  | .securityRequest h _ => h.wf
  | .pertAuthorise h _ => h.wf
  | .provisionKey h k _ => h.wf && fits 8 k
  | .recoveryWrite h target off _ => h.wf && fits 8 target && fits 64 off
  | .recoveryCommit h target total => h.wf && fits 8 target && fits 64 total
  | .safetyReadFrame off n => fits 16 off && fits 8 n
  | .safetyChallenge _ | .safetyStopRequest _ | .safetyAliveTick | .maintDataRead | .maintDataWrite _ | .maintDoorbell _ => true
  | .appMailboxRequest _ _ | .appMailboxCfgWrite _ _ | .appMailboxRspFreed _ _ => true

/-- The spindle time that a timestamped command carries. -/
def Instr.timestamp : Instr → Option Nat
  | .gptpSync _ _ t | .ppsEdge t | .holdoverExpired t | .frameStart _ _ _ _ t | .frameEnd _ _ _ _ t | .longPacket _ _ _ _ _ _ _ t
  | .lineAccepted _ _ t | .frameTimeout _ t | .frameCompletion _ t | .scmEntryComplete _ _ _ t | .scmTimeout _ t
  | .replayFrameStart _ t | .alignReceived _ _ t | .ethFrameReceived _ _ _ _ _ _ t => some t
  | .replayLineDelivery _ l => some l.at_
  | .porstRise .. | .porstFall .. | .brownOut .. | .brownOutEnd | .coldStart .. | .warmStart .. | .memTrainingComplete ..
  | .fxTrainingComplete .. | .enterReady .. | .sourceTimeout .. | .indexBoundary | .fsyncAssert .. | .fsyncDeassert .. | .ppsOutAssert
  | .ppsOutDeassert | .stepRequest | .spPeriodWrite .. | .spPhaseWrite .. | .spSlewWrite .. | .fsyncOffsetWrite .. | .holdReleaseNow ..
  | .holdReleaseAtTurn .. | .ppsSecondsArm .. | .spTimeLoRead | .nePlanActiveLoRead | .dmaBadAddrLoRead .. | .memUeAddrLoRead
  | .memProtAddrLoRead | .csiTsLoRead .. | .hsSlotSeqLoRead .. | .hsNonceLoRead | .pertNonceLoRead | .neQstatSelWrite ..
  | .neQthrWrite .. | .neCtrSelWrite .. | .fxWindowWrite .. | .hsMeasSelWrite .. | .hsExtExtend .. | .pertClose | .pertSlotEnable ..
  | .pertSlotEnd .. | .registerWrite .. | .physAccess .. | .dramScrubStep .. | .shmScrubStep .. | .dramRefreshPoll ..
  | .dramChannelFault .. | .dramRetrainDone .. | .passFeedComplete .. | .passDecisionPoint .. | .descriptorComplete ..
  | .vectorOpComplete .. | .constantsWritten | .dmaLoadComplete .. | .dmaReadData .. | .dmaWriteAck .. | .dmaAccessTimeout ..
  | .mirrorAckTimeout .. | .emitQueueTimeout .. | .dmaDescBad .. | .ignoredShortPacket .. | .laneSotError .. | .camStreamLost ..
  | .camIbi .. | .warpBandStart .. | .warpBandComplete .. | .encodeComplete .. | .logData .. | .decodeComplete .. | .flitReceived ..
  | .laneLockLoss .. | .portRetrainDone .. | .transitReceived .. | .writeReceived .. | .signalReceived .. | .mirrorReceived ..
  | .ackReceived .. | .heartbeatReceived .. | .takeoverReceived .. | .e2eTimeout .. | .logRecordMove | .turnHealthRecord
  | .watchdogExpiry .. | .hmWatchdogExpiry | .steadyTick .. | .groupReportWrite | .voltageReached .. | .limiterWindow ..
  | .ballastWindow .. | .ballastHoldExpiry .. | .thermalSample .. | .railLoss .. | .reassemblyTimeout .. | .macsecPeerTimeout ..
  | .sessionIdleTimeout .. | .openSession .. | .closeSession .. | .keepalive .. | .status .. | .start .. | .stop .. | .restartWarm ..
  | .restartCold .. | .eventRead .. | .eventSubscribe .. | .unknownType .. | .modelReadResponse .. | .modelReadTimeout ..
  | .fetchRetry .. | .updateBegin .. | .updateData .. | .updateEnd .. | .updateAccept .. | .updateDiscard .. | .updateStatus ..
  | .replayStart .. | .replayStop .. | .nonce .. | .quote .. | .securityRequest .. | .pertAuthorise .. | .provisionKey ..
  | .provisionLifecycle .. | .recoveryStatus .. | .recoveryWrite .. | .recoveryCommit .. | .safetyReadFrame .. | .safetyChallenge ..
  | .safetyStopRequest .. | .safetyAliveTick | .maintDataRead | .maintDataWrite .. | .maintDoorbell .. | .appMailboxRequest ..
  | .appMailboxCfgWrite .. | .appMailboxRspFreed .. | .registerClearingRead .. | .asCapableChange .. | .csiLaneSync ..
  | .componentRestartDone .. | .ethFrameTransmitted .. | .qbvGateChange .. | .dramIntervalMaintenance .. => none

end Sys2Proof
end

