-- ==== Sys2Proof/Laws/PerInstr.lean ====
section
/-! SUPPORT. Statements made for every command as syntax, one lemma per constructor. -/
namespace Sys2Proof.Laws.F

/-- A well-formed command that carries a timestamp carries a 64-bit spindle time (01 'Reference sources and lock'). -/
def Statement (i : Instr) : Prop := i.wf = true → ∀ t, i.timestamp = some t → t < 2 ^ 64

theorem porstRise (strapRecovery strapTest : Bool) : Statement (Instr.porstRise strapRecovery strapTest) := by intro _ _ e; cases e
theorem porstFall (lowNs : Nat) : Statement (Instr.porstFall lowNs) := by intro _ _ e; cases e
theorem brownOut (rail : MonitoredRail) (permilleBelow lowNs : Nat) : Statement (Instr.brownOut rail permilleBelow lowNs) := by intro _ _ e; cases e
theorem brownOutEnd : Statement (Instr.brownOutEnd) := by intro _ _ e; cases e
theorem coldStart (sfdpOk : Bool) : Statement (Instr.coldStart sfdpOk) := by intro _ _ e; cases e
theorem warmStart (recordCrcOk : Bool) (channelsFailing : BitVec 16) : Statement (Instr.warmStart recordCrcOk channelsFailing) := by intro _ _ e; cases e
theorem memTrainingComplete (failed : BitVec 16) (gibPerChannel : List Nat) : Statement (Instr.memTrainingComplete failed gibPerChannel) := by intro _ _ e; cases e
theorem fxTrainingComplete (port : Fin 8) (ok : Bool) (neighbour : Nat) (neighbourPort : Fin 8) (signature : Long) (delayNs : Nat) : Statement (Instr.fxTrainingComplete port ok neighbour neighbourPort signature delayNs) := by intro _ _ e; cases e
theorem enterReady (startMs : Nat) : Statement (Instr.enterReady startMs) := by intro _ _ e; cases e
theorem gptpSync (sync : SyncMessage) (reference : Nat) (at_ : Nat) :
    Statement (Instr.gptpSync sync reference at_) := by
  intro h t e; cases e; simp_all [Instr.wf, timeOk, fits]
theorem ppsEdge (at_ : Nat) : Statement (Instr.ppsEdge at_) := by
  intro h t e; cases e; simp_all [Instr.wf, timeOk, fits]
theorem sourceTimeout (source : TimeSource) : Statement (Instr.sourceTimeout source) := by intro _ _ e; cases e
theorem holdoverExpired (at_ : Nat) : Statement (Instr.holdoverExpired at_) := by
  intro h t e; cases e; simp_all [Instr.wf, timeOk, fits]
theorem indexBoundary : Statement (Instr.indexBoundary) := by intro _ _ e; cases e
theorem fsyncAssert (f : Fin 8) : Statement (Instr.fsyncAssert f) := by intro _ _ e; cases e
theorem fsyncDeassert (f : Fin 8) : Statement (Instr.fsyncDeassert f) := by intro _ _ e; cases e
theorem ppsOutAssert : Statement (Instr.ppsOutAssert) := by intro _ _ e; cases e
theorem ppsOutDeassert : Statement (Instr.ppsOutDeassert) := by intro _ _ e; cases e
theorem stepRequest : Statement (Instr.stepRequest) := by intro _ _ e; cases e
theorem spPeriodWrite (value : Word) : Statement (Instr.spPeriodWrite value) := by intro _ _ e; cases e
theorem spPhaseWrite (value : Word) : Statement (Instr.spPhaseWrite value) := by intro _ _ e; cases e
theorem spSlewWrite (value : Word) : Statement (Instr.spSlewWrite value) := by intro _ _ e; cases e
theorem fsyncOffsetWrite (f : Fin 8) (value : Word) : Statement (Instr.fsyncOffsetWrite f value) := by intro _ _ e; cases e
theorem holdReleaseNow (mask : BitVec 11) : Statement (Instr.holdReleaseNow mask) := by intro _ _ e; cases e
theorem holdReleaseAtTurn (mask : BitVec 11) : Statement (Instr.holdReleaseAtTurn mask) := by intro _ _ e; cases e
theorem ppsSecondsArm (low : Word) : Statement (Instr.ppsSecondsArm low) := by intro _ _ e; cases e
theorem spTimeLoRead : Statement (Instr.spTimeLoRead) := by intro _ _ e; cases e
theorem nePlanActiveLoRead : Statement (Instr.nePlanActiveLoRead) := by intro _ _ e; cases e
theorem dmaBadAddrLoRead (channel : Fin 80) : Statement (Instr.dmaBadAddrLoRead channel) := by intro _ _ e; cases e
theorem memUeAddrLoRead : Statement (Instr.memUeAddrLoRead) := by intro _ _ e; cases e
theorem memProtAddrLoRead : Statement (Instr.memProtAddrLoRead) := by intro _ _ e; cases e
theorem csiTsLoRead (stream : Fin 32) : Statement (Instr.csiTsLoRead stream) := by intro _ _ e; cases e
theorem hsSlotSeqLoRead (slotB : Bool) : Statement (Instr.hsSlotSeqLoRead slotB) := by intro _ _ e; cases e
theorem hsNonceLoRead : Statement (Instr.hsNonceLoRead) := by intro _ _ e; cases e
theorem pertNonceLoRead : Statement (Instr.pertNonceLoRead) := by intro _ _ e; cases e
theorem neQstatSelWrite (value : Word) : Statement (Instr.neQstatSelWrite value) := by intro _ _ e; cases e
theorem neQthrWrite (value : Word) : Statement (Instr.neQthrWrite value) := by intro _ _ e; cases e
theorem neCtrSelWrite (value : Word) : Statement (Instr.neCtrSelWrite value) := by intro _ _ e; cases e
theorem fxWindowWrite (receive : Bool) (window : Fin 16) (reg : Fin 3) (value : Word) : Statement (Instr.fxWindowWrite receive window reg value) := by intro _ _ e; cases e
theorem hsMeasSelWrite (value : Word) : Statement (Instr.hsMeasSelWrite value) := by intro _ _ e; cases e
theorem hsExtExtend (agent : Agent) : Statement (Instr.hsExtExtend agent) := by intro _ _ e; cases e
theorem pertClose : Statement (Instr.pertClose) := by intro _ _ e; cases e
theorem pertSlotEnable (slot : Fin 16) (value : Word) : Statement (Instr.pertSlotEnable slot value) := by intro _ _ e; cases e
theorem pertSlotEnd (slot : Fin 16) : Statement (Instr.pertSlotEnd slot) := by intro _ _ e; cases e
theorem registerWrite (address : Nat) (value : Word) : Statement (Instr.registerWrite address value) := by intro _ _ e; cases e
theorem physAccess (agent : Agent) (address : Nat) (bytes : Nat) (store : Option (List Byte)) (errors : AccessErrors) : Statement (Instr.physAccess agent address bytes store errors) := by intro _ _ e; cases e
theorem dramScrubStep (channel : Fin 16) (errors : Nat) : Statement (Instr.dramScrubStep channel errors) := by intro _ _ e; cases e
theorem shmScrubStep (slice : Fin 16) (errors : Nat) : Statement (Instr.shmScrubStep slice errors) := by intro _ _ e; cases e
theorem dramRefreshPoll (channel : Fin 16) (refreshMult : Nat) : Statement (Instr.dramRefreshPoll channel refreshMult) := by intro _ _ e; cases e
theorem dramChannelFault (channel : Fin 16) : Statement (Instr.dramChannelFault channel) := by intro _ _ e; cases e
theorem dramRetrainDone (channel : Fin 16) (ok : Bool) : Statement (Instr.dramRetrainDone channel ok) := by intro _ _ e; cases e
theorem passFeedComplete (core : Fin 32) (array : Fin 4) : Statement (Instr.passFeedComplete core array) := by intro _ _ e; cases e
theorem passDecisionPoint (core : Fin 32) (array : Fin 4) (faults : List (Fin 32 × Fin 32)) : Statement (Instr.passDecisionPoint core array faults) := by intro _ _ e; cases e
theorem descriptorComplete (core : Fin 32) (array : Fin 4) : Statement (Instr.descriptorComplete core array) := by intro _ _ e; cases e
theorem vectorOpComplete (unit : VectorEnd) : Statement (Instr.vectorOpComplete unit) := by intro _ _ e; cases e
theorem constantsWritten : Statement (Instr.constantsWritten) := by intro _ _ e; cases e
theorem dmaLoadComplete (channel : Fin 80) (readOk : Bool) (waited : Nat) : Statement (Instr.dmaLoadComplete channel readOk waited) := by intro _ _ e; cases e
theorem dmaReadData (channel : Fin 80) (errors : ReadErrors) : Statement (Instr.dmaReadData channel errors) := by intro _ _ e; cases e
theorem dmaWriteAck (channel : Fin 80) : Statement (Instr.dmaWriteAck channel) := by intro _ _ e; cases e
theorem dmaAccessTimeout (channel : Fin 80) : Statement (Instr.dmaAccessTimeout channel) := by intro _ _ e; cases e
theorem mirrorAckTimeout (channel : Fin 80) : Statement (Instr.mirrorAckTimeout channel) := by intro _ _ e; cases e
theorem emitQueueTimeout (channel : Fin 80) : Statement (Instr.emitQueueTimeout channel) := by intro _ _ e; cases e
theorem dmaDescBad (channel : Fin 80) : Statement (Instr.dmaDescBad channel) := by intro _ _ e; cases e
theorem frameStart (rx : Fin 8) (vc : Fin 32) (number : Half) (header : HeaderCheck) (at_ : Nat) : Statement (Instr.frameStart rx vc number header at_) := by
  intro h t e; cases e; simp_all [Instr.wf, timeOk, fits]
theorem frameEnd (rx : Fin 8) (vc : Fin 32) (number : Half) (header : HeaderCheck) (at_ : Nat) : Statement (Instr.frameEnd rx vc number header at_) := by
  intro h t e; cases e; simp_all [Instr.wf, timeOk, fits]
theorem ignoredShortPacket (rx : Fin 8) (vc : Fin 32) (dataType : BitVec 6) (header : HeaderCheck) : Statement (Instr.ignoredShortPacket rx vc dataType header) := by intro _ _ e; cases e
theorem longPacket (rx : Fin 8) (vc : Fin 32) (dataType : BitVec 6) (header : HeaderCheck) (crcOk room : Bool) (data : List Byte) (at_ : Nat) : Statement (Instr.longPacket rx vc dataType header crcOk room data at_) := by
  intro h t e; cases e; simp_all [Instr.wf, timeOk, fits]
theorem laneSotError (rx : Fin 8) : Statement (Instr.laneSotError rx) := by intro _ _ e; cases e
theorem lineAccepted (stream : Fin 32) (lateTap : Bool) (at_ : Nat) : Statement (Instr.lineAccepted stream lateTap at_) := by
  intro h t e; cases e; simp_all [Instr.wf, timeOk, fits]
theorem frameTimeout (stream : Fin 32) (at_ : Nat) : Statement (Instr.frameTimeout stream at_) := by
  intro h t e; cases e; simp_all [Instr.wf, timeOk, fits]
theorem frameCompletion (stream : Fin 32) (at_ : Nat) : Statement (Instr.frameCompletion stream at_) := by
  intro h t e; cases e; simp_all [Instr.wf, timeOk, fits]
theorem camStreamLost (stream : Fin 32) : Statement (Instr.camStreamLost stream) := by intro _ _ e; cases e
theorem scmEntryComplete (master : Fin 8) (status : Fin 3) (readData : List Byte) (at_ : Nat) : Statement (Instr.scmEntryComplete master status readData at_) := by
  intro h t e; cases e; simp_all [Instr.wf, timeOk, fits]
theorem scmTimeout (master : Fin 8) (at_ : Nat) : Statement (Instr.scmTimeout master at_) := by
  intro h t e; cases e; simp_all [Instr.wf, timeOk, fits]
theorem camIbi (master : Fin 8) (address : BitVec 7) (mdb : Byte) : Statement (Instr.camIbi master address mdb) := by intro _ _ e; cases e
theorem warpBandStart (pipe : Fin 4) (context : Fin 8) (output : Fin 4) : Statement (Instr.warpBandStart pipe context output) := by intro _ _ e; cases e
theorem warpBandComplete (pipe : Fin 4) (context : Fin 8) (output : Fin 4) : Statement (Instr.warpBandComplete pipe context output) := by intro _ _ e; cases e
theorem encodeComplete (encoder : Fin 16) (bitstream : List Byte) : Statement (Instr.encodeComplete encoder bitstream) := by intro _ _ e; cases e
theorem logData (encoder : Fin 16) : Statement (Instr.logData encoder) := by intro _ _ e; cases e
theorem decodeComplete (decoder : Fin 48) (result : DecodeResult) : Statement (Instr.decodeComplete decoder result) := by intro _ _ e; cases e
theorem replayFrameStart (stream : Fin 32) (at_ : Nat) : Statement (Instr.replayFrameStart stream at_) := by
  intro h t e; cases e; simp_all [Instr.wf, timeOk, fits]
theorem replayLineDelivery (stream : Fin 32) (at_ : ReplayLine) : Statement (Instr.replayLineDelivery stream at_) := by
  intro h t e; cases e; simp_all [Instr.wf, timeOk, fits]
theorem flitReceived (port : Fin 8) (crcOk fecCorrected fecUncorrectable : Bool) : Statement (Instr.flitReceived port crcOk fecCorrected fecUncorrectable) := by intro _ _ e; cases e
theorem laneLockLoss (port : Fin 8) (trigger : RetrainTrigger) : Statement (Instr.laneLockLoss port trigger) := by intro _ _ e; cases e
theorem portRetrainDone (port : Fin 8) (ok : Bool) : Statement (Instr.portRetrainDone port ok) := by intro _ _ e; cases e
theorem transitReceived (port : Fin 8) (kind : TransitKind) (t : Transaction) (correction residenceNs : Nat) : Statement (Instr.transitReceived port kind t correction residenceNs) := by intro _ _ e; cases e
theorem writeReceived (t : Transaction) : Statement (Instr.writeReceived t) := by intro _ _ e; cases e
theorem signalReceived (t : Transaction) : Statement (Instr.signalReceived t) := by intro _ _ e; cases e
theorem mirrorReceived (t : Transaction) : Statement (Instr.mirrorReceived t) := by intro _ _ e; cases e
theorem ackReceived (source : Nat) (sequence refused : Nat) : Statement (Instr.ackReceived source sequence refused) := by intro _ _ e; cases e
theorem heartbeatReceived (h : Heartbeat) : Statement (Instr.heartbeatReceived h) := by intro _ _ e; cases e
theorem alignReceived (port : Fin 8) (a : AlignRec) (at_ : Nat) : Statement (Instr.alignReceived port a at_) := by
  intro h t e; cases e; simp_all [Instr.wf, timeOk, fits]
theorem takeoverReceived (sender retired turn index sequence : Nat) : Statement (Instr.takeoverReceived sender retired turn index sequence) := by intro _ _ e; cases e
theorem e2eTimeout (destination : Nat) : Statement (Instr.e2eTimeout destination) := by intro _ _ e; cases e
theorem logRecordMove : Statement (Instr.logRecordMove) := by intro _ _ e; cases e
theorem turnHealthRecord : Statement (Instr.turnHealthRecord) := by intro _ _ e; cases e
theorem watchdogExpiry (component : Fin 8) : Statement (Instr.watchdogExpiry component) := by intro _ _ e; cases e
theorem hmWatchdogExpiry : Statement (Instr.hmWatchdogExpiry) := by intro _ _ e; cases e
theorem steadyTick (rails : List RailReading) (other : List OtherReading) : Statement (Instr.steadyTick rails other) := by intro _ _ e; cases e
theorem groupReportWrite : Statement (Instr.groupReportWrite) := by intro _ _ e; cases e
theorem voltageReached (quadrant : Fin 4) : Statement (Instr.voltageReached quadrant) := by intro _ _ e; cases e
theorem limiterWindow (quadrant : Fin 4) (staticMa dynamicMa : Nat) : Statement (Instr.limiterWindow quadrant staticMa dynamicMa) := by intro _ _ e; cases e
theorem ballastWindow (quadrant : Fin 4) (realMa perSixteenthMa : Nat) : Statement (Instr.ballastWindow quadrant realMa perSixteenthMa) := by intro _ _ e; cases e
theorem ballastHoldExpiry (quadrant : Fin 4) : Statement (Instr.ballastHoldExpiry quadrant) := by intro _ _ e; cases e
theorem thermalSample (quadrant : Fin 4) (temps : List Int) : Statement (Instr.thermalSample quadrant temps) := by intro _ _ e; cases e
theorem railLoss (quadrant : Fin 4) (millivolt : Nat) : Statement (Instr.railLoss quadrant millivolt) := by intro _ _ e; cases e
theorem ethFrameReceived (port : Fin 3) (secured icvOk : Bool) (destMac vlan : Nat) (body : EthPayload) (at_ : Nat) :
    Statement (Instr.ethFrameReceived port secured icvOk destMac vlan body at_) := by
  intro h t e; cases e; simp_all [Instr.wf, timeOk, fits]
theorem reassemblyTimeout (session sequence : Nat) : Statement (Instr.reassemblyTimeout session sequence) := by intro _ _ e; cases e
theorem macsecPeerTimeout (port : Fin 3) : Statement (Instr.macsecPeerTimeout port) := by intro _ _ e; cases e
theorem sessionIdleTimeout (session : Nat) : Statement (Instr.sessionIdleTimeout session) := by intro _ _ e; cases e
theorem openSession (hdr : ReqHdr) (minMajor maxMajor maxMinor role : Nat) : Statement (Instr.openSession hdr minMajor maxMajor maxMinor role) := by intro _ _ e; cases e
theorem closeSession (hdr : ReqHdr) : Statement (Instr.closeSession hdr) := by intro _ _ e; cases e
theorem keepalive (hdr : ReqHdr) : Statement (Instr.keepalive hdr) := by intro _ _ e; cases e
theorem status (hdr : ReqHdr) : Statement (Instr.status hdr) := by intro _ _ e; cases e
theorem start (hdr : ReqHdr) (startTurn : Word) (useStartTurn : Bool) : Statement (Instr.start hdr startTurn useStartTurn) := by intro _ _ e; cases e
theorem stop (hdr : ReqHdr) : Statement (Instr.stop hdr) := by intro _ _ e; cases e
theorem restartWarm (hdr : ReqHdr) : Statement (Instr.restartWarm hdr) := by intro _ _ e; cases e
theorem restartCold (hdr : ReqHdr) : Statement (Instr.restartCold hdr) := by intro _ _ e; cases e
theorem eventRead (hdr : ReqHdr) (first count : Nat) : Statement (Instr.eventRead hdr first count) := by intro _ _ e; cases e
theorem eventSubscribe (hdr : ReqHdr) (severity : Nat) : Statement (Instr.eventSubscribe hdr severity) := by intro _ _ e; cases e
theorem unknownType (hdr : ReqHdr) (msgType : Nat) : Statement (Instr.unknownType hdr msgType) := by intro _ _ e; cases e
theorem modelReadResponse (entry modelId offset length : Nat) (data : List Byte) : Statement (Instr.modelReadResponse entry modelId offset length data) := by intro _ _ e; cases e
theorem modelReadTimeout (entry offset : Nat) : Statement (Instr.modelReadTimeout entry offset) := by intro _ _ e; cases e
theorem fetchRetry (entry : Nat) : Statement (Instr.fetchRetry entry) := by intro _ _ e; cases e
theorem updateBegin (hdr : ReqHdr) (kind modelId length neOffset : Nat) (digest : List Byte) : Statement (Instr.updateBegin hdr kind modelId length neOffset digest) := by intro _ _ e; cases e
theorem updateData (hdr : ReqHdr) (handle offset : Nat) (data : List Byte) : Statement (Instr.updateData hdr handle offset data) := by intro _ _ e; cases e
theorem updateEnd (hdr : ReqHdr) (handle : Nat) : Statement (Instr.updateEnd hdr handle) := by intro _ _ e; cases e
theorem updateAccept (hdr : ReqHdr) : Statement (Instr.updateAccept hdr) := by intro _ _ e; cases e
theorem updateDiscard (hdr : ReqHdr) : Statement (Instr.updateDiscard hdr) := by intro _ _ e; cases e
theorem updateStatus (hdr : ReqHdr) : Statement (Instr.updateStatus hdr) := by intro _ _ e; cases e
theorem replayStart (hdr : ReqHdr) (validation : List Byte) : Statement (Instr.replayStart hdr validation) := by intro _ _ e; cases e
theorem replayStop (hdr : ReqHdr) : Statement (Instr.replayStop hdr) := by intro _ _ e; cases e
theorem nonce (hdr : ReqHdr) : Statement (Instr.nonce hdr) := by intro _ _ e; cases e
theorem quote (hdr : ReqHdr) (hostNonce : List Byte) : Statement (Instr.quote hdr hostNonce) := by intro _ _ e; cases e
theorem securityRequest (hdr : ReqHdr) (record : List Byte) : Statement (Instr.securityRequest hdr record) := by intro _ _ e; cases e
theorem pertAuthorise (hdr : ReqHdr) (record : List Byte) : Statement (Instr.pertAuthorise hdr record) := by intro _ _ e; cases e
theorem provisionKey (hdr : ReqHdr) (slot : Nat) (key : List Byte) : Statement (Instr.provisionKey hdr slot key) := by intro _ _ e; cases e
theorem provisionLifecycle (hdr : ReqHdr) : Statement (Instr.provisionLifecycle hdr) := by intro _ _ e; cases e
theorem recoveryStatus (hdr : ReqHdr) : Statement (Instr.recoveryStatus hdr) := by intro _ _ e; cases e
theorem recoveryWrite (hdr : ReqHdr) (target offset : Nat) (data : List Byte) : Statement (Instr.recoveryWrite hdr target offset data) := by intro _ _ e; cases e
theorem recoveryCommit (hdr : ReqHdr) (target total : Nat) : Statement (Instr.recoveryCommit hdr target total) := by intro _ _ e; cases e
theorem safetyReadFrame (offset count : Nat) : Statement (Instr.safetyReadFrame offset count) := by intro _ _ e; cases e
theorem safetyChallenge (frame : List Byte) : Statement (Instr.safetyChallenge frame) := by intro _ _ e; cases e
theorem safetyStopRequest (frame : List Byte) : Statement (Instr.safetyStopRequest frame) := by intro _ _ e; cases e
theorem safetyAliveTick : Statement (Instr.safetyAliveTick) := by intro _ _ e; cases e
theorem maintDataRead : Statement (Instr.maintDataRead) := by intro _ _ e; cases e
theorem maintDataWrite (frame : List Byte) : Statement (Instr.maintDataWrite frame) := by intro _ _ e; cases e
theorem maintDoorbell (frame : List Byte) : Statement (Instr.maintDoorbell frame) := by intro _ _ e; cases e
theorem appMailboxRequest (m : Fin 4) (reqWr : Word) : Statement (Instr.appMailboxRequest m reqWr) := by intro _ _ e; cases e
theorem appMailboxCfgWrite (m : Fin 4) (value : Word) : Statement (Instr.appMailboxCfgWrite m value) := by intro _ _ e; cases e
theorem appMailboxRspFreed (m : Fin 4) (rspRd : Word) : Statement (Instr.appMailboxRspFreed m rspRd) := by intro _ _ e; cases e
theorem registerClearingRead (address : Nat) : Statement (Instr.registerClearingRead address) := by intro _ _ e; cases e
theorem asCapableChange (port : Fin 3) (linkUp asCapable : Bool) : Statement (Instr.asCapableChange port linkUp asCapable) := by intro _ _ e; cases e
theorem csiLaneSync (rx : Fin 8) (event : LaneEvent) : Statement (Instr.csiLaneSync rx event) := by intro _ _ e; cases e
theorem componentRestartDone (component : Fin 8) : Statement (Instr.componentRestartDone component) := by intro _ _ e; cases e
theorem ethFrameTransmitted (port : Fin 3) (control : Bool) : Statement (Instr.ethFrameTransmitted port control) := by intro _ _ e; cases e
theorem qbvGateChange (port : Fin 3) : Statement (Instr.qbvGateChange port) := by intro _ _ e; cases e
theorem dramIntervalMaintenance (channel : Fin 16) (blockedNs refreshMult : Nat) : Statement (Instr.dramIntervalMaintenance channel blockedNs refreshMult) := by intro _ _ e; cases e

end Sys2Proof.Laws.F
end

