-- ==== Sys2Proof/Tests/Slice0.lean ====
section
/-! SUPPORT. Tests: ill-formed commands that the checks refuse, single steps whose results are worked out from the spec, and for
every statement with hypotheses a state and operands that meet them. -/

-- One theorem after another: many kernel evaluations at once take more memory than a check has.
set_option Elab.async false

namespace Sys2Proof.Tests

open Sys2Proof.Machine Sys2Proof.Safety

-- Well-formedness: one ill-formed command for each check.

def badHdr : ReqHdr := { path := .maint, major := 1, minor := 0, sequence := 2 ^ 32, session := 1 }
def okHdr : ReqHdr := { path := .maint, major := 1, minor := 0, sequence := 7, session := 5 }
def okTx : Transaction :=
  { source := 2, destination := 1, original := 1, redirected := false, turn := 3, sequence := 1, address := 64, item := 0, last := false, payload := [1, 2] }

theorem test_wf_accepts : ([.porstRise true false, .gptpSync ⟨0, 0⟩ 5 6, .writeReceived okTx, .keepalive okHdr,
    .physAccess .application 0x1000000000 2 (some [1, 2]) {}, .memTrainingComplete 0 (List.replicate 16 8)] : List Instr).all Instr.wf = true := by
  decide +kernel

theorem test_wf_refuses_times : ([.gptpSync ⟨0, 0⟩ (2 ^ 64) 0, .gptpSync ⟨0, 0⟩ 0 (2 ^ 64), .ppsEdge (2 ^ 64), .holdoverExpired (2 ^ 64),
    .frameStart 0 0 0 .ok (2 ^ 64), .frameEnd 0 0 0 .ok (2 ^ 64), .longPacket 0 0 0 .ok true true [] (2 ^ 64),
    .lineAccepted 0 false (2 ^ 64), .frameTimeout 0 (2 ^ 64), .frameCompletion 0 (2 ^ 64), .scmEntryComplete 0 0 [] (2 ^ 64),
    .scmTimeout 0 (2 ^ 64), .replayFrameStart 0 (2 ^ 64), .replayLineDelivery 0 ⟨2 ^ 64, false⟩,
    .ethFrameReceived 0 true true 0 0 .gptp (2 ^ 64)] : List Instr).all (fun i => !i.wf) = true := by decide +kernel

/-- What a bitstream declares: HEVC Main, 8 bits, 4:2:0, of a size. -/
def stream8 (w h : Nat) : Bitstream :=
  { av1 := false, profile := 1, level := 90, bits := 8, mono := false, chroma420 := true, excluded := false, width := w, height := h }

theorem test_wf_refuses_sizes : ([.brownOut .soc 1001 5, .memTrainingComplete 0 [8], .fxTrainingComplete 0 true 512 0 0 0,
    .registerWrite 2 0, .registerWrite (2 ^ 48) 0, .registerClearingRead 1, .physAccess .kernel (2 ^ 48) 4 none {},
    .physAccess .kernel 0 0 none {}, .physAccess .kernel 0 4 (some [1]) {},
    .scmEntryComplete 0 0 (List.replicate 7 0) 0, .decodeComplete 0 (.decoded (stream8 2 2) 1 0 2 2 [1] [1] [1]),
    .decodeComplete 0 (.incomplete (stream8 2 2) 1 0 2 2 [some 1, some 1, some 1, some 1, some 1] [] []),
    .decodeComplete 0 (.incomplete (stream8 2 2) 1 1 2 2 [] [] []),
    .steadyTick [] (List.replicate 5 none), .steadyTick (List.replicate 4 ⟨true, 0, 0, false⟩) [], .thermalSample 0 []] : List Instr).all
    (fun i => !i.wf) = true := by decide +kernel

theorem test_wf_refuses_join : ([.transitReceived 0 .write { okTx with source := 512 } 0 0, .transitReceived 0 .align okTx (2 ^ 64) 0,
    .writeReceived { okTx with destination := 512 }, .writeReceived { okTx with original := 512 }, .writeReceived { okTx with turn := 2 ^ 32 },
    .signalReceived { okTx with sequence := 2 ^ 32 }, .signalReceived { okTx with address := 2 ^ 64 }, .mirrorReceived { okTx with item := 65536 }, .ackReceived 512 0 0, .ackReceived 0 (2 ^ 32) 0, .ackReceived 0 0 65536,
    .heartbeatReceived ⟨512, 0, false, false, 0, 0, 0, 0⟩, .heartbeatReceived ⟨0, 3, false, false, 0, 0, 0, 0⟩,
    .heartbeatReceived ⟨0, 0, false, false, 2 ^ 32, 0, 0, 0⟩, .heartbeatReceived ⟨0, 0, false, false, 0, 4096, 0, 0⟩,
    .heartbeatReceived ⟨0, 0, false, false, 0, 0, 65536, 0⟩, .heartbeatReceived ⟨0, 0, false, false, 0, 0, 0, 2 ^ 32⟩,
    .alignReceived 0 ⟨512, 0, 0, 0, 0⟩ 0, .alignReceived 0 ⟨0, 0, 4096, 0, 0⟩ 0, .alignReceived 0 ⟨0, 0, 0, 2 ^ 64, 0⟩ 0,
    .alignReceived 0 ⟨0, 0, 0, 0, 2 ^ 64⟩ 0, .alignReceived 0 ⟨0, 0, 0, 0, 0⟩ (2 ^ 64), .takeoverReceived 512 0 0 0 0,
    .takeoverReceived 0 512 0 0 0, .takeoverReceived 0 0 0 4096 0, .takeoverReceived 0 0 0 0 (2 ^ 32), .e2eTimeout 512] : List Instr).all
    (fun i => !i.wf) = true := by decide +kernel

def okFrag : Fragment :=
  { msgType := 3, major := 1, minor := 0, flags := 2, length := 0, sequence := 7, session := 5, offset := 0, data := [] }

/-- The datagram of a request from the host of address 9, to the link-local address of a port whose MAC address is zero. -/
def okGram : Datagram := { source := 9, destination := linkLocalOf 0, destPort := 48020 }

theorem test_wf_refuses_frames : ([.ethFrameReceived 0 true true 0 4096 .gptp 0, .ethFrameReceived 0 true true (2 ^ 48) 0 .gptp 0,
    .ethFrameReceived 0 true true 0 0 (.fragment { okGram with source := 2 ^ 128 } okFrag) 0,
    .ethFrameReceived 0 true true 0 0 (.fragment { okGram with destination := 2 ^ 128 } okFrag) 0,
    .ethFrameReceived 0 true true 0 0 (.fragment { okGram with destPort := 65536 } okFrag) 0,
    .ethFrameReceived 0 true true 0 0 (.fragment okGram { okFrag with status := 256 }) 0,
    .ethFrameReceived 0 true true 0 0 (.fragment okGram { okFrag with msgType := 65536 }) 0,
    .ethFrameReceived 0 true true 0 0 (.fragment okGram { okFrag with major := 256 }) 0,
    .ethFrameReceived 0 true true 0 0 (.fragment okGram { okFrag with minor := 256 }) 0,
    .ethFrameReceived 0 true true 0 0 (.fragment okGram { okFrag with flags := 256 }) 0,
    .ethFrameReceived 0 true true 0 0 (.fragment okGram { okFrag with length := 2 ^ 32 }) 0,
    .ethFrameReceived 0 true true 0 0 (.fragment okGram { okFrag with sequence := 2 ^ 32 }) 0,
    .ethFrameReceived 0 true true 0 0 (.fragment okGram { okFrag with session := 2 ^ 64 }) 0,
    .ethFrameReceived 0 true true 0 0 (.fragment okGram { okFrag with offset := 2 ^ 32 }) 0,
    .reassemblyTimeout (2 ^ 64) 0, .reassemblyTimeout 0 (2 ^ 32), .sessionIdleTimeout (2 ^ 64), .safetyReadFrame 65536 1,
    .safetyReadFrame 0 256] : List Instr).all (fun i => !i.wf) = true := by decide +kernel

theorem test_wf_refuses_long_data (data : List Byte) :
    (data.length = 65536 → (Instr.longPacket 0 0 0 .ok true true data 0).wf = false) ∧
    (data.length = 1048577 → (Instr.modelReadResponse 0 0 0 0 data).wf = false) ∧
    (data.length = 4097 → (Instr.mirrorReceived { okTx with payload := data }).wf = false) ∧
    (data.length = 8897 → (Instr.ethFrameReceived 0 true true 0 0 (.fragment okGram { okFrag with data }) 0).wf = false) := by
  refine ⟨fun h => ?_, fun h => ?_, fun h => ?_, fun h => ?_⟩ <;>
    simp [Instr.wf, fits, Transaction.wf, Fragment.wf, EthPayload.wf, h]

theorem test_wf_refuses_headers : ([.keepalive badHdr, .keepalive { okHdr with major := 256 }, .keepalive { okHdr with minor := 256 },
    .keepalive { okHdr with session := 2 ^ 64 }, .keepalive { okHdr with path := .eth 0 (2 ^ 128) }, .openSession badHdr 1 1 0 1,
    .closeSession badHdr, .status badHdr, .start badHdr 0 false, .stop badHdr, .restartWarm badHdr, .restartCold badHdr,
    .eventRead badHdr 0 1, .eventSubscribe badHdr 0, .unknownType badHdr 9, .updateBegin badHdr 1 0 0 0 [], .updateData badHdr 0 0 [],
    .updateEnd badHdr 0, .updateAccept badHdr, .updateDiscard badHdr, .updateStatus badHdr, .replayStart badHdr [], .replayStop badHdr,
    .nonce badHdr, .quote badHdr [], .securityRequest badHdr [], .pertAuthorise badHdr [], .provisionKey badHdr 0 [],
    .provisionLifecycle badHdr, .recoveryStatus badHdr, .recoveryWrite badHdr 1 0 [], .recoveryCommit badHdr 1 0] : List Instr).all
    (fun i => !i.wf) = true := by decide +kernel

theorem test_wf_refuses_message_fields : ([.openSession okHdr 256 1 0 1, .openSession okHdr 1 256 0 1, .openSession okHdr 1 1 256 1,
    .openSession okHdr 1 1 0 256, .eventRead okHdr (2 ^ 64) 1, .eventRead okHdr 0 65536, .eventSubscribe okHdr 256, .unknownType okHdr 65536,
    .modelReadResponse 0 (2 ^ 32) 0 0 [], .modelReadResponse 0 0 (2 ^ 64) 0 [], .modelReadResponse 0 0 0 (2 ^ 32) [],
    .modelReadTimeout 0 (2 ^ 64), .updateBegin okHdr 256 0 0 0 [], .updateBegin okHdr 1 (2 ^ 32) 0 0 [], .updateBegin okHdr 1 0 (2 ^ 64) 0 [],
    .updateBegin okHdr 1 0 0 (2 ^ 64) [], .updateData okHdr (2 ^ 32) 0 [], .updateData okHdr 0 (2 ^ 64) [], .updateEnd okHdr (2 ^ 32),
    .provisionKey okHdr 256 [], .recoveryWrite okHdr 256 0 [], .recoveryWrite okHdr 1 (2 ^ 64) [], .recoveryCommit okHdr 256 0,
    .recoveryCommit okHdr 1 (2 ^ 64)] : List Instr).all (fun i => !i.wf) = true := by decide +kernel

-- Witnesses: for each statement with hypotheses, states and operands that meet them.

/-- A state in a mode with a device part. -/
def st (m : Mode) (d : Device) : State := { mode := m, dev := d }

/-- A device part with register fields set. -/
def regs (l : List (Fld × Nat)) (d : Device := {}) : Device := l.foldl (fun d p => d.wr p.1 p.2) d

/-- The mode that a command's next state has. -/
def modeAfter (c : Instr) (s : State) : Option Mode := match exec c s with | .next t => some t.mode | _ => none

theorem wit_StepExecutesFrontCommand : State.reset.pending = [] ∧ step State.reset = .next State.reset ∧
    step { State.reset with pending := [.pertClose] } = .next State.reset := ⟨rfl, rfl, rfl⟩

/-- The record that a cold start from slot A keeps, after firmware has been written or not. -/
def kept (pendingImage : Bool) : Retained :=
  Retained.seal { slot := 0, sequence := 0, images := [], faceplate := [], planAt := 0, planDigest := [], pendingImage, pendingFace := false, crc := 0 }

theorem wit_DeviceStateMovesAlongEdges :
    modeAfter .hmWatchdogExpiry (st .replay { boot := { retained := some (kept true) } }) = some .coldStart ∧
    modeAfter .hmWatchdogExpiry { st .replay {} with otp := { lifecycle := .returned } } = some .coldStart ∧
    modeAfter .hmWatchdogExpiry (st .replay {}) = some .warmStart := by decide +kernel

def wOtp : Otp := { owner := [List.replicate 64 1, [], [], []] }

theorem wit_OtpOnlyGainsKeysAndRevocations : slotHeld wOtp.owner 0 ∧ exec .pertClose { otp := wOtp } = .next { otp := wOtp } ∧
    otpKept wOtp wOtp ∧ step { otp := wOtp, pending := [.pertClose] } = .next { otp := wOtp } :=
  ⟨⟨List.replicate 64 1, by decide +kernel, by decide +kernel⟩, rfl,
    ⟨fun _ _ => rfl, fun _ _ => rfl, by decide +kernel, by decide +kernel, rfl, rfl, Nat.le_refl _⟩, rfl⟩

theorem wit_OnlyKeyCommandsWriteOtp : exec .pertClose State.reset = .next State.reset ∧ (∀ h r, Instr.pertClose ≠ .securityRequest h r) ∧
    (∀ h k b, Instr.pertClose ≠ .provisionKey h k b) ∧ ∀ h, Instr.pertClose ≠ .provisionLifecycle h :=
  ⟨rfl, nofun, nofun, nofun⟩

theorem wit_MetCriterionTakesEffectByState : ∃ d : Device, d.fo.pendingCause = some 4 ∧ (d.settleAt .turning).1 = .retired ∧
    (d.settleAt .replay).1 = .replay ∧ (d.settleAt .parked).1 = .parked ∧ d.ev.hmRunning = true ∧ d.ev.queue.length + 1 < 4096 :=
  ⟨{ fo := { pendingCause := some 4 }, ev := { hmRunning := true } }, by decide +kernel⟩

theorem wit_RaisedEventsQueueInOrder (e : EventRec) : ({ ev := { hmRunning := true } } : Device).ev.queue.length < 4096 ∧
    4096 ≤ ({ ev := { hmRunning := true, queue := List.replicate 4096 e } } : Device).ev.queue.length ∧
    ({} : Device).ev.hmRunning = false ∧ ({ ev := { hmRunning := true } } : Device).ev.hmRunning = true :=
  ⟨by decide, by simp only [List.length_replicate, Nat.le_refl], rfl, rfl⟩

theorem wit_PositionFollowsPeriodAndPhase : 0 < ({ counting := true } : Spindle).periodUs ∧ 0 < ({ periodUs := 1 } : Spindle).periodUs := by
  decide +kernel

theorem wit_TurnLiesAheadWithinHalfRange : (2 ^ 31 - 1 < 2 ^ 32 ∧ (5 + (2 ^ 31 - 1)) % 2 ^ 32 = 2 ^ 31 + 4 ∧ turnAhead (2 ^ 31 + 4) 5 = true) ∧
    (turnAhead (2 ^ 31 + 5) 5 = false ∧ turnAhead 5 5 = false ∧ turnAhead 0 (2 ^ 32 - 1) = true) ∧
    ((0 : Nat) ≠ 1 ∧ (0 + 2 ^ 31) % 2 ^ 32 ≠ 1 ∧ turnAhead 0 1 = !turnAhead 1 0) := by decide +kernel

theorem wit_DramInterleaveIsOneToOne : dramOffset 15 0xFF < 2 ^ 24 ∧ channelOf (dramOffset 15 0x1FF) = 15 ∧ channelOffset (dramOffset 15 0x1FF) = 0x1FF := by
  decide +kernel

theorem wit_StoredBytesReadBack : ({} : Device).mem.wf = true ∧ (({} : Device).poke 5 [1, 0, 2]).bytes 4 5 = [0, 1, 0, 2, 0] := by decide +kernel

theorem wit_SupplyEventsResetAndStart : (State.reset.mode = .off ∧ State.reset.dev.pins.porst = false ∧ State.reset.dev.pins.brownOut = false) ∧
    (999 < 1000 ∧ 1000 ≤ 1000 ∧ (80 < 81 ∧ 1000 < 1001) ∧ (80 ≤ 80 ∨ 1001 ≤ 1000)) ∧
    (∃ s : State, s.mode = .off ∧ s.dev.pins.brownOut = true ∧ s.dev.pins.porst = true ∧ s.dev.pins.strapTest = false) :=
  ⟨by decide +kernel, by decide, st .off { pins := { brownOut := true, porst := true } }, by decide +kernel⟩

theorem wit_ColdStart_strap : ∃ s : State, s.mode = .coldStart ∧ s.dev.rd Reg.HS_STATUS_start_kind = 0 ∧ s.dev.pins.strapRecovery = true :=
  ⟨st .coldStart { pins := { strapRecovery := true } }, by decide +kernel⟩

def wCold : State := st .coldStart { pins := { porst := true } }

/-- Erased flash: neither slot is valid. -/
theorem wit_ColdStart_noSlot : ∃ d : Device, wCold.mode = .coldStart ∧ wCold.dev.rd Reg.HS_STATUS_start_kind = 0 ∧
    wCold.dev.pins.strapRecovery = false ∧ d.boot = { flash := wCold.dev.boot.flash, slowFlash := false } ∧
    d = { wCold.dev.coldBegin wCold.otp with boot := d.boot } ∧ d.slotVerdict wCold.otp 0 ≠ 0 ∧ d.slotVerdict wCold.otp 1 ≠ 0 :=
  ⟨{ wCold.dev.coldBegin wCold.otp with boot := { flash := [], slowFlash := false } }, by decide +kernel, by decide +kernel,
    by decide +kernel, rfl, rfl, by decide +kernel, by decide +kernel⟩

theorem wit_ColdStart_begun : ∃ s : State, s.mode = .coldStart ∧ s.dev.rd Reg.HS_STATUS_start_kind ≠ 0 :=
  ⟨st .coldStart (regs [(Reg.HS_STATUS_start_kind, 1)]), by decide +kernel⟩

theorem wit_WarmStart_fails : ∃ s t u : State, (s.mode = .warmStart ∧ s.dev.rd Reg.HS_STATUS_start_kind = 0 ∧
      (∀ p ∈ s.dev.memc.chans, p.2.retraining = false) ∧ s.dev.boot.retained = none) ∧
    (t.mode = .warmStart ∧ t.dev.rd Reg.HS_STATUS_start_kind ≠ 0) ∧ ∃ p ∈ u.dev.memc.chans, p.2.retraining = true :=
  ⟨st .warmStart {}, st .warmStart (regs [(Reg.HS_STATUS_start_kind, 2)]), st .warmStart { memc := { chans := [(15, { retraining := true })] } },
    by decide +kernel⟩

/-- A record whose CRC-32 is not the one of what it holds. -/
theorem wit_WarmStart_crc (r : Retained) (h : r = { kept false with crc := (kept false).computed + 1 }) : r.crc ≠ r.computed := by
  subst h; exact Nat.succ_ne_self _

/-- A directory entry of a faceplate: type, offset and length of a section. -/
def fpDirEntry (type off len : Nat) : List Byte := leBytes 4 type ++ leBytes 4 off ++ leBytes 4 len ++ leBytes 4 0

/-- The payload of a small valid faceplate (15 R508 to R512, 16 R533): one device, no image entry, port 0 with flags, one host, and
the plan as its one source entry. -/
def face (flags : Nat) : List Byte :=
  leBytes 4 0x50464B4E ++ leBytes 4 1 ++ leBytes 2 4 ++ leBytes 54 0 ++
    fpDirEntry 1 128 64 ++ fpDirEntry 2 192 0 ++ fpDirEntry 3 192 256 ++ fpDirEntry 4 448 96 ++
    (leBytes 4 0x00000101 ++ leBytes 8 1 ++ leBytes 20 1 ++ leBytes 32 1) ++
    (leBytes 32 0x00010101 ++ (leBytes 1 0 ++ leBytes 1 flags ++ leBytes 2 0 ++ leBytes 1 15 ++ leBytes 1 1 ++ leBytes 186 0) ++
      (leBytes 16 9 ++ leBytes 16 3)) ++
    (leBytes 4 0xFFFFFFFF ++ leBytes 4 1 ++ leBytes 88 0)

/-- Memory trained in RECOVERY, and in a cold start in BLANK. -/
theorem wit_TrainingBringsChannelsUp_buffer :
    (∃ s : State, s.mode = .recovery ∧ s.dev.rdB Reg.MEM_STATUS_trained = false ∧ s.dev.rd Reg.MEM_STATUS_offline = 0) ∧
    (∃ s : State, s.mode = .coldStart ∧ s.dev.life = 0 ∧ s.dev.rd Reg.HS_STATUS_start_kind = 1 ∧
      s.dev.rdB Reg.MEM_STATUS_trained = false ∧ s.dev.rd Reg.MEM_STATUS_offline = 0) :=
  ⟨⟨st .recovery {}, by decide +kernel⟩, st .coldStart (regs [(Reg.HS_STATUS_start_kind, 1)]), by decide +kernel⟩

/-- Memory trained in a cold start whose faceplate's content stands, and in one whose faceplate is empty. -/
theorem wit_TrainingBringsChannelsUp :
    (∃ s : State, s.mode = .coldStart ∧ s.dev.rd Reg.HS_STATUS_start_kind = 1 ∧ s.dev.rdB Reg.MEM_STATUS_trained = false ∧ s.dev.life ≠ 0 ∧
      s.dev.rd Reg.MEM_STATUS_offline = 0 ∧ (s.dev.trainChannels 0 (List.replicate 16 4)).fpContentOk s.dev.boot.faceplate = true ∧
      (∀ x ∈ s.dev.fpSources, srcFrom x ≠ 1)) ∧
    (∃ s : State, s.mode = .coldStart ∧ s.dev.rd Reg.HS_STATUS_start_kind = 1 ∧ s.dev.rdB Reg.MEM_STATUS_trained = false ∧ s.dev.life ≠ 0 ∧
      (s.dev.trainChannels 0 (List.replicate 16 16)).fpContentOk s.dev.boot.faceplate = false) :=
  ⟨⟨st .coldStart (regs [(Reg.HS_STATUS_start_kind, 1), (Reg.HS_STATUS_lifecycle, 2)] { boot := { faceplate := face 0 } }), by decide +kernel⟩,
    st .coldStart (regs [(Reg.HS_STATUS_start_kind, 1), (Reg.HS_STATUS_lifecycle, 2)]), by decide +kernel⟩

/-- Port 1 in training, wired to port 0 of device 1. -/
def trainDev (x : PortSt) : Device :=
  (regs [(Reg.FX_PORT_STATUS_state 1, 1), (Reg.FX_TOPO_group_size, 1), (Reg.FX_TOPO_topology, 1)]).setPort 1 x

theorem wit_TrainingBringsPortsUp : (trainDev {}).rd (Reg.FX_PORT_STATUS_state 1) = 1 ∧
    (0 : Long).toNat = (trainDev {}).rdPair Reg.FX_GROUP_SIG_LO_sig Reg.FX_GROUP_SIG_HI_sig ∧ (trainDev {}).wiring 1 = some (1, 0) ∧
    (1 : Long).toNat ≠ (trainDev {}).rdPair Reg.FX_GROUP_SIG_LO_sig Reg.FX_GROUP_SIG_HI_sig ∧ ((trainDev {}).port 1).restoring = false ∧
    (trainDev { restoring := true }).rd (Reg.FX_PORT_STATUS_state 1) = 1 ∧ ((trainDev { restoring := true }).port 1).restoring = true := by
  decide +kernel

theorem wit_ReadyNeedsEveryStep : State.reset.dev.startStepsDone = false := by decide +kernel

theorem wit_Measurements_sync : ∃ s : State, ∃ d : Device, (s.dev.sp.src 1).capable = true ∧ s.dev.portFlag 0 1 = true ∧
    s.dev.sp.counting = true ∧ (0 : Byte).toNat = s.dev.gptpDomain ∧ d = s.dev.stamp 1000 ∧
    s.mode ≠ .turning ∧ d.sp.active = none ∧ d.candidates = [(0, 1)] ∧ 1 ≤ d.sp.sources.length :=
  ⟨st .ready (regs [(Reg.SP_SRC_CTRL_slots, 0x81)] { sp := { counting := true, sources := [{ capable := true }] }, boot := { faceplate := face 2 } }),
    _, by decide +kernel, by decide +kernel, by decide +kernel, by decide +kernel, rfl, by decide +kernel⟩

theorem wit_Measurements_syncTurning : ∃ s : State, ∃ d : Device, s.mode = .turning ∧ (s.dev.sp.src 1).capable = true ∧
    s.dev.portFlag 0 1 = true ∧ s.dev.sp.counting = true ∧ (0 : Byte).toNat = s.dev.gptpDomain ∧ d = s.dev.stamp 1000 ∧
    ((({ d with sp := d.sp.setSrc 1 { d.sp.src 1 with
      healthy := true, streak := (d.sp.src 1).streak + 1, lastAt := some d.sp.time, lastRef := 7, anomalies := 0 } } :
      Device).reselect).sp.active.map Prod.fst) = some 1 :=
  ⟨st .turning (regs [(Reg.SP_SRC_CTRL_slots, 0x81)] { sp := { counting := true, sources := [{ capable := true }] }, boot := { faceplate := face 2 } }),
    _, by decide +kernel, by decide +kernel, by decide +kernel, by decide +kernel, by decide +kernel, rfl, by decide +kernel⟩

theorem wit_Measurements_unused : (State.reset.dev.sp.src 3).capable = false ∧ State.reset.dev.portFlag 2 1 = false ∧ (255 : Byte).toNat ≠ State.reset.dev.gptpDomain := by decide +kernel

theorem wit_Measurements_ppsArmed : ∃ s : State, ∃ d : Device, s.dev.sp.counting = true ∧ d = s.dev.stamp 1000 ∧ d.sp.ppsArmed = some 5 ∧
    (d.sp.src 4).lastAt = none ∧
    ((({ d with sp := d.sp.setSrc 4 { d.sp.src 4 with
        healthy := true, streak := (d.sp.src 4).streak + 1, lastAt := some d.sp.time, anomalies := 0 } } : Device).reselect).sp.active.map
      Prod.fst) = some 4 :=
  ⟨st .ready (regs [(Reg.SP_SRC_CTRL_slots, 0x84)] { sp := { counting := true, ppsArmed := some 5 } }), _,
    by decide +kernel, rfl, by decide +kernel⟩

/-- An edge 10,001 ns late is one more than 10 us off; one 10,000 ns late is not. -/
theorem wit_Measurements_ppsAnomaly : (∃ s : State, ∃ d : Device, s.dev.sp.counting = true ∧ d = s.dev.stamp 1000010001 ∧
      (d.sp.src 4).lastAt = some 0 ∧ 10000 < (edgeDeviation 0 d.sp.time).natAbs ∧ (d.sp.src 4).anomalies = 0) ∧
    ¬ 10000 < (edgeDeviation 0 1000010000).natAbs :=
  ⟨⟨st .ready { sp := { counting := true, sources := [{}, {}, {}, { lastAt := some 0 }, {}], time := 1000010001 } }, _, by decide +kernel, rfl,
    by decide +kernel⟩, by decide +kernel⟩

theorem wit_LostSources : (∃ s : State, s.dev.sp.counting = true ∧ s.dev.sp.active = some (srcCode .pps, 0) ∧
      srcCode .pps ≤ s.dev.sp.sources.length ∧ (∀ p ∈ s.dev.candidates, p.2 ≠ srcCode .pps → (s.dev.sp.src p.2).healthy = false) ∧
      s.dev.sp.lock = .locked ∧ s.dev.sp.corrections ≠ []) ∧
    (∃ s : State, s.dev.sp.counting = true ∧ s.dev.sp.active = some (srcCode .finyx, 0) ∧
      srcCode .finyx ≤ s.dev.sp.sources.length ∧ (∀ p ∈ s.dev.candidates, p.2 ≠ srcCode .finyx → (s.dev.sp.src p.2).healthy = false) ∧
      s.dev.sp.lock ≠ .locked ∧ s.dev.sp.lockedAt = none) ∧
    (∃ s : State, s.dev.sp.lock = .holdover) :=
  ⟨⟨st .turning { sp := { counting := true, active := some (4, 0), lock := .locked, corrections := [3] } }, by decide +kernel⟩,
    ⟨st .ready { sp := { counting := true, active := some (5, 0) } }, by decide +kernel⟩,
    st .turning { sp := { lock := .holdover } }, by decide +kernel⟩

theorem wit_Steps : (∃ s : State, s.mode ≠ .turning ∧ s.dev.sp.counting = true ∧ s.dev.referenceNow = some 1001) ∧
    (∃ s : State, s.mode ≠ .turning ∧ s.dev.sp.counting = true ∧ s.dev.sp.active.isSome = true ∧ s.dev.referenceNow = none) ∧
    (∃ s : State, s.mode = .turning) ∧ State.reset.dev.sp.counting = false ∧ State.reset.dev.sp.active = none :=
  ⟨⟨st .ready { sp := { counting := true, active := some (1, 0), sources := [{ lastAt := some 0, lastRef := 1001 }] } }, by decide +kernel⟩,
    ⟨st .ready { sp := { counting := true, active := some (4, 0), sources := [{}, {}, {}, {}, {}] } }, by decide +kernel⟩,
    ⟨st .turning {}, rfl⟩, by decide +kernel⟩

/-- The ends of the ranges of SP_PERIOD, SP_PHASE, SP_SLEW and SP_FSYNCf_OFFSET, and what lies just outside them. -/
theorem wit_SpindleSettings : State.reset.mode ≠ .turning ∧
    (1000 ≤ (1000 : Word).toNat % 2 ^ 20 ∧ (1000000 : Word).toNat % 2 ^ 20 ≤ 1000000) ∧
    ((999 : Word).toNat % 2 ^ 20 < 1000 ∧ 1000000 < (1000001 : Word).toNat % 2 ^ 20) ∧
    ((999999999 : Word).toNat % 2 ^ 30 ≤ 999999999 ∧ 999999999 < (1000000000 : Word).toNat % 2 ^ 30) ∧
    (10 ≤ (10 : Word).toNat % 2 ^ 10 ∧ (500 : Word).toNat % 2 ^ 10 ≤ 500 ∧ (9 : Word).toNat % 2 ^ 10 < 10 ∧ 500 < (501 : Word).toNat % 2 ^ 10) ∧
    (8136 : Word).toNat % 2 ^ 18 < State.reset.dev.sp.period / 4096 ∧ State.reset.dev.sp.period / 4096 ≤ (8137 : Word).toNat % 2 ^ 18 := by
  decide +kernel

theorem wit_HoldRelease : (∃ s : State, turnAhead (s.dev.rd Reg.SP_HOLD_TURN_turn) s.dev.turn = true) ∧
    turnAhead (State.reset.dev.rd Reg.SP_HOLD_TURN_turn) State.reset.dev.turn = false :=
  ⟨⟨st .ready (regs [(Reg.SP_HOLD_TURN_turn, 1)]), by decide +kernel⟩, by decide +kernel⟩

theorem wit_Outputs : (∃ s : State, s.dev.fsyncRuns s.mode = true ∧ s.dev.rdB (Reg.SP_FSYNC_CTRL_enable 7) = true ∧
      s.dev.turn % (s.dev.rd (Reg.SP_FSYNC_CTRL_turn_div 7) + 1) = 0 ∧
      (∃ p < 2 ^ s.dev.rd (Reg.SP_FSYNC_CTRL_ppt 7), s.dev.index =
        (s.dev.rd (Reg.SP_FSYNC_CTRL_start_index 7) + p * 4096 / 2 ^ s.dev.rd (Reg.SP_FSYNC_CTRL_ppt 7)) % 4096) ∧
      7 < s.dev.sp.fsyncPulse.length) ∧
    State.reset.dev.fsyncRuns State.reset.mode = false ∧ State.reset.dev.rdB Reg.SP_CTRL_pps_out_en = false :=
  ⟨⟨st .turning (regs [(Reg.SP_FSYNC_CTRL_enable 7, 1)] { sp := { counting := true } }), by decide +kernel⟩, by decide +kernel⟩

/-- The present index reaches to 8137 ns: a pulse that ends, and a second that lies, a nanosecond before that, and at it. -/
theorem wit_Outputs_moments : (∃ s : State, s.dev.sp.fsync.getD 7 false = true ∧ s.dev.sp.fsyncPulse[7]? = some (8136, 1) ∧
      s.dev.sp.reaches 8136 = true) ∧
    (∃ s : State, s.dev.sp.counting = true ∧ s.dev.rdB Reg.SP_CTRL_pps_out_en = true ∧ s.dev.sp.reaches s.dev.sp.nextSecond = true) ∧
    (∃ s : State, s.dev.sp.reaches s.dev.sp.nextSecond = false) ∧
    (∃ s : State, s.dev.sp.ppsOut = true ∧ s.dev.sp.reaches s.dev.sp.ppsPulse.1 = true) ∧ ({} : Spindle).reaches 8137 = false :=
  ⟨⟨st .turning { sp := { fsync := List.replicate 8 true, fsyncPulse := List.replicate 8 (8136, 1) } }, by decide +kernel⟩,
    ⟨st .turning (regs [(Reg.SP_CTRL_pps_out_en, 1)] { sp := { counting := true } }), by decide +kernel⟩,
    ⟨st .turning { sp := { time := 1 } }, by decide +kernel⟩,
    ⟨st .turning { sp := { ppsOut := true, ppsPulse := (8136, 1) } }, by decide +kernel⟩, by decide +kernel⟩

/-- Index 0, whose next is no multiple of 64: in READY, and in a job with the perturbation facility closed. -/
theorem wit_IndexBoundary_between (m : Mode) (h : m = .ready ∨ m = .turning) : ∃ s : State, s.mode = m ∧ s.dev.sp.counting = true ∧
    seqRuns m = (m == .turning) ∧ 5 ≤ s.dev.sp.periodUs ∧ (s.dev.sp.indexAt s.dev.sp.time + 1) % 64 ≠ 0 ∧
    (∀ m < 8, s.dev.rdB (Reg.CSI_SCM_CFG_enable m) = false) ∧ s.dev.fo.pendingCause = none ∧ s.dev.pertIsOpen = false ∧
    s.dev.activeSlots 3 = [] := by
  rcases h with rfl | rfl
  · exact ⟨st .ready { sp := { counting := true } }, by decide +kernel⟩
  · exact ⟨st .turning { sp := { counting := true } }, by decide +kernel⟩

/-- The last index of a stopping job's turn, with a criterion met and without; and the boundary before a multiple of 64. -/
theorem wit_IndexBoundary_parks (c : Option Nat) (h : c = none ∨ c = some 3) : ∃ (s : State) (d : Device), s.dev.sp.counting = true ∧
    5 ≤ s.dev.sp.periodUs ∧ s.mode = .turning ∧ s.dev.seq.stopping = true ∧ s.dev.index = 4095 ∧
    d = { s.dev with sp := { s.dev.sp with time := s.dev.sp.nextBoundary s.dev.sp.time } } ∧
    (d.closeTurn .turning s.dev.turn).fo.pendingCause = c := by
  rcases h with rfl | rfl
  · exact ⟨st .turning { sp := { counting := true, time := 33332999 }, seq := { stopping := true } }, _, by decide +kernel, by decide +kernel,
      rfl, rfl, by decide +kernel, rfl, by decide +kernel⟩
  · exact ⟨st .turning { sp := { counting := true, time := 33332999 }, seq := { stopping := true }, fo := { pendingCause := some 3 } }, _,
      by decide +kernel, by decide +kernel, rfl, rfl, by decide +kernel, rfl, by decide +kernel⟩

theorem wit_IndexBoundary_goesOn : ∃ s : State, s.dev.sp.counting = true ∧ 5 ≤ s.dev.sp.periodUs ∧ s.mode = .turning ∧ s.dev.index = 4094 ∧
    s.dev.seq.stopping = true :=
  ⟨st .turning { sp := { counting := true, time := 33332999 - 8138 }, seq := { stopping := true } }, by decide +kernel⟩

theorem wit_IndexBoundary : State.reset.dev.sp.counting = false ∧ (∃ s : State, s.dev.sp.counting = true) ∧
    5 ≤ ({ periodUs := 5 } : Spindle).periodUs ∧
    (∃ d : Device, d.seq.stopping = true ∧ (d.closeTurn .turning 0).fo.pendingCause = none) ∧
    (∃ d : Device, d.seq.stopping = true ∧ (d.closeTurn .turning 0).fo.pendingCause ≠ none) :=
  ⟨by decide, ⟨st .ready { sp := { counting := true } }, rfl⟩, by decide, ⟨{ seq := { stopping := true } }, by decide +kernel⟩,
    ⟨{ seq := { stopping := true }, fo := { pendingCause := some 3 } }, by decide +kernel⟩⟩

/-- An item with an opcode and a body, waiting for nothing. -/
def item (opcode num : Nat) (body : List Byte := []) : Item :=
  { opcode, flags := 0, num, core := 0, unit := 0, notBefore := 0, deadline := 4095, stream := 0, frame := 0, line := 0, w0c := 0, w0v := 0,
    w1c := 0, w1v := 0, sigCounter := 0, sigDevice := 0, stagger := 0, activity := 0, diag := 0, origin := 0, body }

/-- A running item of turn 0. -/
def running (i : Item) : ItemRt := { item := i, turn := 0, fallback := false, phase := .running }

/-- A MATRIX body: operation 1, 64 rows, 32 columns and depth 4, so two passes (02 R76, R83). -/
def matBody : List Byte := leBytes 2 1 ++ leBytes 2 64 ++ leBytes 2 32 ++ leBytes 2 4 ++ leBytes 24 0

/-- Core 31's array 3 with a MATRIX item under way. -/
def matDev (a : ArrayRt) : Device :=
  ({ seq := { items := [running (item 1 9 matBody)] } } : Device).setArray 31 3 { a with item := some 9 }

theorem wit_FedPass : ∃ (s : State) (p : PassRt) (x : MatDesc) (f : Feed) (bad : Bool) (d : Device),
    (s.dev.array 31 3).feeding = some p ∧ s.dev.arrayDesc (s.dev.array 31 3) = some x ∧ s.dev.readPass s.mode 31 3 x p.num = (f, bad, d) ∧
    x.valid p.num = (32, 32) ∧ (s.dev.array 31 3).passParity = 1 :=
  ⟨st .turning (matDev { feeding := some { num := 0 }, passParity := 1 }), { num := 0 }, matDesc matBody 0, _, _, _, by decide +kernel,
    by decide +kernel, rfl, by decide +kernel, by decide +kernel⟩

theorem wit_FedPass_none : (State.reset.dev.array 31 3).feeding = none := by decide +kernel

/-- The last valid row and column of a pass; the third mismatch of a turn still recomputes. -/
theorem wit_ResidueMismatch : ∃ (s : State) (a : ArrayRt) (p : PassRt) (rest : List PassRt) (x : MatDesc),
    s.dev.array 31 3 = a ∧ a.undecided = p :: rest ∧ a.item = some 9 ∧ s.dev.arrayDesc a = some x ∧ p.badRead = false ∧
    s.dev.residueSlots 31 3 = [] ∧ p.checks = [] ∧ 31 < (x.valid p.num).1 ∧ 31 < (x.valid p.num).2 ∧ p.recompute = false ∧
    a.mismatchCount < 3 ∧ a.abandoned = false ∧ (a.feeding = none → a.redo = []) :=
  ⟨st .turning (matDev { undecided := [{ num := 0 }], mismatchCount := 2 }), { item := some 9, undecided := [{ num := 0 }], mismatchCount := 2 },
    { num := 0 }, [], matDesc matBody 0, by decide +kernel⟩

theorem wit_ResidueMismatch_checks (p : PassRt) (h : p.checks = []) (q : Nat) : (p.checks.getD q ⟨none, []⟩).fails false false = false := by
  simp only [h, List.getD_nil]; rfl

theorem wit_ResidueMismatch_repeated : ∃ (s : State) (a : ArrayRt) (p : PassRt) (rest : List PassRt) (x : MatDesc),
    s.mode = .turning ∧ s.dev.fo.pendingCause = none ∧
    s.dev.array 31 3 = a ∧ a.undecided = p :: rest ∧ a.item = some 9 ∧ s.dev.arrayDesc a = some x ∧ p.badRead = false ∧
    s.dev.residueSlots 31 3 = [] ∧ p.checks = [] ∧ 31 < (x.valid p.num).1 ∧ 31 < (x.valid p.num).2 ∧ p.recompute = true ∧
    a.abandoned = false ∧ a.settled + 1 < x.passes :=
  ⟨st .turning (matDev { undecided := [{ num := 0, recompute := true }] }), { item := some 9, undecided := [{ num := 0, recompute := true }] },
    { num := 0, recompute := true }, [], matDesc matBody 0, by decide +kernel⟩

/-- The same on the descriptor's last pass, as the fourth mismatch of the turn. -/
theorem wit_ResidueMismatch_last : ∃ (s : State) (a : ArrayRt) (p : PassRt) (rest : List PassRt) (x : MatDesc),
    s.dev.fo.pendingCause = none ∧ s.dev.array 31 3 = a ∧ a.undecided = p :: rest ∧ a.item = some 9 ∧ s.dev.arrayDesc a = some x ∧
    p.badRead = false ∧ s.dev.residueSlots 31 3 = [] ∧ p.checks = [] ∧ 31 < (x.valid p.num).1 ∧ 31 < (x.valid p.num).2 ∧
    (p.recompute = false ∧ 3 ≤ a.mismatchCount) ∧ p.num + 1 = x.passes ∧ a.settled + 1 = x.passes :=
  ⟨st .turning (matDev { undecided := [{ num := 1 }], mismatchCount := 3, settled := 1 }),
    { item := some 9, undecided := [{ num := 1 }], mismatchCount := 3, settled := 1 }, { num := 1 }, [], matDesc matBody 0, by decide +kernel⟩

theorem wit_CheckedPass : ∃ (s : State) (a : ArrayRt) (p : PassRt) (rest : List PassRt) (x : MatDesc),
    s.dev.array 31 3 = a ∧ a.undecided = p :: rest ∧ a.item = some 9 ∧ s.dev.arrayDesc a = some x ∧ p.badRead = false ∧
    p.recompute = false ∧ a.abandoned = false ∧ s.dev.residueSlots 31 3 = [] ∧ p.checks = [] ∧ (∀ z ∈ p.accs, z.overflowed = false) :=
  ⟨st .turning (matDev { undecided := [{ num := 0, accs := [.int (2 ^ 31 - 1)] }] }),
    { item := some 9, undecided := [{ num := 0, accs := [.int (2 ^ 31 - 1)] }] }, { num := 0, accs := [.int (2 ^ 31 - 1)] }, [],
    matDesc matBody 0, by decide +kernel⟩

/-- An overflowed pass of shift 4 with seven of the eight replays spent. -/
theorem wit_CheckedPass_replays : ∃ (s : State) (a : ArrayRt) (p : PassRt) (rest : List PassRt) (x : MatDesc),
    s.dev.array 31 3 = a ∧ a.undecided = p :: rest ∧ a.item = some 9 ∧ s.dev.arrayDesc a = some x ∧ p.badRead = false ∧
    p.recompute = false ∧ a.abandoned = false ∧ s.dev.residueSlots 31 3 = [] ∧ p.checks = [] ∧ (∃ z ∈ p.accs, z.overflowed = true) ∧
    p.shift < 6 ∧ (s.dev.core 31).replays + s.dev.grantedReplays 31 < 8 :=
  ⟨st .turning ((matDev { undecided := [{ num := 0, shift := 4, accs := [.fp 0 (some false)] }] }).setCore 31 { replays := 7 }),
    { item := some 9, undecided := [{ num := 0, shift := 4, accs := [.fp 0 (some false)] }] },
    { num := 0, shift := 4, accs := [.fp 0 (some false)] }, [], matDesc matBody 0, by decide +kernel⟩

theorem wit_FinishedWork : (∃ (s : State) (r : ItemRt), (s.dev.array 31 3).draining = [(9, 0)] ∧ s.dev.findItem 9 0 = some r ∧
      r.item.signal = false) ∧
    (∃ (s : State) (r : ItemRt), (s.dev.core 31).vec = some (9, 0) ∧ s.dev.findItem 9 0 = some r ∧ r.phase ≠ .abandoned ∧ r.item.signal = false) ∧
    (State.reset.dev.array 0 0).draining = [] ∧ (State.reset.dev.core 0).vec = none :=
  ⟨⟨st .turning (matDev { draining := [(9, 0)] }), running (item 1 9 matBody), by decide +kernel⟩,
    ⟨st .turning (({ seq := { items := [running (item 2 9)] } } : Device).setCore 31 { vec := some (9, 0) }), running (item 2 9), by decide +kernel⟩,
    by decide +kernel⟩

theorem wit_FunnelCovers : lineAccesses 61 70 = [(61, 3), (64, 64), (128, 3)] ∧ lineAccesses 8 8 = [(8, 8)] ∧ lineAccesses 7 0 = [] := by
  decide +kernel

/-- A descriptor of operation 1 (COPY) that reads one line of 128 bytes from an address. -/
def copyDesc (src : Nat) : DescRt :=
  { item := 9, turn := 0, record := 0
    bytes := leBytes 1 0 ++ leBytes 1 1 ++ leBytes 2 0 ++ leBytes 6 src ++ leBytes 6 0x1000001000 ++ leBytes 4 128 ++ leBytes 2 1 ++ leBytes 42 1 }

/-- 64 GiB of DRAM. -/
def dram : Device := regs [(Reg.MEM_CFG_capacity, 1)]

/-- Channel 79 in a state, with a running DMA item of an opcode. -/
def dmaDev (opcode : Nat) (c : DmaCh) (d : Device := {}) : Device :=
  ({ d with seq := { items := [running (item opcode 9)] } } : Device).setChan 79 c

theorem wit_Loads : (∃ (s : State) (i : Item), (s.dev.chan 79).loading = some (9, 0, 0) ∧ s.dev.itemRecord 9 0 = some i ∧ i.implicit = false ∧
      CleanRead s.dev ((s.dev.area 4).1 + 64 * (i.first + 0)) 64 ∧ (s.dev.chan 79).active = none ∧ s.dev.mayRun 9 0 = true) ∧
    (State.reset.dev.chan 79).loading = none := by
  refine ⟨⟨st .turning (dmaDev 3 { loading := some (9, 0, 0) }), item 3 9, ?_⟩, by decide +kernel⟩
  unfold CleanRead; decide +kernel

/-- The first of the two reads of the line, from DRAM. -/
theorem wit_Reads : ∃ (s : State) (c : DmaCh) (x : DescRt) (i : Item) (r : ItemRt) (a n : Nat), s.dev.chan 79 = c ∧
    c.active = some x ∧ c.cause = none ∧ c.readsDone = false ∧ s.dev.held 79 = false ∧ s.dev.itemRecord x.item x.turn = some i ∧
    i.implicit = false ∧ s.dev.findItem x.item x.turn = some r ∧ r.ownNoFrame = false ∧
    (s.dev.unitReads x c.line c.buffer)[c.pos]? = some (a, n) ∧ s.dev.targetDown a = false ∧ s.dev.retrainingAt a = false ∧
    s.dev.reachable a = true ∧ (s.dev.rights .dmaItem a).1 = true ∧ n ≤ rightsStep - a % rightsStep ∧ CleanRead s.dev a n ∧
    c.pos + 1 < (s.dev.unitReads x c.line (c.buffer ++ s.dev.bytes a n)).length := by
  refine ⟨st .turning (dmaDev 3 { active := some (copyDesc 0x1000000000) } dram), { active := some (copyDesc 0x1000000000) },
    copyDesc 0x1000000000, item 3 9, running (item 3 9), 0x1000000000, 64, ?_⟩
  unfold CleanRead; decide +kernel

/-- The same read while its channel, 0, retrains. -/
theorem wit_Reads_retraining : ∃ (s : State) (c : DmaCh) (x : DescRt) (i : Item) (r : ItemRt) (a n : Nat), s.dev.chan 79 = c ∧
    c.active = some x ∧ c.cause = none ∧ c.readsDone = false ∧ s.dev.held 79 = false ∧ s.dev.itemRecord x.item x.turn = some i ∧
    i.implicit = false ∧ s.dev.findItem x.item x.turn = some r ∧ r.ownNoFrame = false ∧
    (s.dev.unitReads x c.line c.buffer)[c.pos]? = some (a, n) ∧ s.dev.retrainingAt a = true :=
  ⟨st .turning (dmaDev 3 { active := some (copyDesc 0x1000000000) } (dram.setMemCh 0 { retraining := true })),
    { active := some (copyDesc 0x1000000000) }, copyDesc 0x1000000000, item 3 9, running (item 3 9), 0x1000000000, 64, by decide +kernel⟩

theorem wit_Reads_down : ∃ (s : State) (c : DmaCh) (x : DescRt) (i : Item) (r : ItemRt) (a n : Nat), s.dev.chan 79 = c ∧
    c.active = some x ∧ c.cause = none ∧ c.readsDone = false ∧ s.dev.held 79 = false ∧ s.dev.itemRecord x.item x.turn = some i ∧
    i.implicit = false ∧ s.dev.findItem x.item x.turn = some r ∧ r.ownNoFrame = false ∧
    (s.dev.unitReads x c.line c.buffer)[c.pos]? = some (a, n) ∧ s.dev.targetDown a = true ∧ s.dev.offlineAt a = false :=
  ⟨st .turning (dmaDev 3 { active := some (copyDesc (coreMemBase 0)) } (regs [(Reg.NE_STATUS_quad_in_reset, 1)])),
    { active := some (copyDesc (coreMemBase 0)) }, copyDesc (coreMemBase 0), item 3 9, running (item 3 9), coreMemBase 0, 64, by decide +kernel⟩

theorem wit_ChannelKeepsFirstCause :
    (∃ (s : State) (c : DmaCh), s.dev.chan 79 = c ∧ c.active.isSome = true ∧ c.unacked = [dramBase] ∧ s.dev.held 79 = false ∧
      s.dev.retrainingAt dramBase = false ∧ c.readsDone = false) ∧
    (∃ (s : State) (c : DmaCh) (x : DescRt), s.dev.chan 79 = c ∧ c.active = some x ∧ c.unacked = [dramBase] ∧ s.dev.held 79 = false ∧
      s.dev.retrainingAt dramBase = false ∧ c.readsDone = true ∧ c.cause = none ∧ x.record ≠ 0xFFFF ∧ s.dev.inFlight 79 x = some dramBase) ∧
    (∃ (s : State) (x : DescRt), (s.dev.chan 79).active = some x ∧ s.dev.inFlight 79 x = none) ∧
    (∃ (s : State) (c : DmaCh) (x : DescRt), s.dev.chan 79 = c ∧ c.active = some x ∧ c.refused = true) ∧
    (∃ (s : State) (c : DmaCh) (x : DescRt) (i : Item), s.dev.chan 79 = c ∧ c.active = some x ∧ s.dev.itemRecord x.item x.turn = some i ∧
      i.opcode = 5) ∧
    (∃ (s : State) (c : DmaCh) (x : DescRt), s.dev.chan 79 = c ∧ c.active = some x ∧ c.cause = some (15, 7) ∧
      s.dev.writesStrips x = false ∧ c.badBlocks = 0 ∧ 15 < 16 ∧ s.dev.rdB (Reg.DMA_CH_BAD_ADDR_HI_valid 79) = false) ∧
    (∃ (s : State) (c : DmaCh) (x : DescRt), s.dev.chan 79 = c ∧ c.active = some x ∧ c.cause = some (1, 7) ∧
      s.dev.writesStrips x = false ∧ c.badBlocks = 0 ∧ s.dev.rdB (Reg.DMA_CH_BAD_ADDR_HI_valid 79) = true) :=
  ⟨⟨st .turning (dmaDev 3 { active := some (copyDesc 0), unacked := [dramBase] }), { active := some (copyDesc 0), unacked := [dramBase] },
      by decide +kernel⟩,
    ⟨st .turning (dmaDev 3 { active := some (copyDesc 0), unacked := [dramBase], readsDone := true }),
      { active := some (copyDesc 0), unacked := [dramBase], readsDone := true }, copyDesc 0, by decide +kernel⟩,
    ⟨st .turning (dmaDev 3 { active := some (copyDesc 0), readsDone := true }), copyDesc 0, by decide +kernel⟩,
    ⟨st .turning (dmaDev 4 { active := some (copyDesc 0), refused := true }), { active := some (copyDesc 0), refused := true }, copyDesc 0, by decide +kernel⟩,
    ⟨st .turning (dmaDev 5 { active := some (copyDesc 0) }), { active := some (copyDesc 0) }, copyDesc 0, item 5 9, by decide +kernel⟩,
    ⟨st .turning (dmaDev 3 { active := some (copyDesc 0), cause := some (15, 7) }), { active := some (copyDesc 0), cause := some (15, 7) },
      copyDesc 0, by decide +kernel⟩,
    ⟨st .turning (dmaDev 3 { active := some (copyDesc 0), cause := some (1, 7) } (regs [(Reg.DMA_CH_BAD_ADDR_HI_valid 79, 1)])),
      { active := some (copyDesc 0), cause := some (1, 7) }, copyDesc 0, by decide +kernel⟩⟩

theorem wit_LowWordReads : mayExtend (.component 0) = true ∧ mayExtend .engine = false ∧ (1023 : Word).toNat % 1024 = 1023 := by decide +kernel

theorem wit_RegisterAccess : State.reset.mode ≠ .turning ∧ State.reset.mode ≠ .replay ∧ (st .turning {}).mode = .turning ∧
    (st .replay {}).mode = .replay ∧ (st .ready {}).mode ≠ .off ∧ afind State.reset.dev.latch 0x1000004C = none ∧ State.reset.mode = .off ∧
    ((st .coldStart {}).mode ≠ .off ∧ (st .coldStart {}).mode.neRuns = false ∧
      mget 0 (st .coldStart {}).dev.seq.cycleMarks 0x10100048 = (st .coldStart {}).dev.seq.runs) := by
  decide +kernel

/-- An open facility that allows the kinds 1 and 7. -/
def pertDev (l : List (Fld × Nat) := []) : Device := regs (l ++ [(Reg.PERT_STATUS_open, 1), (Reg.PERT_STATUS_kinds, 0x82)])

theorem wit_Pert : pertDev.pertIsOpen = true ∧ State.reset.dev.pertIsOpen = false ∧
    (bitAt (0x80000001 : Word).toNat 31 = true ∧ pertDev.kindAllowed (bitsOf (0x80000001 : Word).toNat 3 0) = true ∧
      bitAt (0x80000001 : Word).toNat 30 = false) ∧ pertDev.kindAllowed (bitsOf (0x80000007 : Word).toNat 3 0) = true ∧
    (bitAt (0x00000007 : Word).toNat 31 = false ∧ pertDev.kindAllowed (bitsOf (0x00000007 : Word).toNat 3 0) = true) ∧
    pertDev.kindAllowed (bitsOf (0x80000002 : Word).toNat 3 0) = false ∧ (State.reset.dev.sp.counting = false ∧
      ({ counting := true } : Spindle).counting = true) ∧
    (pertDev [(Reg.PERT_SLOT_STATUS_state 15, 2), (Reg.PERT_SLOT_CFG_kind 15, 6)]).rd (Reg.PERT_SLOT_STATUS_state 15) = 2 ∧
    (pertDev [(Reg.PERT_SLOT_STATUS_state 15, 2), (Reg.PERT_SLOT_CFG_kind 15, 6)]).rd (Reg.PERT_SLOT_CFG_kind 15) ≠ 7 := by decide +kernel

/-- Registers with fields of each access class: 0x10000000 (RW, RO, WO), 0x100000F0 (W1C), 0x10000100 (RWS), 0x1000004C (RC); one whose
write has an effect of its own, and an offset without a register. -/
theorem wit_WordWrite : ([0x10000000, 0x100000F0, 0x10000100, 0x1000004C, 0x16200100].all fun a => isRegs a && a % 4 == 0 && (regAt a).isSome &&
      !ownWrite (st .turning {}) a 0x7FFFFFFE) = true ∧ ownWrite (st .ready {}) 0x10000008 1 = true ∧ ownWrite (st .replay {}) 0x16200100 1 = true ∧
    (regAt 0x1000FFFC = none ∧ ownWrite (st .ready {}) 0x1000FFFC 1 = false) ∧ (st .ready {}).dev.pertIsOpen = false ∧
    0x1B000300 / 0x100000 = 0x1B0 ∧ (st .ready (regs [(Reg.PERT_STATUS_open, 1)])).dev.pertIsOpen = true ∧
    ((regAt 0x10000000).map fun r => r.fields.map FldDef.access) = some [.rw, .rw, .ro, .wo] ∧
    ((regAt 0x100000F0).map fun r => r.fields.map FldDef.access) = some [.ro, .rw, .w1c, .ro, .rw] ∧
    ((regAt 0x10000100).map fun r => r.fields.map FldDef.access) = some [.rws, .rws, .rws, .rws, .rws, .rws] ∧
    ((regAt 0x1000004C).map fun r => r.fields.map FldDef.access) = some [.rc, .rc] ∧
    ((regAt 0x10000000).map fun r => r.fields.map FldDef.effect) = some [.now, .now, .cold, .now] := by decide +kernel

/-- The last 64 bytes of DRAM, and what lies just above it. -/
theorem wit_PhysicalAccess : (st .ready dram).mode ≠ .off ∧ (∀ id, Agent.application ≠ .component id ∧ Agent.application ≠ .componentDma id) ∧
    (∀ id, Agent.headstock ≠ .component id ∧ Agent.headstock ≠ .componentDma id) ∧
    Agent.headstock ≠ .dmaItem ∧
    (codeKind (dram.place (dramBase + 2 ^ 36 - 64)) < 4 ∧ widthOk false (dramBase + 2 ^ 36 - 64) 64 = true ∧
      (dram.rights .headstock (dramBase + 2 ^ 36 - 64)) = (true, true) ∧ dram.targetDown (dramBase + 2 ^ 36 - 64) = false ∧
      dram.retrainingAt (dramBase + 2 ^ 36 - 64) = false ∧
      dram.badCodewords (dramBase + 2 ^ 36 - 64) 64 = [] ∧ dram.activeSlots 5 = [] ∧ (List.replicate 64 (1 : Byte)).length = 64) ∧
    dram.place (dramBase + 2 ^ 36) = .unmapped ∧ widthOk (dram.place 0x10000000 == .regs) 0x10000000 8 = false ∧
    (dram.place dramBase ≠ .unmapped ∧ widthOk (dram.place dramBase == .regs) dramBase 1 = true ∧
      (dram.rights .application dramBase).2 = false ∧ dram.rdB Reg.MEM_PROT_ADDR_HI_valid = false) ∧
    ((7 : Fin 8).val ≠ 0 ∧ (7 : Fin 8).val ≠ 4 ∧ dram.rights (.component 7) shmBase = (false, false) ∧
      dram.rights (.componentDma 7) shmBase = (false, false)) := by
  refine ⟨by decide, fun _ => ⟨nofun, nofun⟩, fun _ => ⟨nofun, nofun⟩, by decide, ?_⟩; decide +kernel

/-- An access that waits for channel 0, which retrains. -/
theorem wit_PhysicalAccess_waits : ∃ s : State, s.mode ≠ .off ∧ Agent.headstock ≠ .component 0 ∧ widthOk false dramBase 2 = true ∧
    s.dev.rights .headstock dramBase = (true, true) ∧ s.dev.retrainingAt dramBase = true ∧ [(1 : Byte), 2].length = 2 :=
  ⟨st .turning (dram.setMemCh 0 { retraining := true }), by decide +kernel⟩

/-- A store of two bytes that waits for channel 0 alone, and a channel for which nothing waits. -/
theorem wit_Channels_waiting : (∃ (s : State) (w : WaitingAccess), (s.dev.memCh 0).retraining = true ∧ s.dev.memc.waiting = [w] ∧
      channelOf (w.address - dramBase) = 0 ∧ w.store = some [1, 2] ∧ w.errors = 0 ∧ w.waiter = .answer ∧ s.mode ≠ .warmStart ∧
      (s.dev.setMemCh 0 { s.dev.memCh 0 with retraining := false }).badCodewords w.address 2 = [] ∧
      ∀ x ∈ s.dev.memc.waiting, channelOf (x.address - dramBase) ≠ 15) := by
  refine ⟨st .turning { dram.setMemCh 0 { retraining := true } with
    memc := { (dram.setMemCh 0 { retraining := true }).memc with
      waiting := [{ agent := .headstock, address := dramBase, bytes := 2, store := some [1, 2], errors := 0 }] } },
    { agent := .headstock, address := dramBase, bytes := 2, store := some [1, 2], errors := 0 }, ?_⟩
  decide +kernel

/-- Channel 15 online, with its scrub position at its last word, and the same of slice 15. -/
def scrubDev : Device :=
  { (regs [(Reg.MEM_CFG_capacity, 1), (Reg.MEM_SCRUB_CFG_enable, 1), (Reg.MEM_CH_STATUS_online 15, 1), (Reg.NE_SHM_CFG_scrub_en, 1),
      (Reg.MEM_CE_LIMIT_per_second, 0)]).setMemCh 15 { scrub := 2 ^ 32 - 64 } with boot := { applicationUp := true } }

theorem wit_Channels : scrubDev.rdB Reg.MEM_SCRUB_CFG_enable = true ∧ scrubDev.rdB (Reg.MEM_CH_STATUS_online 15) = true ∧
    scrubDev.rdB (Reg.MEM_CH_STATUS_self_refresh 15) = false ∧ scrubDev.channelSize ≠ 0 ∧ (scrubDev.memCh 15).scrub = 2 ^ 32 - 64 ∧
    (2 ^ 32 - 64) % 64 = 0 ∧ 2 ^ 32 - 64 < scrubDev.channelSize ∧ scrubDev.channelSize ≤ 2 ^ 32 - 64 + 64 ∧
    scrubDev.rd Reg.MEM_STATUS_offline = 0 ∧ scrubDev.activeSlots 5 = [] ∧
    scrubDev.errsAt (dramBase + dramOffset 15 (2 ^ 32 - 64)) = 0 ∧ scrubDev.errsAt (dramBase + dramOffset 15 (2 ^ 32 - 64) + 32) = 0 ∧
    scrubDev.rd Reg.MEM_CE_LIMIT_per_second = 0 ∧ (scrubDev.memCh 15).retraining = false := by decide +kernel

/-- A channel that retrains with nothing waiting for it, in a warm start and elsewhere. -/
theorem wit_Channels_done (m : Mode) (h : m = .warmStart ∨ m = .turning) : ∃ (s : State), s.mode = m ∧
    (s.dev.memCh 15).retraining = true ∧ s.dev.rdB (Reg.MEM_CH_STATUS_online 15) = true ∧
    ∀ w ∈ s.dev.memc.waiting, channelOf (w.address - dramBase) ≠ 15 := by
  refine ⟨st m (scrubDev.setMemCh 15 { retraining := true }), ?_⟩
  obtain rfl | rfl := h <;> decide +kernel

theorem wit_Channels_shared (y : Nat) (h : y = sliceSize - 64) : scrubDev.rdB Reg.NE_SHM_CFG_scrub_en = true ∧
    scrubDev.boot.applicationUp = true ∧ scrubDev.memc.shmScrub[15]? = some 0 ∧ y % 64 = 0 ∧ y < sliceSize ∧ scrubDev.activeSlots 5 = [] ∧
    ∀ j < 8, scrubDev.errsAt (shmBase + scrubDev.shmOffset 15 0 + 8 * j) = 0 := by subst h; decide +kernel

/-- Configuration of a bypass stream on receiver 7, virtual channel 31: RAW8 of 8 × 4 pixels, embedded lines stored, epoch in line 0,
lost after one turn; its slots and records in DRAM. -/
def camCfg : List Word := [0xFFEA0010, 0x00080004, 0, 0, 0x40000400, 0x00002000, 0x10, 0x00040000, 0x00001000, 0x10]

/-- Stream 31 in a state, with receiver 7 up and the stream's registers set as its configuration has them. -/
def camDev (x : StreamSt) (l : List (Fld × Nat) := []) : Device :=
  ((regs ([(Reg.MEM_CFG_capacity, 1), (Reg.CSI_RX_CFG_enable 7, 1), (Reg.CSI_RX_STATUS_state 7, 2), (Reg.CSI_STREAM_CFG_enable 31, 1), (Reg.CSI_STREAM_CFG_receiver 31, 7),
    (Reg.CSI_STREAM_CFG_vc 31, 31), (Reg.CSI_STREAM_CFG_data_type 31, 0x2A), (Reg.CSI_STREAM_CFG_lost_turns 31, 1),
    (Reg.CSI_STREAM_REC_HI_rec_hi 31, 0x10)] ++ l)).setStream 31 x)

/-- An open frame of turn 0. -/
def frame : Frame := { turn := 0, ordinal := 3, number := 5, capture := 0, startAt := 0, cfg := camCfg }

/-- The fourth and the fifth frame of a window begin. -/
theorem wit_FramesStart (n : Nat) (h : n = 3 ∨ n = 4) : ∃ (s : State) (d : Device) (u : StreamSt), d = s.dev.stamp 0 ∧
    u = d.committed 31 ∧ s.dev.rxUp 7 = true ∧ (∀ j ∈ d.onChannel 7 31, j = 31) ∧
    (∀ j < 32, (d.committed j).enabled = true → (d.committed j).receiver = 7 → (d.committed j).vc = 31 → j = 31) ∧
    u.enabled = true ∧ u.receiver = 7 ∧ u.vc = 31 ∧ u.reject = 0 ∧ d.shut s.mode 31 = false ∧ u.openNow = none ∧ d.committing 31 = [] ∧
    d.contexts = [] ∧ d.rd (Reg.SP_GEAR_CFG_window_open 31) % 4096 ≤ d.index ∧ (u.frames.filter fun g => g.turn == d.turn).length = n ∧
    CleanStore d .engine (u.recBase + n % 4 * 64) 16 := by
  unfold CleanStore
  rcases h with rfl | rfl
  · exact ⟨st .turning (camDev { cfg := camCfg, frames := List.replicate 3 { frame with endAt := some 1 } }), _, _, rfl, rfl, by decide +kernel⟩
  · exact ⟨st .turning (camDev { cfg := camCfg, frames := List.replicate 4 { frame with endAt := some 1 } }), _, _, rfl, rfl, by decide +kernel⟩

theorem wit_FramesEnd : ∃ (s : State) (d : Device), d = s.dev.stamp 0 ∧ s.dev.rxUp 7 = true ∧ d.onChannel 7 31 = [31] ∧
    d.shut s.mode 31 = false ∧ (d.stream 31).openNow = some frame ∧ d.frameOf 31 frame.id = some frame :=
  ⟨st .turning (camDev { cfg := camCfg, frames := [frame] }), _, rfl, by decide +kernel⟩

/-- A frame times out at one turn period and not a nanosecond before. -/
theorem wit_FramesTimeOut : (∃ (s : State) (d : Device), d = s.dev.stamp 0 ∧ (d.stream 31).openNow = some frame ∧
      d.frameOf 31 frame.id = some frame ∧ frame.startAt + d.sp.period = d.sp.time ∧ frame.logged = none) ∧
    (∃ (s : State) (d : Device), d = s.dev.stamp 0 ∧ (d.stream 31).openNow = some frame ∧ d.sp.time + 1 = frame.startAt + d.sp.period) :=
  ⟨⟨st .turning { camDev { cfg := camCfg, frames := [frame] } with sp := { time := 33333000 } }, _, rfl, by decide +kernel⟩,
    ⟨st .turning { camDev { cfg := camCfg, frames := [frame] } with sp := { time := 33332999 } }, _, rfl, by decide +kernel⟩⟩

theorem wit_Packets : ∃ (s : State) (d : Device), d = s.dev.stamp 0 ∧ s.dev.rxUp 7 = true ∧ d.onChannel 7 31 = [31] ∧ d.shut s.mode 31 = false ∧
    (0x2A : BitVec 6) ≠ 0x12 ∧ (d.inUse 31).dataType = (0x2A : BitVec 6).toNat ∧ (d.inUse 31).embEn = true ∧
    (d.stream 31).openNow = some frame ∧ d.frameOf 31 frame.id = some frame ∧ d.rxBuffered 7 + [(1 : Byte), 2].length ≤ 131072 ∧
    CleanStore d .engine (((d.stream 31).during frame).recBase + 256 + (frame.ordinal * 4 + frame.embLines) * 256)
      ((unpackEmb ((d.stream 31).during frame).unpack [1, 2]).take 256).length := by
  refine ⟨st .turning (camDev { cfg := camCfg, frames := [frame] }), _, rfl, ?_⟩
  unfold CleanStore; decide +kernel

/-- No frame open; a packet of one byte less than the buffer holds fits, one that the command says does not fit does not. -/
theorem wit_Packets_unopened : ∃ (s : State) (d : Device), d = s.dev.stamp 0 ∧ s.dev.rxUp 7 = true ∧ d.onChannel 7 31 = [31] ∧
    d.shut s.mode 31 = false ∧ (0x2A : BitVec 6) ≠ 0x12 ∧ (d.inUse 31).dataType = (0x2A : BitVec 6).toNat ∧ (d.stream 31).openNow = none ∧
    d.rxBuffered 7 + 131072 ≤ 131072 ∧ 131072 < d.rxBuffered 7 + 131073 :=
  ⟨st .turning (camDev { cfg := camCfg }), _, rfl, by decide +kernel⟩

/-- Embedded line 3 is the last that may be stored, line 4 the first that may not. -/
theorem wit_Packets_embedded : ((camDev { cfg := camCfg }).stream 31).embStore = 4 ∧ (3 < 4 ∧ ¬ 4 < 4) := by decide +kernel

theorem wit_Packets_ignored : ∃ s : State, s.dev.rxUp 7 = true ∧ s.dev.onChannel 7 0 = [] ∧ State.reset.dev.rxUp 7 = false :=
  ⟨st .turning (camDev { cfg := camCfg }), by decide +kernel⟩

theorem wit_Lanes : ∃ s : State, s.mode.neRuns = true ∧ s.dev.rdB (Reg.CSI_RX_CFG_enable 7) = true ∧ s.dev.rxUp 7 = true :=
  ⟨st .turning (camDev { cfg := camCfg }), by decide +kernel⟩

theorem wit_Lanes_notRunning : State.reset.mode.neRuns = false ∧ State.reset.dev.rdB (Reg.CSI_RX_CFG_enable 7) = false := by decide +kernel

/-- One turn after the last Frame Start and after the enabling, and not a nanosecond later. -/
theorem wit_Silence : (∃ (s : State) (u : StreamSt), s.mode.neRuns = true ∧ u = s.dev.committed 31 ∧ u.frames = [frame] ∧ u.enabled = true ∧ u.lostTurns ≠ 0 ∧
      u.lost = false ∧ frame.startAt + u.lostTurns * s.dev.sp.period = s.dev.sp.time ∧
      u.since + u.lostTurns * s.dev.sp.period = s.dev.sp.time ∧ s.dev.shut s.mode 31 = false) ∧
    (State.reset.dev.committed 31).lostTurns = 0 ∧ ((camDev { lost := true }).stream 31).lost = true :=
  ⟨⟨st .turning { camDev { cfg := camCfg, frames := [frame] } with sp := { time := 33333000 } }, _, rfl, rfl, by decide +kernel⟩, by decide +kernel⟩

def line : LinePkt := { rx := 7, frame := 0, data := List.replicate 8 7, crcOk := true }

/-- The last line of the height is taken, the next one is discarded. -/
theorem wit_AcceptedLines (n : Nat) (h : n = 3 ∨ n = 4) : ∃ (s : State) (d : Device) (f : Frame) (x : StreamSt),
    d = s.dev.stamp 0 ∧ f = { frame with linesReceived := n } ∧ x = (d.stream 31).during f ∧ (d.stream 31).lines = [line] ∧
    line.frame = f.id ∧ d.frameOf 31 f.id = some f ∧ x.route = 0 ∧ x.crcAction = false ∧ d.vid.queue = [] ∧
    (n = 3 → f.linesReceived < x.height ∧ CleanStore d .engine (x.bypassRow f.ordinal f.linesReceived)
      (packLine x.bits (unpackLine x.bits x.width x.black line.data)).length) ∧
    (n = 4 → x.height ≤ f.linesReceived) := by
  unfold CleanStore
  rcases h with rfl | rfl
  · exact ⟨st .turning (camDev { cfg := camCfg, frames := [{ frame with linesReceived := 3 }], lines := [line] }), _, _, _, rfl, rfl, rfl,
      by decide +kernel⟩
  · exact ⟨st .turning (camDev { cfg := camCfg, frames := [{ frame with linesReceived := 4 }], lines := [line] }), _, _, _, rfl, rfl, rfl,
      by decide +kernel⟩

theorem wit_Completion : ∃ (s : State) (d : Device) (f g : Frame) (base : Nat), d = s.dev.stamp 0 ∧
    f = { frame with endAt := some 1, filled := true } ∧ g = f.finished.count ((d.stream 31).during f) ∧
    base = ((d.stream 31).during f).recBase + f.ordinal * 64 ∧ (d.stream 31).pathFrame = some f ∧ d.frameOf 31 f.id = some f ∧
    d.mayComplete 31 f = true ∧ d.runsOf 31 f.id = [] ∧ f.crcErrors = 0 ∧ f.framing = 0 ∧ g.marks &&& 32 = 0 ∧
    CleanStore d .engine (base + 16) 48 ∧ CleanStore d .engine (base + 4) 4 ∧ (∀ e < 16, d.encOn e = false) ∧ d.vid.queue = [] ∧
    frame.logged = none := by
  refine ⟨st .turning (camDev { cfg := camCfg, frames := [{ frame with endAt := some 1, filled := true }] }), _, _, _, _, rfl, rfl, rfl, rfl, ?_⟩
  unfold CleanStore; decide +kernel

/-- Master 7 runs its last entry, entry 31, which reads nothing. -/
theorem wit_SensorControl : (∃ (s : State) (d : Device), d = s.dev.stamp 0 ∧ (d.scm 7).running = some (31, List.replicate 16 0, dramBase) ∧
      CleanStore d .engine (dramBase + 512 + 16 * 31) 16 ∧ 0 = min (fieldOf (List.replicate 16 (0 : Byte)) 6 1) 6 ∧
      bitAt (fieldOf (List.replicate 16 (0 : Byte)) 2 1) 2 = false) ∧
    (∃ s : State, s.mode.neRuns = true ∧ s.dev.rdB (Reg.CSI_SCM_CFG_enable 7) = true ∧ s.dev.rdB (Reg.CSI_SCM_CFG_i3c_bus 7) = true) := by
  unfold CleanStore
  exact ⟨⟨st .turning (dram.setScm 7 { running := some (31, List.replicate 16 0, dramBase) }), _, rfl, by decide +kernel⟩,
    ⟨st .turning (regs [(Reg.CSI_SCM_CFG_enable 7, 1), (Reg.CSI_SCM_CFG_i3c_bus 7, 1)]), by decide +kernel⟩⟩

/-- A frame of stream 0 in context 7 of pipe 3, whose warp output 3 writes a band or not. -/
def warpRun (running : Bool) : PipeRun := { stream := 0, frame := 0, warps := [(3, { running })] }

/-- Band 0 of that output, eligible. -/
def warpJob : WarpJob := { pipe := 3, context := 7, output := 3, stream := 0, frame := 0 }

theorem wit_Warp : (∃ s : State, s.dev.warpBusy 3 = false ∧ (s.dev.cam.warpq.find? fun j => j.pipe == 3) = some warpJob ∧
      (s.dev.ctx 3 7).run warpJob.stream warpJob.frame = some (warpRun false)) ∧
    (∃ (s : State) (d : Device) (q : PipeRun) (x : StreamSt), (s.dev.ctx 3 7).writing 3 = some (warpRun true) ∧
      ((s.dev.stream 0).frames.find? fun f => f.id == 0) = some frame ∧ x = (s.dev.stream 0).during frame ∧
      d = s.dev.writeBand s.mode 3 7 3 (warpRun true) frame x.width x.height ∧ (d.ctx 3 7).run 0 frame.id = some q) ∧
    (∃ s : State, s.dev.warpBusy 3 = true) ∧ (State.reset.dev.ctx 3 7).writing 3 = none :=
  ⟨⟨st .turning (({ cam := { warpq := [warpJob] } } : Device).setCtx 3 7 { runs := [warpRun false] }), by decide +kernel⟩,
    ⟨st .turning ((({} : Device).setStream 0 { frames := [frame] }).setCtx 3 7 { runs := [warpRun true] }), _, warpRun true, _,
      by decide +kernel, by decide +kernel, rfl, rfl, by decide +kernel⟩,
    ⟨st .turning (({} : Device).setCtx 3 7 { runs := [warpRun true] }), by decide +kernel⟩, by decide +kernel⟩

def pic : Picture := { ten := false, width := 8, height := 4, luma := List.replicate 32 0, cb := List.replicate 8 0, cr := List.replicate 8 0 }

/-- The encode of a bypass frame of stream 31 for encoder stream 15, under way. -/
def coding : Coding := { picture := pic, width := 8, height := 4, idr := false, qp := 30, refs := 1, record := List.replicate 64 1 }

/-- An IDR unit of a 16 × 14 picture written out by the syntax of HEVC: VPS, SPS of Main at level 6.2, PPS, one slice. It conforms; the
same bytes for a larger window, or without their PPS, do not. -/
theorem test_conforms (v sps pps slice : List Byte) (c : Coding) (hv : v = [0, 0, 1, 0x40, 1, 0x0C])
    (hs : sps = [0, 0, 0, 1, 0x42, 1, 0x01, 0x01, 0x60, 0, 0, 3, 0, 0x90, 0, 0, 3, 0, 0, 3, 0, 0xBA, 0xA0, 0x88, 0x47, 0xD7, 0x2E, 0x49, 0x32,
      0x10]) (hp : pps = [0, 0, 1, 0x44, 1, 0xC0, 0x71, 0x81, 8]) (hi : slice = [0, 0, 1, 0x26, 1, 0xAF])
    (hc : c = { coding with picture := { pic with width := 16, height := 16 }, width := 16, height := 14, idr := true }) :
    c.conforms (v ++ sps ++ pps ++ slice) = true ∧ { c with height := 16 }.conforms (v ++ sps ++ pps ++ slice) = false ∧
      c.conforms (v ++ sps ++ slice) = false := by
  subst hv hs hp hi hc; decide +kernel

def encJob : EncJob := { encoder := 15, stream := 31, frame := frame, source := .bypass 31, slot := 0, idr := false }

/-- Encoder stream 15 with a ring of 512 bytes in DRAM. -/
def encDev (wr : Nat) (d : Device := {}) : Device :=
  regs [(Reg.MEM_CFG_capacity, 1), (Reg.VID_ENC_RING_SIZE_bytes 15, 512), (Reg.VID_ENC_RING_LO_ring_lo 15, 0x1000),
    (Reg.VID_ENC_RING_HI_ring_hi 15, 0x10), (Reg.VID_ENC_WR_offset 15, wr)]
    { d with vid := { queue := [encJob], coding := some coding, logLast := 14 } }

/-- An access unit of one slice behind its SEI message fills 192 bytes: it fits with 256 bytes used, and does not with 320. -/
theorem wit_AccessUnits (unit : List Byte) (h : unit = seiMessage coding.record ++ [0, 0, 1, 2, 1, 0x80]) :
    (coding.conforms [0, 0, 1, 2, 1, 0x80] = true ∧ coding.conforms [1] = false) ∧
    (∃ s : State, s.dev.vid.coding = some coding ∧ s.dev.vid.queue = [encJob] ∧ encJob.encoder = 15 ∧ 192 = 64 + padded unit.length ∧
      s.dev.rd (Reg.VID_ENC_RING_SIZE_bytes 15) = 512 ∧ s.dev.rd (Reg.VID_ENC_WR_offset 15) = 256 ∧
      ringUsed 512 256 (s.dev.rd (Reg.VID_ENC_RD_offset 15)) + 192 < 512 ∧ 256 % 512 + 192 ≤ 512 ∧
      CleanStore s.dev .engine (s.dev.encRing 15 + 256 % 512) 192) ∧
    (∃ s : State, s.dev.vid.coding = some coding ∧ s.dev.vid.queue = [encJob] ∧ s.dev.rd (Reg.VID_ENC_RING_SIZE_bytes 15) = 512 ∧
      512 = ringUsed 512 (s.dev.rd (Reg.VID_ENC_WR_offset 15)) (s.dev.rd (Reg.VID_ENC_RD_offset 15)) + (64 + padded unit.length)) := by
  subst h; unfold CleanStore
  exact ⟨by decide +kernel, ⟨st .turning (encDev 256), by decide +kernel⟩, ⟨st .turning (encDev 320), by decide +kernel⟩⟩

theorem wit_LogData : ∃ s : State, s.dev.portFor 3 = some 0 ∧ s.dev.boot.firmwareUp = true ∧ s.dev.proto.restarting.getD 5 false = false ∧
    s.dev.logTurn = some 15 ∧ s.dev.rd (Reg.VID_ENC_RING_SIZE_bytes 15) = 512 ∧ s.dev.rd (Reg.VID_ENC_RD_offset 15) = 0 ∧
    64 = 64 + padded (s.dev.num (s.dev.encRing 15) 4) ∧ CleanLoad s.dev .headstock (s.dev.encRing 15) 64 ∧ s.dev.txUsed 0 + 96 + 64 ≤ txqCap := by
  refine ⟨st .turning (encDev 128 { boot := { firmwareUp := true, faceplate := face 0 } }), ?_⟩
  unfold CleanLoad CleanRead; decide +kernel

/-- An entry whose turn has not come, and one for which the output queue has no room. -/
theorem wit_LogData_stays : (∃ s : State, s.dev.portFor 3 = some 0 ∧ s.dev.logTurn ≠ some 14) ∧
    (∃ s : State, s.dev.portFor 3 = some 0 ∧ txqCap < s.dev.txUsed 0 + 96 + 64) :=
  ⟨⟨st .turning { boot := { faceplate := face 0 } }, by decide +kernel⟩,
    ⟨st .turning { boot := { faceplate := face 0 }, proto := { txq := [[{ cls := 5, left := txqCap }], [], []] } }, by decide +kernel⟩⟩

/-- A frame of a sample for stream 31 and decoder 47. -/
def rplFrame : RplFrame := { stream := 31, decoder := 47, inject := 0, offset := 0, length := 1, startNs := 0, linePs := 0, epoch := 9, marks := 0, crc := 0 }

/-- A bitstream of the greatest size that decoder stream 47 takes, and one a line higher, which it does not. -/
theorem wit_ReplayDecoded : ∃ (s : State) (x : RplSample), s.dev.vid.replay.decoding = some x ∧
    (x.frames.find? fun g => g.decoder == 47 && g.picture.isNone) = some rplFrame ∧ s.dev.takes 47 (stream8 2 2) = true ∧
    s.dev.takes 47 (stream8 2 3) = false ∧ SkipLogOpen s.dev := by
  refine ⟨st .replay (regs [(Reg.MEM_CFG_capacity, 1), (Reg.VID_DEC_MAX_max_w 47, 2), (Reg.VID_DEC_MAX_max_h 47, 2),
      (Reg.VID_RPL_SKIPLOG_HI_log_hi, 0x10)]
      { vid := { replay := { decoding := some { index := 0, frames := [rplFrame] }, logged := 65535 } } }),
    { index := 0, frames := [rplFrame] }, ?_⟩
  unfold SkipLogOpen CleanStore; decide +kernel

/-- A replay under way in turn 0, whose batch holds one sample of stream 31. -/
def rplVid (y : RplFrame) : Video := { replay := { current := { samples := [{ index := 0, frames := [y] }] } } }

theorem wit_ReplayFrame : ∃ (s : State) (d : Device) (u : StreamSt) (x : RplFrame) (p : Picture), d = s.dev.stamp 0 ∧ u = d.committed 31 ∧
    s.mode = .replay ∧ d.seq.jobBegun = true ∧ u.openNow = none ∧
    (∀ q ∈ d.vid.replay.current.framesOf 31, q.2.started = none) ∧
    ((d.vid.replay.current.framesOf 31).find? fun q => q.2.started.isNone) = some (0, x) ∧ x.picture = some p ∧
    x.startNs ≤ d.sp.offsetAt d.sp.time ∧ u.reject = 0 ∧ u.enabled = true ∧ x.point = 0 ∧ d.committing 31 = [] ∧ d.contexts = [] ∧
    CleanStore d .engine (u.recBase + 0 * 64) 16 := by
  unfold CleanStore
  exact ⟨st .replay { camDev { cfg := camCfg, replayed := true } with seq := { jobBegun := true }, vid := rplVid { rplFrame with picture := some pic } },
    _, _, { rplFrame with picture := some pic }, pic, rfl, rfl, by decide +kernel⟩

/-- A sample still under decoding when its frame is due. -/
theorem wit_ReplayUnderrun : ∃ (s : State) (d : Device) (x : RplSample), s.mode = .replay ∧ d = s.dev.stamp 0 ∧
    ((d.vid.replay.current.framesOf 31).find? fun q => q.2.started.isNone) = none ∧ d.vid.replay.decoding = some x ∧
    d.sampleLate x = true ∧ x.underrun = false :=
  ⟨st .replay { seq := { jobBegun := true }, vid := { replay := { decoding := some { index := 0, frames := [rplFrame] } } } }, _,
    { index := 0, frames := [rplFrame] }, rfl, rfl, by decide +kernel⟩

theorem wit_ReplayLine : ∃ (s : State) (d : Device) (f : Frame) (x : RplFrame) (p : Picture) (u : StreamSt), d = s.dev.stamp 0 ∧
    u = (d.stream 31).during f ∧ (d.stream 31).openNow = some f ∧ d.frameOf 31 f.id = some f ∧
    ((d.vid.replay.current.framesOf 31).find? fun q => q.2.started == some f.id && !q.2.delivered) = some (0, x) ∧
    x.picture = some p ∧ x.point = 0 ∧ u.route = 0 ∧ d.vid.queue = [] ∧ 2 = f.linesReceived + f.linesDiscarded ∧ f.linesDiscarded = 0 ∧
    2 < u.height ∧ 2 + 1 < p.height ∧ 2 * x.linePs ≤ (d.sp.time - f.startAt) * 1000 ∧
    CleanStore d .engine (u.bypassRow f.ordinal 2) (packLine u.bits (rawRow p u.bits u.width u.black 2)).length := by
  unfold CleanStore
  exact ⟨st .replay { camDev { cfg := camCfg, frames := [{ frame with linesReceived := 2 }] } with
      vid := rplVid { rplFrame with picture := some pic, started := some 0 } }, _, { frame with linesReceived := 2 },
    { rplFrame with picture := some pic, started := some 0 }, pic, _, rfl, rfl, by decide +kernel⟩

/-- Device 1 of a fully connected group of three with buddy 2, reached over port 2. -/
def joinDev (l : List (Fld × Nat) := []) (d : Device := {}) : Device :=
  regs ([(Reg.FX_ROLE_device_id, 1), (Reg.FX_ROLE_buddy_valid, 1), (Reg.FX_ROLE_buddy_id, 2), (Reg.FX_TOPO_topology, 1),
    (Reg.FX_TOPO_group_size, 2), (Reg.FX_PORT_STATUS_state 2, 2)] ++ l) d

theorem wit_Ports : ∃ s : State, s.dev.portUp 2 = true ∧ s.dev.rdB (Reg.FX_PORT_STATUS_retraining 2) = false ∧ (s.dev.port 2).retries = 7 ∧
    s.dev.activeSlots 6 = [] ∧ (2 : Nat) ≠ s.dev.self ∧ s.dev.routeFrom 2 2 = some 2 ∧ s.dev.portUp 3 = false :=
  ⟨st .turning (joinDev [] { join := { ports := [(2, { retries := 7 })] } }), by decide +kernel⟩

theorem wit_Ports_cut : ∃ s : State, s.dev.activeSlots 6 = [] ∧ s.dev.routeFrom 2 1 = none :=
  ⟨st .turning (regs [(Reg.FX_PORT_STATUS_state 2, 2)]), by decide +kernel⟩

theorem wit_Ports_retraining : (joinDev [(Reg.FX_PORT_STATUS_retraining 2, 1)]).rdB (Reg.FX_PORT_STATUS_retraining 2) = true := by decide +kernel

/-- An early, a repeated and a next transaction; the last also where the sender is unknown. -/
theorem wit_Sequenced : ∃ s : State, okTx.destination = s.dev.self ∧ joinListens s.mode = true ∧ s.dev.activeSlots 6 = [] ∧
    s.dev.join.expects okTx.source = 2 ∧ s.dev.join.expects okTx.source < 3 ∧ okTx.sequence < s.dev.join.expects okTx.source ∧
    (s.dev.seq.frozen && decide (some okTx.source = s.dev.buddy)) = false ∧ s.dev.fo.silent = false ∧ okTx.source ≠ s.dev.self ∧
    s.dev.route okTx.source = some 2 ∧ s.dev.rdB (Reg.FX_PORT_STATUS_retraining 2) = false ∧ joinListens .replay = false ∧
    { okTx with destination := 2 }.destination ≠ s.dev.self :=
  ⟨st .parked (joinDev [] { join := { rxSeq := [(2, 2)] } }), by decide +kernel⟩

/-- The next transaction of device 2. -/
theorem wit_TakesNext (s : State) (h : joinListens s.mode = true ∧ s.dev.activeSlots 6 = [] ∧ s.dev.join.expects 2 = 1) :
    TakesNext s 2 1 { s.dev with join := { s.dev.join with rxSeq := mset 1 s.dev.join.rxSeq 2 2 } } := ⟨h.1, h.2.1, h.2.2, rfl⟩

/-- A plan whose counters are all flags counters in use, but for counter 511, which is not in use. -/
def plan : Plan :=
  { header := [], primary := [], fallback := [], tensors := [], windows := [], windowTensor := [], counters := List.replicate 511 3 ++ [0]
    dma := [], profile := [], bindings := [], constants := [], digest := [] }

/-- Device 1 takes the next transaction of device 2, through receive window 15 of exactly its two bytes' line; the mirror region is 16 MiB. -/
def rxState : State :=
  st .turning (joinDev [(Reg.FX_RECV_SRC_enable 15, 1), (Reg.FX_RECV_SRC_source 15, 0x1FF), (Reg.FX_RECV_SRC_for_device 15, 1),
    (Reg.FX_RECV_BASE_base 15, 1), (Reg.FX_RECV_SIZE_size 15, 1), (Reg.MEM_AREA_base 3, 64), (Reg.MEM_AREA_size 3, 1)] { seq := { plan := some plan } })

theorem wit_Received : (joinListens rxState.mode = true ∧ rxState.dev.activeSlots 6 = [] ∧ rxState.dev.join.expects 2 = 1) ∧
    okTx.source = 2 ∧ okTx.sequence = 1 ∧ okTx.destination = rxState.dev.self ∧
    (rxState.dev.recvMatches { okTx with address := 126 } 15 = true ∧ rxState.dev.badCodewords (shmBase + 126) okTx.payload.length = []) ∧
    (∀ w < 16, rxState.dev.recvMatches { okTx with address := 127 } w = false) ∧
    (rxState.dev.buddy = some okTx.source ∧ rxState.dev.seq.frozen = false ∧ 2 ^ 24 - 2 + okTx.payload.length ≤ (rxState.dev.area 3).2 ∧
      rxState.dev.badCodewords ((rxState.dev.area 3).1 + (2 ^ 24 - 2)) okTx.payload.length = []) ∧
    (rxState.dev.area 3).2 < 2 ^ 24 - 1 + okTx.payload.length := by decide +kernel

theorem wit_Received_signals : okTx.redirected = false ∧
    (turnDiff 0 rxState.dev.carriedTurn = 0 ∧ turnDiff 1 rxState.dev.carriedTurn = 1 ∧ 1 < turnDiff 2 rxState.dev.carriedTurn ∧
      1 < turnDiff (2 ^ 32 - 1) rxState.dev.carriedTurn) ∧
    (rxState.dev.counterInUse 510 = true ∧ rxState.dev.isFlags 510 = true) ∧ rxState.dev.counterInUse 511 = false := by decide +kernel

theorem wit_Received_takeover : rxState.dev.lostPair 2 127 = [] ∧ 127 ≠ rxState.dev.self ∧ rxState.dev.buddy ≠ some 127 ∧ 127 < 128 ∧
    (∀ h ∈ rxState.dev.join.held ++ rxState.dev.join.waiting, h.destination ≠ 127) := by decide +kernel

theorem wit_Acks : rxState.mode ≠ .retired ∧ rxState.dev.activeSlots 6 = [] ∧ rxState.dev.fo.silent = false ∧ 2 ≠ rxState.dev.self ∧
    rxState.dev.route 2 = some 2 ∧ (st .retired {}).mode = .retired := by decide +kernel

/-- A follower of master 0 that hears it 2000 ns ahead of its own time. -/
theorem wit_Alignment : ∃ (s : State) (d : Device) (a : AlignRec) (x : Int), d = s.dev.stamp 0 ∧
    x = (a.sendTime : Int) + a.correction + d.rd (Reg.FX_PORT_DELAY_delay_ns 2) - d.sp.time ∧ s.dev.activeSlots 6 = [] ∧
    d.sp.counting = true ∧ d.isMaster = false ∧ 1 < d.groupSize ∧ a.master = d.join.master ∧ a.master < 512 ∧ x.natAbs ≤ 2000 ∧ d.turnGap a x = 0 :=
  ⟨st .turning (joinDev [] { sp := { counting := true } }), _, { master := 0, turn := 0, index := 0, sendTime := 1900, correction := 100 }, _,
    rfl, rfl, by decide +kernel⟩

theorem wit_Alignment_unused : State.reset.dev.activeSlots 6 = [] ∧ (State.reset.dev.stamp 0).sp.counting = false := by decide +kernel

def rec3 : EventRec := { code := 0x0101, index := 0, turn := 4, severity := 3, source := 0, payload := 0 }

theorem wit_Health : (∃ s : State, s.dev.ev.queue = [rec3] ∧ s.dev.hmServes = true ∧ s.dev.ev.lost = 0 ∧ s.dev.proto.sessions = [] ∧
      LogClean s.dev s.dev.ev.written ∧ s.dev.rdB Reg.MEM_STATUS_init_done = false) ∧
    (∃ s : State, s.dev.ev.queue = [rec3] ∧ s.dev.hmServes = true ∧ s.dev.ev.lost = 0 ∧ s.dev.proto.sessions = [] ∧
      LogClean s.dev s.dev.ev.written ∧ s.dev.rdB Reg.MEM_STATUS_init_done = true) ∧
    (∃ s : State, s.dev.ev.queue = [rec3] ∧ s.dev.hmServes = true ∧ s.dev.ev.lost ≠ 0 ∧ ([] : List EventRec).length < 4096 ∧
      s.dev.proto.sessions = [] ∧ LogClean s.dev s.dev.ev.written) ∧
    State.reset.dev.ev.queue = [] ∧ State.reset.dev.hmServes = false ∧ ((5 : Fin 8).val ≠ 0 ∧ (5 : Fin 8).val ≠ 4) := by
  unfold LogClean
  exact ⟨⟨st .ready { ev := { hmRunning := true, queue := [rec3] } }, by decide +kernel⟩,
    ⟨st .ready (regs [(Reg.MEM_CFG_capacity, 1), (Reg.MEM_STATUS_init_done, 1)]
      { ev := { hmRunning := true, queue := [rec3], written := 4194299 } }), by decide +kernel⟩,
    ⟨st .ready { ev := { hmRunning := true, queue := [rec3], lost := 1 } }, by decide +kernel⟩, by decide +kernel⟩

/-- A session that subscribes to critical records only does not take one of severity 3. -/
theorem wit_Health_subscribed (n : Nat) (h : some 4 = some n) : rec3.severity < n := by cases h; decide

theorem wit_Health_turn : ∃ (s : State) (x : EndedTurn), s.dev.safety.ended = some x ∧ s.dev.hmServes = true :=
  ⟨st .turning { ev := { hmRunning := true }, safety := { ended := some ⟨7, false, false, false, 0, 0, 0, 0⟩ } }, ⟨7, false, false, false, 0, 0, 0, 0⟩, by decide +kernel⟩

theorem wit_Health_watchdog : (st .turning {}).mode = .turning ∧ (st .turning {}).dev.fo.pendingCause = none ∧ (st .coldStart {}).mode = .coldStart ∧
    (st .retired {}).mode = .retired := by decide +kernel

theorem wit_Voltage : ∃ s : State, (s.dev.rail 3).target = some 15 ∧ 15 < 16 ∧ (State.reset.dev.rail 3).target = none :=
  ⟨st .turning (({} : Device).setRail 3 { target := some 15 }), by decide +kernel⟩

theorem wit_Voltage_rises : (({} : Device).setRail 3 { target := some 15 }).pwr.rises = [] ∧
    ((({} : Device).setRail 3 { target := some 15 }).rail 3).target ≠ none ∧
    (∃ d : Device, (∀ k < 4, (d.rail k).target = none) ∧ d.pwr.rises = [(3, 15)]) :=
  ⟨by decide +kernel, by decide +kernel, { pwr := { rises := [(3, 15)] } }, by decide +kernel⟩

/-- The limiter acts at both ends of the duty's range. -/
theorem wit_Limiter (n : Nat) (h : n = 1 ∨ n = 16) : ∃ s : State, s.dev.boot.applicationUp = true ∧
    s.dev.rdB (Reg.PWR_RAIL_STATUS_lost 3) = false ∧ n = s.dev.rd (Reg.PWR_RAIL_LIMITER_duty 3) ∧ 1 ≤ n ∧ n ≤ 16 := by
  rcases h with rfl | rfl
  · exact ⟨st .turning (regs [(Reg.PWR_RAIL_LIMITER_duty 3, 1)] { boot := { applicationUp := true } }), by decide +kernel⟩
  · exact ⟨st .turning (regs [(Reg.PWR_RAIL_LIMITER_duty 3, 16)] { boot := { applicationUp := true } }), by decide +kernel⟩

theorem wit_Ballast : (∃ s : State, s.dev.ballastOn s.mode = true ∧ s.dev.rdB (Reg.PWR_RAIL_STATUS_lost 3) = false) ∧
    State.reset.dev.ballastOn State.reset.mode = false :=
  ⟨⟨st .turning (regs [(Reg.PWR_BALLAST_enable, 1)]), by decide +kernel⟩, by decide +kernel⟩

theorem wit_Thermal : State.reset.mode = .off ∧ (st .ready {}).mode ≠ .off ∧ ((-128 : Int) ≤ -128 ∧ (-128 : Int) ≤ 126 ∧ (126 : Int) ≤ 126 ∧ 1 ≤ 8) ∧
    (∀ t ∈ List.replicate 7 (-128 : Int), -128 ≤ t ∧ t ≤ 127) ∧ (List.replicate 7 (-128 : Int)).length ≤ 7 := by decide +kernel

theorem wit_RailLoss : (st .turning {}).mode ≠ .off ∧ (st .turning {}).dev.rdB (Reg.PWR_RAIL_STATUS_lost 3) = false ∧
    (st .turning {}).dev.fo.pendingCause = none ∧ State.reset.mode = .off ∧
    (regs [(Reg.PWR_RAIL_STATUS_lost 3, 1)]).rdB (Reg.PWR_RAIL_STATUS_lost 3) = true := by decide +kernel

/-- Steady runs, with a report to write to the shared memory. -/
def steadyDev : Device :=
  regs [(Reg.PWR_REPORT_HI_report_hi, shmBase / 2 ^ 32), (Reg.PWR_REPORT_LO_report_lo, shmBase % 2 ^ 32)]
    { boot := { firmwareUp := true, applicationUp := true }, pwr := { ended := [1, 2, 3, 4, 5], nextAlloc := some 450 } }

theorem wit_Steady : steadyDev.pwr.ended = [1, 2, 3, 4, 5] ∧ steadyDev.steadyRuns = true ∧ steadyDev.hasReportArea = true ∧
    steadyDev.badCodewords (steadyDev.reportAt steadyDev.self) 32 = [] ∧ steadyDev.pwr.nextAlloc = some 450 ∧
    State.reset.dev.hasReportArea = false ∧ State.reset.dev.steadyRuns = false ∧ 3 < 4 ∧ (∀ k < 4, steadyDev.setPoint k ≤ 16) ∧
    [16, 0, 0, 0].getD 1 0 ≤ steadyDev.setPoint 1 ∧ steadyDev.setPoint 0 < [16, 0, 0, 0].getD 0 0 := by decide +kernel

/-- A manager's session over the maintenance port, whose last request was number 6, in a part that serves it. -/
def manager : Session :=
  { id := 5, kind := 1, mailbox := 0, port := 0, address := 0, role := 1, minor := 0, lastSeq := some 6, cached := [], cachedStatus := 0
    cachedType := 3, subscribe := none }

/-- A part in development whose mailbox service serves every path; port 0 carries everything, with the given faceplate flags. -/
def served (l : List (Fld × Nat) := []) (flags : Nat := 1) (d : Device := {}) : Device :=
  regs ([(Reg.HS_STATUS_lifecycle, 2), (Reg.ETH_PORT_CTRL_enable 0, 1), (Reg.MBX_A_CFG_enable 3, 1)] ++ l)
    { d with boot := { d.boot with firmwareUp := true, applicationUp := true, maintServed := true, faceplate := face flags }
             proto := { d.proto with sessions := [manager] }, ev := { d.ev with hmRunning := true } }

theorem wit_Frames : (∃ s : State, s.portTakes 0 = true ∧ (s.dev.stamp 0).portFlag 0 2 = true ∧ (s.dev.stamp 0).proto.macsec.getD 0 false = false) ∧
    (∃ s : State, s.portTakes 0 = true ∧ (s.dev.stamp 0).portFlag 0 2 = true ∧ (s.dev.stamp 0).proto.macsec.getD 0 false = true) :=
  ⟨⟨st .ready (served [] 4), by decide +kernel⟩, ⟨st .ready (served [] 4 { proto := { macsec := [true, true, true] } }), by decide +kernel⟩⟩

/-- A port without MACsec: a frame for another MAC address, one of another VLAN, and a resolution request sent to all. -/
theorem wit_Frames_filtered : ∃ s : State, s.portTakes 0 = true ∧ (s.dev.stamp 0).portFlag 0 2 = false ∧ 1 ≠ s.portMac 0 ∧ bitAt 2 0 = false ∧
    s.mode ≠ .recovery ∧ 1 ≠ (s.dev.stamp 0).portVlan 0 ∧ bitAt (2 ^ 48 - 1) 0 = true :=
  ⟨st .ready served, by decide +kernel⟩

/-- A whole request in one fragment, from the host that the faceplate names; the address asked for; another destination, port or host. -/
theorem wit_Frames_request : ∃ (s : State) (d : Device), d = s.dev.stamp 0 ∧ s.portTakes 0 = true ∧ FrameSound s 0 false false 0 0 d ∧
    okGram.fragmented = false ∧ s.datagramFor 0 okGram = true ∧
    (okFrag.msgType ≠ 0x40 ∨ bitAt okFrag.flags 0 = false) ∧ s.admits 0 9 okFrag = true ∧ s.served (ethPath s.mode 0 9) = true ∧
    okFrag.offset = 0 ∧ okFrag.data.length = okFrag.length ∧ bitAt okFrag.flags 1 = true ∧ okFrag.length ≤ d.fragmentMax 0 ∧
    d.proto.reassembly = [] ∧ (s.portAddresses 0).contains (linkLocalOf 0) = true ∧
    s.datagramFor 0 { okGram with destination := 9 } = false ∧ s.datagramFor 0 { okGram with destPort := 48021 } = false ∧
    s.admits 0 8 okFrag = false := by
  refine ⟨st .ready served, _, rfl, ?_⟩
  unfold FrameSound; decide +kernel

/-- Port 2 has traffic of classes 5 and 1; ports 0 and 1 have none. -/
theorem wit_Frames_queues : ∃ (s : State) (r : Reassembly), s.dev.servedClass 2 = some 5 ∧ s.dev.headOf 2 5 = some { cls := 5, left := 16 } ∧
    16 = min 16 (s.dev.fragmentMax 2) ∧ s.dev.servedClass 0 = none ∧ s.dev.gateOpen 0 7 = true ∧
    (s.dev.proto.reassembly.find? fun r => r.hdr.session == 5 && r.hdr.sequence == 7) = some r :=
  ⟨st .ready (served [] 1 { proto := { txq := [[], [], [{ cls := 1, left := 20 }, { cls := 5, left := 16 }]]
                                       reassembly := [{ port := 0, address := 9, hdr := okFrag, got := [] }] } }),
    { port := 0, address := 9, hdr := okFrag, got := [] }, by decide +kernel⟩

/-- A gate that is closed for class 7, and a message that an EMIT still fills whose bytes make no full fragment yet. -/
theorem wit_Frames_closed : (∃ s : State, s.dev.gateOpen 0 7 = false) ∧ (∃ d : Device, d.emitting { cls := 6, left := 1408, more := 1, source := some (79, 9, 0) } = true ∧
    d.headOf 0 6 = some { cls := 6, left := 1408, more := 1, source := some (79, 9, 0) }) :=
  ⟨⟨st .ready (regs [(Reg.ETH_PORT_CTRL_gate_en 0, 1)] { boot := { faceplate := patchAt (face 1) (192 + 32 + 120) [2] } }), by decide +kernel⟩,
    dmaDev 4 { active := some (copyDesc 0) } { proto := { txq := [[{ cls := 6, left := 1408, more := 1, source := some (79, 9, 0) }], [], []] } },
    by decide +kernel⟩

theorem wit_Frames_gates : ∃ s : State, s.dev.rdB (Reg.ETH_PORT_CTRL_gate_en 0) = true ∧ s.dev.proto.gate.getD 0 0 + 1 < s.dev.gateCount 0 :=
  ⟨st .ready (regs [(Reg.ETH_PORT_CTRL_gate_en 0, 1)] { boot := { faceplate := patchAt (face 1) (192 + 32 + 120) [2] } }), by decide +kernel⟩

/-- A request's header and payload in the ring of mailbox 3, whose halves are 512 bytes. -/
def mailboxDev : Device :=
  (served [(Reg.MEM_CFG_capacity, 1), (Reg.MBX_A_CFG_size_kib 3, 1), (Reg.MBX_A_RING_HI_ring_hi 3, 0x10)]).poke dramBase
    (leBytes 2 0x4D4E ++ [1, 0] ++ leBytes 2 3 ++ [2, 0] ++ leBytes 4 480 ++ leBytes 20 0)

theorem wit_Mailbox (head : List Byte) (h : head = mailboxDev.bytes (dramBase + 0 % 512) 32) : (st .ready mailboxDev).served (.app 3) = true ∧
    mailboxDev.ringOf 3 = (dramBase, 512) ∧ 0 = mailboxDev.rd (Reg.MBX_A_REQ_RD_offset 3) ∧
    CleanLoad mailboxDev .headstock (dramBase + 0 % 512) 32 ∧ CleanLoad mailboxDev .headstock (dramBase + 0 % 512) (32 + 480) ∧
    0 % 512 + (32 + 480) ≤ 512 ∧ fieldOf head 8 4 = 480 ∧ hasMagic head = true ∧ 480 ≤ maxPayload ∧ padded (32 + 480) ≤ 512 ∧
    ((512 : Word).toNat + 2 ^ 32 - 0) % 2 ^ 32 = padded (32 + 480) ∧ 64 ≤ padded (32 + 480) ∧
    mailboxDev.mailboxFull 3 = false ∧ bitAt (0 : Word).toNat 31 = false ∧ bitAt (0x80000000 : Word).toNat 31 = true := by
  unfold CleanLoad CleanRead
  subst h; decide +kernel

/-- A response freed where the mailbox is closed, and where it is open with no request in its ring. -/
theorem wit_Mailbox_freed : State.reset.served (.app 3) = false ∧ State.reset.dev.proto.appPending = [] ∧
    (st .ready mailboxDev).served (.app 3) = true ∧
    (mailboxDev.rd (Reg.MBX_A_REQ_WR_offset 3) + 2 ^ 32 - mailboxDev.rd (Reg.MBX_A_REQ_RD_offset 3)) % 2 ^ 32 < 64 := by decide +kernel

/-- The last word of the maintenance buffer. -/
theorem wit_Maintenance (a : Nat) (h : a = 0x1FFFFFC) : ∃ s : State, s.mode ≠ .off ∧ s.dev.boot.maintServed = true ∧
    s.dev.rdB Reg.MBX_MAINT_ADDR_HI_physical = false ∧ a = s.dev.rd Reg.MBX_MAINT_ADDR_LO_addr * 4 ∧ a < 0x2000000 ∧
    CleanRead s.dev (s.dev.maintBase s.mode + a) 4 := by
  unfold CleanRead
  subst h; exact ⟨st .ready (served [(Reg.MBX_MAINT_ADDR_LO_addr, 0x7FFFFF)]), by decide +kernel⟩

/-- A maintenance frame: a write to a register, its value and its check. -/
def maint (reg v : Nat) : List Byte := [1] ++ leBytes 1 reg ++ beBytes 4 v ++ beBytes 2 (crc16 ([1] ++ leBytes 1 reg ++ beBytes 4 v))

theorem wit_Maintenance_frames : maintFrame (maint 4 7) = some (4, 7) ∧ fieldOf (maint 4 7) 0 1 = 1 ∧ maintFrame (maint 5 33) = some (5, 33) ∧
    maintFrame [] = none := by decide +kernel

theorem wit_Maintenance_doorbell : ∃ (s : State) (head : List Byte), head = s.dev.bytes (s.dev.maintBase s.mode) 32 ∧ s.mode ≠ .off ∧
    s.mode ≠ .recovery ∧ s.dev.boot.maintServed = true ∧ s.dev.rdB Reg.MBX_MAINT_STATUS_busy = false ∧ hasMagic head = true ∧
    32 + fieldOf head 8 4 = 33 ∧ 33 ≤ 0x1000000 ∧ CleanRead s.dev (s.dev.maintBase s.mode) 32 ∧ CleanRead s.dev (s.dev.maintBase s.mode) 33 := by
  unfold CleanRead
  exact ⟨st .ready (served [] 1 { mem := { cells := cellsWrite [] (dramBase + 0x4000000) ([0x4E, 0x4D] ++ leBytes 6 0 ++ [1]) } }), _, rfl, by decide +kernel⟩

/-- A safety-port write frame of one word. -/
def safety (offset v : Nat) : List Byte :=
  [2] ++ beBytes 2 offset ++ [1] ++ leBytes 4 v ++ beBytes 2 (crc16 ([2] ++ beBytes 2 offset ++ [1] ++ leBytes 4 v))

theorem wit_Safety : served.ev.hmRunning = true ∧ served.hmServes = true ∧ safetyFrame (safety 0x800 (2 ^ 32 - 1)) = some (0x800, [2 ^ 32 - 1]) ∧
    safetyFrame (safety 0x810 0x53544F50) = some (0x810, [0x53544F50]) ∧ safetyFrame (safety 0x804 0) = none ∧ (1 ≤ 64 ∧ 64 ≤ 64) ∧
    served.proto.ready = [] ∧ served.nextReady = none := by decide +kernel

/-- A stop request that waits, alone in the line, in TURNING. -/
theorem wit_Safety_waiting (r : Request) (h : r = { path := .safety, msgType := 0, major := 1, minor := 0, sequence := 0, session := 0
                                                    payload := leBytes 4 0x53544F50 }) : ∃ s : State,
    s.dev.hmServes = true ∧ s.dev.serviceUp = true ∧ s.dev.nextReady = some r ∧ r.path = .safety ∧ fieldOf r.payload 0 4 = 0x53544F50 ∧
    s.mode = .turning ∧ s.dev.proto.ready ≠ [] := by
  refine ⟨st .turning (served [] 1 { proto := { ready := [r] } }), ?_⟩
  subst h; decide +kernel

/-- The plan's entry of a faceplate that names a length, with one request outstanding. -/
def fetchDev (f : Fetch) (len : Nat) : Device := { boot := { faceplate := patchAt (face 1) (448 + 16) (leBytes 8 len) }, fetch := [f] }

theorem wit_Fetch : (∃ (s : State) (f : Fetch), fetching s.mode = true ∧ s.dev.fetchOf 0 = some f ∧ srcModelId (s.dev.source 0) = 0xFFFFFFFF ∧
      (0, 64, 0) ∈ f.outstanding ∧ f.got + 64 < srcLength (s.dev.source 0)) ∧
    (∃ (s : State) (f : Fetch), fetching s.mode = true ∧ s.dev.fetchOf 0 = some f ∧
      (f.outstanding.find? fun r => r.1 == 0) = some (0, 64, 7) ∧ true = (decide (8 ≤ 7 + 1) && !f.stalledRaised)) ∧
    (∃ (s : State) (f : Fetch), fetching s.mode = true ∧ s.dev.fetchOf 0 = some f ∧ f.complete = true ∧ f.accepted = false) ∧
    fetching State.reset.mode = false :=
  ⟨⟨st .coldStart (fetchDev { entry := 0, outstanding := [(0, 64, 0)] } 65), { entry := 0, outstanding := [(0, 64, 0)] }, by decide +kernel⟩,
    ⟨st .warmStart (fetchDev { entry := 0, outstanding := [(0, 64, 7)] } 65), { entry := 0, outstanding := [(0, 64, 7)] }, by decide +kernel⟩,
    ⟨st .coldStart (fetchDev { entry := 0, complete := true } 65), { entry := 0, complete := true }, by decide +kernel⟩, by decide⟩

/-- The header of a request of the manager with a sequence number. -/
def hdr (n : Nat) (major : Nat := 1) : ReqHdr := { path := .maint, major, minor := 0, sequence := n, session := 5 }

theorem wit_Requests : (∃ s : State, s.takes (hdr 7) = true ∧ s.takes (hdr 6) = true ∧ s.takes (hdr 5) = true ∧ s.takes (hdr 7 2) = true ∧
      s.mode ≠ .recovery ∧ s.dev.life ≠ 0 ∧ s.dev.sessionOf (hdr 7) = some manager ∧
      s.service (hdr 7 2) roleAll anyState = .refused 1 ∧ manager.lastSeq = some (hdr 6).sequence ∧
      s.service (hdr 6) roleAll anyState = .again manager ∧ (hdr 5).sequence < 6 ∧ s.service (hdr 5) roleAll anyState = .discarded ∧
      6 < (hdr 7).sequence ∧ s.service (hdr 7) roleM (fun m => m == .turning) = .run 3) ∧
    State.reset.takes (hdr 7) = false ∧ State.reset.service (hdr 7) roleAll anyState = .ignored ∧
    (∃ s : State, s.takes (hdr 7) = true ∧ s.mode = .recovery) ∧ (∃ s : State, s.takes (hdr 7) = true ∧ s.dev.life = 0) ∧
    (∃ s : State, s.takes { hdr 7 with session := 6 } = true ∧ s.mode ≠ .recovery ∧ s.dev.life ≠ 0 ∧
      s.dev.sessionOf { hdr 7 with session := 6 } = none ∧ s.service { hdr 7 with session := 6 } roleAll anyState = .refused 9) :=
  ⟨⟨st .ready served, by decide +kernel⟩, by decide +kernel, by decide +kernel, ⟨st .recovery served, by decide +kernel⟩,
    ⟨st .coldStart (served [(Reg.HS_STATUS_lifecycle, 0)]), by decide +kernel⟩, ⟨st .ready served, by decide +kernel⟩⟩

/-- A complete request at the head of the line has its turn; one behind it has not. -/
theorem wit_Requests_inTurn : ∃ s : State, s.takes (hdr 7) = true ∧ s.takes (hdr 8) = false ∧ s.service (hdr 8) roleAll anyState = .ignored :=
  ⟨st .ready (served [] 1 { proto := { ready := [requestOf .maint (leBytes 2 0x4D4E ++ [1, 0] ++ leBytes 2 3 ++ [2, 0] ++ leBytes 4 0 ++ leBytes 4 7 ++
    leBytes 4 5 ++ leBytes 12 0)] } }), by decide +kernel⟩

/-- The host that the faceplate names with both roles, and one that it does not name. -/
theorem wit_Sessions : ∃ s : State, s.takes { hdr 7 with path := .eth 0 9 } = true ∧ s.takes { hdr 7 with path := .eth 0 8 } = true ∧
    s.mode ≠ .recovery ∧ s.dev.life ≠ 0 ∧ s.dev.hostRoles 9 = some 3 ∧
    s.dev.hostRoles 8 = none ∧ s.dev.ethSessions.length < 8 ∧ bitAt 3 0 = true ∧ bitAt 3 1 = true ∧ (∀ x ∈ s.dev.ethSessions, x.role ≠ 1) ∧
    s.takes (hdr 7) = true ∧ s.service (hdr 7) roleAll anyState = .run 0 ∧ s.dev.sessionOf (hdr 7) = some manager ∧
    (s.dev.proto.sessions.find? fun x => x.id == 5) = some manager :=
  ⟨st .ready served, by decide +kernel⟩

theorem wit_Restarts : (∃ s : State, s.service (hdr 7) roleM inRestart = .run 0 ∧ (s.dev.boot.retained.any (·.pending)) = true) ∧
    (∃ s : State, s.service (hdr 7) roleM inRestart = .run 0 ∧ s.dev.life ≠ lifecycleCode s.otp.lifecycle) ∧
    (∃ s : State, s.service (hdr 7) roleM inRestart = .run 0 ∧
      ¬((s.dev.boot.retained.any (·.pending)) = true ∨ s.dev.life ≠ lifecycleCode s.otp.lifecycle)) :=
  ⟨⟨st .ready (served [] 1 { boot := { retained := some (kept true) } }), by decide +kernel⟩, ⟨st .ready served, by decide +kernel⟩,
    ⟨{ mode := .parked, dev := served, otp := { lifecycle := .production } }, by decide +kernel⟩⟩

theorem wit_Jobs : (∃ s : State, s.service (hdr 7) roleM inReadyParked = .run 0 ∧ s.dev.seq.starting = none ∧ s.dev.rd Reg.MEM_STATUS_offline = 0 ∧
      s.dev.pwr.startBlocked = false ∧ s.service (hdr 7) roleM inRestart = .run 0) ∧
    (∃ s : State, s.service (hdr 7) roleM inReadyParked = .run 0 ∧ s.dev.seq.starting = none ∧ s.dev.rd Reg.MEM_STATUS_offline ≠ 0) ∧
    (∃ s : State, s.service (hdr 7) roleM (fun m => m == .turning) = .run 0) ∧ (∃ s : State, s.service (hdr 7) roleM (fun m => m == .replay) = .run 0) :=
  ⟨⟨st .ready served, by decide +kernel⟩, ⟨st .parked (served [(Reg.MEM_STATUS_offline, 0x8000)]), by decide +kernel⟩,
    ⟨st .turning served, by decide +kernel⟩, ⟨st .replay served, by decide +kernel⟩⟩

/-- Constants written after an accepted START: a start that is accepted, and one refused because the spindle is FREE. -/
theorem wit_Constants : (∃ (s : State) (d : Device), d = s.dev.writeConstants s.mode ∧ s.dev.seq.starting = some (hdr 7) ∧ s.mode = .ready ∧
      d.startResult = 0) ∧
    (∃ (s : State) (d : Device), d = s.dev.writeConstants s.mode ∧ s.dev.seq.starting = some (hdr 7) ∧ s.mode = .parked ∧
      1 ≤ d.startResult ∧ d.startResult ≤ 3) :=
  ⟨⟨st .ready (served [] 1 { seq := { starting := some (hdr 7), plan := some { plan with header := List.replicate 4096 255 } }, sp := { lock := .locked } }),
      _, rfl, by decide +kernel⟩,
    ⟨st .parked (served [] 1 { seq := { starting := some (hdr 7), plan := some plan } }), _, rfl, by decide +kernel⟩⟩

theorem wit_Constants_written : ∃ d : Device, d.seq.plan = some { plan with constants := [⟨31, 0, 64, [1, 2]⟩] } ∧
    d.badCodewords (coreMemBase 31 + 64) 2 = [] :=
  ⟨{ seq := { plan := some { plan with constants := [⟨31, 0, 64, [1, 2]⟩] } } }, by decide +kernel⟩

/-- Validation records: a sound one, and one whose first byte is wrong. -/
theorem wit_ReplayStart : ∃ s : State, s.service (hdr 7) roleM inParked = .run 0 ∧ recordOk [1, 0, 1, 4] = true ∧ recordOk [0, 0, 1, 4] = false ∧
    s.dev.fo.pendingCause = none ∧ s.dev.stagedOf 4 = none ∧ pathKind (hdr 7).path ≠ 2 :=
  ⟨st .parked served, by decide +kernel⟩

/-- A staged object of a kind under a handle. -/
def staged (handle kind : Nat) (ended : Bool) : Staged :=
  { handle, kind, modelId := 0, length := 64, neOffset := 0, digest := List.replicate 64 0, ended }

/-- PARKED with an update under way and an NE area of 16 MiB. -/
def updState (objects : List Staged) (d : Device := {}) : State :=
  st .parked (served [(Reg.MEM_AREA_size 0, 1)] 1 { d with upd := { objects } })

/-- An object of kind 5 that ends with the NE area has a place, one that ends a byte later has none; so has one of every kind. -/
theorem wit_Updates_begin : (updState []).service (hdr 7) roleM inParked = .run 0 ∧ 1 ≤ 5 ∧ 5 ≤ 6 ∧ (List.replicate 64 (0 : Byte)).length = 64 ∧
    (updState []).dev.noSpace 5 0 (2 ^ 24 - 64) 64 = false ∧ (updState []).dev.noSpace 5 0 (2 ^ 24 - 63) 64 = true ∧
    (updState []).dev.noSpace 1 0 0 (2 ^ 24 + 1) = false ∧ (updState []).dev.noSpace 6 0 0 1 = false := by decide +kernel

/-- Data to the last byte of an object's length, and one byte past it: a plan, a replay set, a model. -/
theorem wit_Updates_data : (updState [staged 1 3 false]).service (hdr 7) roleM inParked = .run 0 ∧
    ((updState [staged 1 3 false]).dev.upd.objects.find? fun x => x.handle == 1 && !x.ended) = some (staged 1 3 false) ∧
    60 + 4 ≤ (staged 1 3 false).length ∧ (staged 1 3 false).kind ≠ 5 ∧ (staged 1 3 false).length < 61 + 4 ∧
    (updState [staged 1 3 false]).dev.badCodewords ((updState [staged 1 3 false]).dev.stagedBase 3 + 60) 4 = [] ∧
    ((updState [staged 1 6 false]).dev.upd.objects.find? fun x => x.handle == 1 && !x.ended) = some (staged 1 6 false) ∧
    (updState [staged 1 6 false]).dev.badCodewords (((updState [staged 1 6 false]).dev.area 0).1 + 0 + 60) 4 = [] ∧
    ((updState [staged 1 5 false]).dev.upd.objects.find? fun x => x.handle == 1 && !x.ended) = some (staged 1 5 false) ∧
    ((updState []).dev.upd.objects.find? fun x => x.handle == 1 && !x.ended) = none := by decide +kernel

/-- A plan and a model that are no containers fail at END; a replay set passes. -/
theorem wit_Updates_end : (∃ bs, StagedBytes (updState [staged 1 3 false]).dev (staged 1 3 false) bs ∧
      (updState [staged 1 3 false]).dev.stagedReason {} (staged 1 3 false) bs = 1 ∧ (staged 1 3 false).kind ≠ 5) ∧
    (∃ bs, StagedBytes (updState [staged 1 5 false]).dev (staged 1 5 false) bs ∧
      (updState [staged 1 5 false]).dev.stagedReason {} (staged 1 5 false) bs = 1 ∧ (staged 1 5 false).kind = 5) ∧
    (∃ bs, StagedBytes (updState [staged 1 6 false]).dev (staged 1 6 false) bs ∧
      (updState [staged 1 6 false]).dev.stagedReason {} (staged 1 6 false) bs = 0) := by
  unfold StagedBytes CleanRead
  exact ⟨⟨List.replicate 64 0, by decide +kernel⟩, ⟨List.replicate 64 0, by decide +kernel⟩, ⟨[], by decide +kernel⟩⟩

/-- A staged image or faceplate of sequence n: the byte that names it stands in the firmware area. -/
def seqDev (kind : Nat) (n : Byte) (d : Device := {}) : Device := { d with mem := { cells := [(d.stagedBase kind + 8, n)] } }

theorem wit_Updates_accept : ((updState []).dev.stagedOf 3 = none ∧ (updState []).dev.stagedOf 5 = none ∧ (updState []).dev.stagedOf 1 = none ∧
      (updState []).dev.stagedOf 2 = none) ∧
    (∃ (s : State) (x : Staged) (bs : List Byte), s.service (hdr 7) roleM inParked = .run 0 ∧ s.dev.stagedOf 3 = none ∧ s.dev.stagedOf 5 = none ∧
      s.dev.stagedOf 1 = some x ∧ s.dev.stagedOf 2 = none ∧ StagedBytes s.dev x bs ∧ s.dev.bootSeq < cSeq bs) ∧
    (∃ (s : State) (x : Staged) (bs : List Byte), s.service (hdr 7) roleM inParked = .run 0 ∧ s.dev.stagedOf 3 = none ∧ s.dev.stagedOf 5 = none ∧
      s.dev.stagedOf 1 = some x ∧ StagedBytes s.dev x bs ∧ cSeq bs = s.dev.bootSeq) ∧
    ((updState [staged 1 5 true]).dev.stagedOf 5).isSome = true ∧ (updState [staged 1 5 true]).dev.upd.state ≠ 4 := by
  unfold StagedBytes CleanRead
  exact ⟨by decide +kernel, ⟨updState [staged 1 1 true] (seqDev 1 8 { boot := { seqA := 7 } }), staged 1 1 true, _, by decide +kernel,
      by decide +kernel, by decide +kernel, by decide +kernel, by decide +kernel, ⟨by decide +kernel, rfl⟩, by decide +kernel⟩,
    ⟨updState [staged 1 1 true] (seqDev 1 7 { boot := { seqA := 7 } }), staged 1 1 true, _, by decide +kernel,
      by decide +kernel, by decide +kernel, by decide +kernel, ⟨by decide +kernel, rfl⟩, by decide +kernel⟩, by decide +kernel⟩

theorem wit_Security_refused : ∃ s : State, s.service (hdr 7) roleMO anyState = .run 0 ∧ s.service (hdr 7) roleAll fromReady = .run 0 ∧
    s.service (hdr 7) roleM inReadyParked = .run 0 ∧ s.dev.requestReason s.otp s.mode [] = 2 ∧ s.dev.authReason s.otp s.mode [] = 3 ∧
    (List.replicate 32 (1 : Byte)).length = 32 :=
  ⟨st .ready served, by decide +kernel⟩

/-- A blank part with DRAM trained, over whose maintenance port keys are provisioned. -/
def blankState (otp : Otp) : State := { mode := .coldStart, otp, dev := { boot := { maintServed := true } } }

theorem wit_Provisioning : ((blankState {}).takes (hdr 7) = true ∧ (blankState {}).dev.life = 0 ∧ (blankState {}).mode = .coldStart ∧ 3 < 4 ∧
      (List.replicate 64 (1 : Byte)).length = 64 ∧ (blankState {}).otp.present 1 3 = false) ∧
    (blankState wOtp).otp.present 1 0 = true ∧ (blankState wOtp).otp.lifecycle = .blank ∧ (blankState wOtp).otp.presentBits 1 ≠ 0 := by decide +kernel

/-- A slot image that is none: of 128 bytes, and cut short; a faceplate that is none, for a part that has none. -/
theorem wit_Recovery : ∃ s : State, s.takes { hdr 7 with path := .recovery true } = true ∧ s.mode = .recovery ∧
    (slotSize - 4) + 4 ≤ slotSize ∧ (copySize - 4) + 4 ≤ copySize ∧ slotSize < (slotSize - 3) + 4 ∧ 4 ≤ slotSize ∧
    4 < cTotal (cellsRead s.dev.boot.recoverySlot 0 4) ∧ s.dev.rd Reg.HS_STATUS_recovery_reason = 3 ∧
    s.dev.faceplateReason s.otp 128 (sliceOf (cellsRead s.dev.boot.recoveryFace 0 128)) ≠ 0 :=
  ⟨st .recovery (regs [(Reg.HS_STATUS_recovery_reason, 3)]), by decide +kernel⟩

/-- A signed record: 128 bytes and a signature's length of zeros. -/
def record (head : List Byte) : List Byte := head ++ List.replicate 29792 0

/-- A security request with an action, signed in the name of owner slot 0, against the owner's slot 1 or for a lifecycle. -/
def request (action cls slot life : Nat) : List Byte :=
  record (leBytes 4 0x52534B4E ++ [1] ++ leBytes 1 action ++ [1, 0] ++ leBytes 8 0 ++ leBytes 1 cls ++ leBytes 1 slot ++ leBytes 1 life ++ leBytes 109 0)

/-- An authorisation of owner slot 0 for all kinds and 1000 jobs. -/
def authorisation : List Byte := record (leBytes 4 0x41504B4E ++ [1, 0, 0xFE, 0] ++ leBytes 8 0 ++ leBytes 2 1000 ++ leBytes 110 0)

def keysOtp (l : Lifecycle) : Otp := { owner := [List.replicate 64 1, List.replicate 64 2, [], []], lifecycle := l }

/-- Requests of each action that pass, where the signature (a value left open) verifies. -/
theorem wit_Security_accepted (hv : ∀ k m s, Config.slhVerify k m s = true) :
    (served.requestReason (keysOtp .production) .ready (request 1 1 1 0) = 0 ∧ fieldOf (request 1 1 1 0) 5 1 = 1) ∧
    (served.requestReason (keysOtp .production) .parked (request 2 0 0 3) = 0 ∧ fieldOf (request 2 0 0 3) 5 1 = 2) ∧
    (served.requestReason (keysOtp .production) .ready (request 3 0 0 0) = 0 ∧ fieldOf (request 3 0 0 0) 5 1 = 3) ∧
    served.authReason (keysOtp .production) .ready authorisation = 0 ∧
    ({ mode := .ready, otp := keysOtp .production, dev := served } : State).service (hdr 7) roleM inReadyParked = .run 0 := by
  unfold Device.requestReason Device.authReason recordSigned
  simp only [hv]
  decide +kernel

/-- An answer known by its first part. -/
theorem pair_eq {α β : Type} {p : α × β} {a : α} (h : p.1 = a) : p = (a, p.2) := by cases p; cases h; rfl

theorem triple_eq {α β γ : Type} {p : α × β × γ} {a : α} (h : p.1 = a) : p = (a, p.2.1, p.2.2) := by cases p; cases h; rfl

/-- Bytes of the container of a smallest valid plan, from an address: no item; tensors, counters and profile of zeros. -/
def planCells (at_ : Nat) : List Host.Cell :=
  ([(8, 7), (16, 64), (17, 75), (128, 78), (129, 75), (130, 84), (131, 80), (132, 1), (135, 4), (136, 5), (144, 128), (145, 50),
      (146, 1), (147, 1), (152, 1), (154, 4), (156, 53), (157, 130), (160, 100), (162, 52), (163, 3), (164, 100)] ++
      [(384, 1), (388, 64), (389, 1), (400, 3), (404, 64), (405, 1), (409, 64), (413, 4), (416, 5), (420, 64), (421, 65), (425, 2), (429, 2),
      (432, 7), (436, 64), (437, 67), (441, 8)] : List Host.Cell).map fun c => (at_ + c.1, c.2)

/-- The plan staged as an object of a kind. -/
def stagedPlan (kind : Nat) : Staged :=
  { handle := 1, kind, modelId := 0, length := 128 + 19264, neOffset := 0, digest := [], ended := true }

/-- PARKED with that plan and a set of one sample staged. -/
def planState (kind upd : Nat) : State :=
  st .parked ((served [(Reg.MEM_CFG_capacity, 1), (Reg.MEM_AREA_size 0, 1)] 1
    { upd := { objects := [stagedPlan kind, staged 2 6 true], state := upd }
      mem := { cells := planCells (dramBase + if kind = 3 then 0x20000000 else 0x30000000) } }).poke dramBase
      ([0x4E, 0x4B, 0x52, 0x53, 1, 0, 0, 0] ++ leBytes 8 1 ++ leBytes 8 80 ++ leBytes 40 0))

/-- A pair whose parts are known. -/
theorem parts_eq {α β : Type} (p : α × β) : p = (p.1, p.2) := by cases p; rfl

theorem wit_ReplayStart_accepted : ∃ (s : State) (v head : List Byte) (x y : Staged) (bs : List Byte) (b d : Device),
    s.service (hdr 7) roleM inParked = .run 0 ∧ recordOk v = true ∧ s.dev.stagedOf 4 = some x ∧ s.dev.stagedOf 6 = some y ∧
    ((s.dev.takeReady (hdr 7)).writeRecordRegs v y.neOffset).readStaged s.mode x = (bs, b) ∧
    b.replayReason s.mode (containerPayload bs) ((s.dev.area 0).1 + y.neOffset) = (0, head, d) :=
  ⟨planState 4 3, [1, 0, 1, 4], _, stagedPlan 4, staged 2 6 true, _, _, _, by decide +kernel, by decide +kernel, by decide +kernel,
    by decide +kernel, parts_eq _, triple_eq (by decide +kernel)⟩

/-- A staged plan that is accepted, and one that is refused. -/
theorem wit_Updates_plan : (∃ (s : State) (x : Staged) (b c : Device) (bs : List Byte), s.service (hdr 7) roleM inParked = .run 0 ∧
      s.dev.stagedOf 1 = none ∧ s.dev.stagedOf 2 = none ∧ s.dev.stagedOf 3 = some x ∧ s.dev.upd.state = 4 ∧
      (s.dev.takeReady (hdr 7)).readStaged s.mode x = (bs, c) ∧
      c.offerPlan s.mode { replay := false } true (containerPayload bs) (cDigest bs) = (none, b) ∧
      b.badCodewords b.planBase bs.length = []) ∧
    (∃ (s : State) (x : Staged) (b c : Device) (bs : List Byte), s.service (hdr 7) roleM inParked = .run 0 ∧ s.dev.stagedOf 1 = none ∧
      s.dev.stagedOf 2 = none ∧ s.dev.stagedOf 3 = some x ∧ s.dev.upd.state = 4 ∧
      (s.dev.takeReady (hdr 7)).readStaged s.mode x = (bs, c) ∧
      c.offerPlan s.mode { replay := false } true (containerPayload bs) (cDigest bs) = (some (2, noItem), b)) :=
  ⟨⟨planState 3 4, stagedPlan 3, _, _, _, by decide +kernel, by decide +kernel, by decide +kernel, by decide +kernel, by decide +kernel,
      parts_eq _, pair_eq (by decide +kernel), Device.badCodewords_none _ (by decide +kernel) (by decide +kernel) _ _⟩,
    ⟨updState [staged 1 3 true] |> fun s => { s with dev := { s.dev with upd := { s.dev.upd with state := 4 } } }, staged 1 3 true, _, _, _,
      by decide +kernel, by decide +kernel, by decide +kernel, by decide +kernel, by decide +kernel, parts_eq _, pair_eq (by decide +kernel)⟩⟩

/-- A faceplate newer than the one in use, and one that is not. -/
theorem wit_Updates_faceplate : (∃ (s : State) (y : Staged) (bs : List Byte), s.service (hdr 7) roleM inParked = .run 0 ∧ s.dev.stagedOf 3 = none ∧
      s.dev.stagedOf 5 = none ∧ s.dev.stagedOf 1 = none ∧ s.dev.stagedOf 2 = some y ∧ StagedBytes s.dev y bs ∧ s.dev.rd Reg.HS_FP_SEQ_seq < cSeq bs) ∧
    (∃ (s : State) (y : Staged) (bs : List Byte), s.service (hdr 7) roleM inParked = .run 0 ∧ s.dev.stagedOf 3 = none ∧ s.dev.stagedOf 5 = none ∧
      s.dev.stagedOf 1 = none ∧ s.dev.stagedOf 2 = some y ∧ StagedBytes s.dev y bs ∧ cSeq bs = s.dev.rd Reg.HS_FP_SEQ_seq) := by
  unfold StagedBytes CleanRead
  exact ⟨⟨updState [staged 1 2 true] (seqDev 2 1), staged 1 2 true, _, by decide +kernel, by decide +kernel, by decide +kernel,
      by decide +kernel, by decide +kernel, ⟨by decide +kernel, rfl⟩, by decide +kernel⟩,
    ⟨updState [staged 1 2 true], staged 1 2 true, _, by decide +kernel, by decide +kernel, by decide +kernel,
      by decide +kernel, by decide +kernel, ⟨by decide +kernel, rfl⟩, by decide +kernel⟩⟩

-- Containers that pass: the digest (which no kernel computes in a test) is put into the header byte by byte, and the signature, a
-- value left open, is taken to verify.

theorem shake256_length (p : List Byte) : (shake256 p).length = 64 := by
  unfold shake256 shakeN sliceOf
  simp [shakeRate, List.length_append, List.length_replicate] <;> omega

/-- 64 bytes of a digest, one by one. -/
def digestBytes (q : List Byte) : List Byte := (List.range 64).map fun i => q.getD i 0

theorem range_getD (bs : List Byte) (n : Nat) (h : bs.length = n) : ((List.range n).map fun i => bs.getD i 0) = bs := by
  apply List.ext_getElem
  · simp [h]
  · intro i h1 h2; simp [h2]

/-- The header of a container of a type and class over a payload's length and digest. -/
def head (type cls len : Nat) (q : List Byte) : List Byte :=
  (leBytes 4 0x43534B4E ++ [1] ++ leBytes 1 type ++ leBytes 1 cls ++ [0] ++ leBytes 8 1 ++ leBytes 8 len ++ leBytes 2 0x3280 ++
    [1, 0, 0, 0, 0, 0]) ++ (digestBytes q ++ List.replicate 32 0)

theorem head_length (t c n : Nat) (q : List Byte) : (head t c n q).length = 128 := by simp [head, leBytes, digestBytes]

theorem head_digest (t c n : Nat) (q : List Byte) (h : q.length = 64) : cDigest (head t c n q) = q := by
  unfold cDigest sliceOf head
  rw [show digestBytes q = q from range_getD q 64 h]
  rw [List.drop_append_of_le_length (by simp [leBytes]), List.drop_of_length_le (by simp [leBytes]), List.nil_append,
    List.take_append_of_le_length (by omega), List.take_of_length_le (by omega)]
  simp [h]

/-- Bytes as cells of a sparse store. -/
def cellsAt : Nat → List Byte → List Host.Cell
  | _, [] => []
  | o, b :: bs => (o, b) :: cellsAt (o + 1) bs

theorem mget_prefix {α : Type} (dflt : α) (k : Nat) : ∀ l m : List (Nat × α), (∀ p ∈ l, p.1 ≠ k) → mget dflt (l ++ m) k = mget dflt m k
  | [], _, _ => rfl
  | (a, v) :: l, m, h => by
    have h1 : a ≠ k := h (a, v) (by simp)
    simpa [mget, h1] using mget_prefix dflt k l m fun p hp => h p (by simp [hp])

theorem cellsAt_lt (k : Nat) : ∀ (bs : List Byte) (o : Nat), (k < o ∨ o + bs.length ≤ k) → ∀ p ∈ cellsAt o bs, p.1 ≠ k
  | [], _, _, p, hp => by simp [cellsAt] at hp
  | b :: bs, o, h, p, hp => by
    simp only [cellsAt, List.mem_cons] at hp
    simp only [List.length_cons] at h
    rcases hp with rfl | hp
    · simp; omega
    · exact cellsAt_lt k bs (o + 1) (by omega) p hp

theorem mget_at (dflt : Byte) (m : List Host.Cell) : ∀ (bs : List Byte) (o i : Nat), i < bs.length →
    mget dflt (cellsAt o bs ++ m) (o + i) = bs.getD i 0
  | b :: bs, o, 0, _ => by simp [cellsAt, mget]
  | b :: bs, o, i + 1, h => by
    have e : o + (i + 1) = (o + 1) + i := by omega
    simp only [cellsAt, List.cons_append, mget]
    rw [if_neg (by omega), e, mget_at dflt m bs (o + 1) i (by simpa using h)]; simp

/-- A store read cell by cell. -/
theorem flashRead_eq (m : List Host.Cell) (n : Nat) : ∀ o, flashRead m o n = (List.range n).map fun i => mget 0xFF m (o + i) := by
  induction n with
  | zero => intro o; rfl
  | succ k ih => intro o; simp [flashRead, ih, List.range_succ_eq_map, Nat.add_comm, Nat.add_left_comm]

theorem cellsRead_eq (m : List Host.Cell) (n : Nat) : ∀ o, cellsRead m o n = (List.range n).map fun i => mget 0 m (o + i) := by
  induction n with
  | zero => intro o; rfl
  | succ k ih => intro o; simp [cellsRead, ih, List.range_succ_eq_map, Nat.add_comm, Nat.add_left_comm]

theorem flashRead_at (m : List Host.Cell) (bs : List Byte) (o n : Nat) (h : bs.length = n) : flashRead (cellsAt o bs ++ m) o n = bs := by
  rw [flashRead_eq, ← range_getD bs n h]
  exact List.map_congr_left fun i hi => by rw [range_getD bs n h]; exact mget_at _ _ _ _ _ (by simpa [h] using hi)

theorem cellsRead_at (m : List Host.Cell) (bs : List Byte) (o n : Nat) (h : bs.length = n) : cellsRead (cellsAt o bs ++ m) o n = bs := by
  rw [cellsRead_eq, ← range_getD bs n h]
  exact List.map_congr_left fun i hi => by rw [range_getD bs n h]; exact mget_at _ _ _ _ _ (by simpa [h] using hi)

theorem flashRead_off (m : List Host.Cell) (bs : List Byte) (o a n : Nat) (h : a + n ≤ o ∨ o + bs.length ≤ a) :
    flashRead (cellsAt o bs ++ m) a n = flashRead m a n := by
  simp only [flashRead_eq]
  exact List.map_congr_left fun i hi => mget_prefix _ _ _ _ (cellsAt_lt _ _ _ (by simp at hi; omega))

theorem cellsRead_off (m : List Host.Cell) (bs : List Byte) (o a n : Nat) (h : a + n ≤ o ∨ o + bs.length ≤ a) :
    cellsRead (cellsAt o bs ++ m) a n = cellsRead m a n := by
  simp only [cellsRead_eq]
  exact List.map_congr_left fun i hi => mget_prefix _ _ _ _ (cellsAt_lt _ _ _ (by simp at hi; omega))

theorem container_ok (o : Otp) (life type cls n room : Nat) (seqOk : Nat → Bool) (get : Nat → Nat → List Byte) (p h : List Byte)
    (hh : h = head type cls n (shake256 p)) (hg : get 0 128 = h) (hp : get 128 n = p)
    (hc : containerMalformed h room = false ∧ cType h = type ∧ fieldOf h 24 2 = 0x3280 ∧ fieldOf h 26 1 = 1 ∧ cLength h = n ∧
      some (cClass h) = requiredClass life type ∧ cSlot h ≤ 3 ∧ o.present (cClass h) (cSlot h) = true ∧
      o.revoked (cClass h) (cSlot h) = false ∧ bitAt (fieldOf h 27 1) 0 = false ∧ seqOk (cSeq h) = true)
    (hv : ∀ k m s, Config.slhVerify k m s = true) : containerReason o life type room seqOk get = 0 := by
  obtain ⟨h1, h2, h3, h4, hl, h5, h6, h7, h8, h9, h10⟩ := hc
  have hd : cDigest h = shake256 p := by rw [hh]; exact head_digest _ _ _ _ (shake256_length p)
  unfold containerReason
  simp [hg, hp, h1, h2, h3, h4, hl, h5, Nat.not_lt.mpr h6, h7, h8, h9, h10, hv, hd]


/-- Keys of both classes in a part in development. -/
def vOtp : Otp := { keysOtp .development with vendor := [List.replicate 64 1, [], [], []] }

/-- A stretch of a stretch of a sparse store. -/
theorem cellsRead_add (m : List Host.Cell) (k : Nat) : ∀ n a, cellsRead m a (n + k) = cellsRead m a n ++ cellsRead m (a + n) k := by
  intro n a
  simp only [cellsRead_eq, List.range_add, List.map_append, List.map_map]
  congr 1
  exact List.map_congr_left fun i _ => by simp [Nat.add_assoc]

theorem cellsRead_length (m : List Host.Cell) (a n : Nat) : (cellsRead m a n).length = n := by simp [cellsRead_eq]

theorem slice_cells (m : List Host.Cell) (a l o n : Nat) (h : o + n ≤ l) : sliceOf (cellsRead m a l) o n = cellsRead m (a + o) n := by
  obtain ⟨r, rfl⟩ := Nat.exists_eq_add_of_le h
  unfold sliceOf
  rw [Nat.add_assoc, cellsRead_add m (n + r) o a, cellsRead_add m r n (a + o),
    List.drop_append_of_le_length (Nat.le_of_eq (cellsRead_length _ _ _).symm), List.drop_of_length_le (Nat.le_of_eq (cellsRead_length _ _ _)),
    List.nil_append, List.take_append_of_le_length (Nat.le_of_eq (cellsRead_length _ _ _).symm),
    List.take_of_length_le (Nat.le_of_eq (cellsRead_length _ _ _))]
  simp [cellsRead_length]

theorem read_eq (m : Memory) (n : Nat) : ∀ a, m.read a n = cellsRead m.cells a n := by
  induction n with
  | zero => intro a; rfl
  | succ n ih => intro a; simp [Memory.read, cellsRead, ih]

/-- The smallest plan's payload, and its container as it stands once it has been fetched. -/
def planBytes : List Byte := cellsRead (planCells 0) 128 19264
def planHead : List Byte := head 3 1 19264 (shake256 planBytes)
def planFetch : Fetch := { entry := 0, complete := true, accepted := true, got := 128 + 19264 + sigBytes }
def planAt : Nat := dramBase + 0x8000000
def readyCells : List Host.Cell := cellsAt planAt planHead ++ (cellsAt (planAt + 128) planBytes ++ [])

def readyDev : Device :=
  served [(Reg.HS_STATUS_lifecycle, 1), (Reg.MEM_STATUS_trained, 1)] 1 { fetch := [planFetch], mem := { cells := readyCells } }

theorem planHead_length : planHead.length = 128 := head_length _ _ _ _
theorem planBytes_length : planBytes.length = 19264 := cellsRead_length _ _ _
theorem ready_head : cellsRead readyCells planAt 128 = planHead := cellsRead_at _ _ _ _ planHead_length
theorem ready_rest : cellsRead readyCells (planAt + 128) 19264 = planBytes :=
  (cellsRead_off _ _ _ _ _ (Or.inr (Nat.le_of_eq (by rw [planHead_length])))).trans (cellsRead_at _ _ _ _ planBytes_length)
theorem planHead_says : cLength planHead = 19264 := by decide +kernel

/-- A cold start with every step done and the smallest plan accepted. -/
theorem wit_ReadyNeedsEveryStep_plan (hv : ∀ k m s, Config.slhVerify k m s = true) : ∃ (s : State) (f : Fetch) (m n d : Device) (bs : List Byte),
    fetching s.mode = true ∧ s.dev.life ≠ 0 ∧ s.dev.startStepsDone = true ∧ s.mode = .coldStart ∧ m = s.dev ∧ m.planEntry = some f ∧
    m.readPlan s.mode f = (bs, n) ∧ containerReason s.otp n.life 3 bs.length (fun _ => true) (sliceOf bs) = 0 ∧
    n.offerPlan s.mode { replay := false } true (containerPayload bs) (cDigest bs) = (none, d) := by
  have life : readyDev.life = 1 := by decide +kernel
  have hb : readyDev.bytes planAt (128 + 19264 + sigBytes) = cellsRead readyCells planAt (128 + 19264 + sigBytes) := read_eq _ _ _
  have rd : readyDev.readPlan .coldStart planFetch = (cellsRead readyCells planAt (128 + 19264 + sigBytes), readyDev) := by
    have at_ : readyDev.planBase = planAt := by decide +kernel
    unfold Device.readPlan
    rw [at_, Device.readChecked_clean _ _ _ (Device.badCodewords_none _ rfl (by decide +kernel) _ _) (by decide +kernel)]
    exact congrArg (·, readyDev) hb
  have hh : sliceOf (cellsRead readyCells planAt (128 + 19264 + sigBytes)) 0 128 = planHead :=
    (slice_cells _ _ _ _ _ (by decide)).trans ready_head
  have hp : sliceOf (cellsRead readyCells planAt (128 + 19264 + sigBytes)) 128 19264 = planBytes :=
    (slice_cells _ _ _ _ _ (by decide)).trans ready_rest
  have hl : cLength (cellsRead readyCells planAt (128 + 19264 + sigBytes)) = 19264 := by
    rw [← planHead_says, ← ready_head]
    unfold cLength fieldOf
    rw [slice_cells _ _ _ _ _ (by decide), slice_cells _ _ _ _ _ (by decide)]
  have pay : containerPayload (cellsRead readyCells planAt (128 + 19264 + sigBytes)) = planBytes := by unfold containerPayload; rw [hl, hp]
  refine ⟨{ mode := .coldStart, otp := vOtp, dev := readyDev }, planFetch, readyDev, readyDev, _, _, rfl, ?_, by decide +kernel, rfl, rfl, ?_, rd,
    ?_, pair_eq ?_⟩
  · simp [life]
  · exact List.find?_cons_of_pos (by decide +kernel)
  · simp only [life, cellsRead_length]
    exact container_ok vOtp 1 3 1 19264 _ (fun _ => true) _ planBytes planHead rfl hh hp (by decide +kernel) hv
  · rw [pay]; decide +kernel

def fwBytes : List Byte := List.replicate 64 0
def fwHead : List Byte := head 1 0 64 (shake256 fwBytes)
def fpHead : List Byte := head 5 1 544 (shake256 (face 1))
def bootFlash : List Host.Cell :=
  cellsAt 0 fwHead ++ (cellsAt 128 fwBytes ++ (cellsAt (copyBase 0) fpHead ++ (cellsAt (copyBase 0 + 128) (face 1) ++ [])))

theorem fw_head : flashRead bootFlash 0 128 = fwHead := flashRead_at _ _ _ _ (head_length _ _ _ _)
theorem fw_rest : flashRead bootFlash 128 64 = fwBytes :=
  (flashRead_off _ _ _ _ _ (Or.inr (by rw [fwHead, head_length] <;> decide))).trans (flashRead_at _ _ _ _ rfl)
theorem face_length : (face 1).length = 544 := by decide +kernel
theorem fp_head : flashRead bootFlash (copyBase 0) 128 = fpHead :=
  (flashRead_off _ _ _ _ _ (Or.inr (by rw [fwHead, head_length] <;> decide))).trans
    ((flashRead_off _ _ _ _ _ (Or.inr (by decide))).trans (flashRead_at _ _ _ _ (head_length _ _ _ _)))
theorem fp_rest : flashRead bootFlash (copyBase 0 + 128) 544 = face 1 :=
  (flashRead_off _ _ _ _ _ (Or.inr (by rw [fwHead, head_length] <;> decide))).trans
    ((flashRead_off _ _ _ _ _ (Or.inr (by decide))).trans ((flashRead_off _ _ _ _ _ (Or.inr (by rw [fpHead, head_length] <;> decide))).trans
      (flashRead_at _ _ _ _ face_length)))

def bootDev : Device := { pins := { porst := true }, boot := { flash := bootFlash } }
def bootState : State := { mode := .coldStart, otp := vOtp, dev := bootDev }
def begun : Device := { bootState.dev.coldBegin bootState.otp with boot := { flash := bootState.dev.boot.flash, slowFlash := !true } }

/-- What the checks of a start read stands: the flash, the mark of slot A, the lifecycle and the capacity. -/
def Same (d e : Device) : Prop :=
  e.boot.flash = d.boot.flash ∧ e.boot.badA = d.boot.badA ∧ e.life = d.life ∧ e.rd Reg.MEM_CFG_capacity = d.rd Reg.MEM_CFG_capacity

theorem Same.refl (d : Device) : Same d d := ⟨rfl, rfl, rfl, rfl⟩
theorem Same.trans {d e f : Device} (h : Same d e) (k : Same e f) : Same d f :=
  ⟨k.1.trans h.1, k.2.1.trans h.2.1, k.2.2.1.trans h.2.2.1, k.2.2.2.trans h.2.2.2⟩
theorem Same.wr (d : Device) (f : Fld) (v : Nat) (h : Reg.HS_STATUS_lifecycle.key ≠ f.key ∧ Reg.MEM_CFG_capacity.key ≠ f.key) :
    Same d (d.wr f v) := ⟨rfl, rfl, d.rd_wr_other v h.1, d.rd_wr_other v h.2⟩
theorem Same.forN (n : Nat) (g : Nat → Device → Device) (d : Device) (h : ∀ i < n, ∀ e, Same e (g i e)) : Same d (forN n g d) := by
  induction n with
  | zero => exact Same.refl d
  | succ n ih => exact (ih fun i hi => h i (by omega)).trans (h n (by omega) _)
theorem Same.of (d e : Device) (h : e.regs = d.regs) (hf : e.boot.flash = d.boot.flash) (ha : e.boot.badA = d.boot.badA) : Same d e :=
  ⟨hf, ha, Device.rd_congr h _, Device.rd_congr h _⟩

def begunRegs : Device := (bootDev.coldBegin vOtp)
theorem same_repair (d : Device) : Same d (forN 32 (fun n d => forN 4 (fun a d =>
    let w := (Config.repair n a).toNat
    (((d.wr (Reg.CORE_REPAIR_col1_out n a) (bitsOf w 29 24)).wr (Reg.CORE_REPAIR_col0_out n a) (bitsOf w 21 16)).wr
      (Reg.CORE_REPAIR_row1_out n a) (bitsOf w 13 8)).wr (Reg.CORE_REPAIR_row0_out n a) (bitsOf w 5 0)) d) d) := by
  refine Same.forN 32 _ d fun n hn d => Same.forN 4 _ d fun a ha d => ?_
  have k : ∀ n < 32, ∀ a < 4, ∀ f ∈ [Reg.CORE_REPAIR_col1_out n a, Reg.CORE_REPAIR_col0_out n a, Reg.CORE_REPAIR_row1_out n a,
      Reg.CORE_REPAIR_row0_out n a], Reg.HS_STATUS_lifecycle.key ≠ f.key ∧ Reg.MEM_CFG_capacity.key ≠ f.key := by decide +kernel
  have k := k n hn a ha
  exact (((Same.wr _ _ _ (k _ (by simp))).trans (Same.wr _ _ _ (k _ (by simp)))).trans (Same.wr _ _ _ (k _ (by simp)))).trans
    (Same.wr _ _ _ (k _ (by simp)))
theorem coldBegin_same (d : Device) (o : Otp) : ∃ e : Device, Same e (d.coldBegin o) ∧
    e.life = lifecycleCode o.lifecycle % 2 ^ Reg.HS_STATUS_lifecycle.width ∧
    e.rd Reg.MEM_CFG_capacity = d.rd Reg.MEM_CFG_capacity % 2 ^ Reg.MEM_CFG_capacity.width := by
  unfold Device.coldBegin
  refine ⟨_, same_repair _, ?_, ?_⟩
  · unfold Device.showKeys Device.life
    rw [Device.rd_wr_other _ _ (by decide), Device.rd_wr_other _ _ (by decide), Device.rd_wr_other _ _ (by decide),
      Device.rd_wr_other _ _ (by decide), Device.rd_wr_other _ _ (by decide), Device.rd_wr_same]
  · unfold Device.showKeys
    rw [Device.rd_wr_other _ _ (by decide), Device.rd_wr_other _ _ (by decide), Device.rd_wr_other _ _ (by decide),
      Device.rd_wr_other _ _ (by decide), Device.rd_wr_other _ _ (by decide), Device.rd_wr_other _ _ (by decide),
      Device.rd_wr_other _ _ (by decide), Device.rd_wr_same]
theorem begun_fields : begun.life = 1 ∧ begun.rd Reg.MEM_CFG_capacity = 0 := by
  obtain ⟨e, h, hl, hc⟩ := coldBegin_same bootDev vOtp
  have r : begun.regs = (bootDev.coldBegin vOtp).regs := by unfold begun bootState; rfl
  have hl : (bootDev.coldBegin vOtp).life = 1 := h.2.2.1.trans (hl.trans (by decide +kernel))
  have hc : (bootDev.coldBegin vOtp).rd Reg.MEM_CFG_capacity = 0 := h.2.2.2.trans (hc.trans (by decide +kernel))
  unfold Device.life at hl ⊢
  exact ⟨(Device.rd_congr r _).trans hl, (Device.rd_congr r _).trans hc⟩

theorem Same.wrPair (d : Device) (lo hi : Fld) (v : Nat) (h : Reg.HS_STATUS_lifecycle.key ≠ lo.key ∧ Reg.MEM_CFG_capacity.key ≠ lo.key)
    (k : Reg.HS_STATUS_lifecycle.key ≠ hi.key ∧ Reg.MEM_CFG_capacity.key ≠ hi.key) : Same d (d.wrPair lo hi v) :=
  (Same.wr _ _ _ h).trans (Same.wr _ _ _ k)
theorem Same.raise (d : Device) (c p : Nat) : Same d (d.raise c p) := Same.of _ _ rfl rfl rfl
theorem Same.raiseIf (d : Device) (b : Bool) (c p : Nat) : Same d (d.raiseIf b c p) := Same.of _ _ rfl rfl rfl
theorem Same.extend (d : Device) (k : Nat) (q : List Byte) : Same d (d.extend k q) := Same.of _ _ rfl rfl rfl
theorem Same.recordSlots (d : Device) (a b : Nat) : Same d (d.recordSlots a b) := by
  have h (e : Device) (x y : Nat) : Same e { e with boot := { e.boot with seqA := x, seqB := y } } := Same.of _ _ rfl rfl rfl
  exact (((((Same.wr _ _ _ (by decide)).trans (Same.wr _ _ _ (by decide))).trans (Same.wrPair _ _ _ _ (by decide) (by decide))).trans
    (Same.wrPair _ _ _ _ (by decide) (by decide))).trans (h _ _ _)).trans ((Same.raiseIf _ _ _ _).trans (Same.raiseIf _ _ _ _))
theorem Same.openPert (d : Device) (a b c e : Nat) : Same d (d.openPert a b c e) :=
  ((((((Same.wr _ _ _ (by decide)).trans (Same.wr _ _ _ (by decide))).trans (Same.wr _ _ _ (by decide))).trans
    (Same.wr _ _ _ (by decide))).trans (Same.wr _ _ _ (by decide))).trans (Same.wr _ _ _ (by decide))).trans (Same.raise _ _ _)
theorem Same.closePert (d : Device) (w : Nat) : Same d (d.closePert w) := by
  unfold Device.closePert
  split
  · exact Same.refl d
  · have k : ∀ i < 16, ∀ f ∈ [Reg.PERT_SLOT_CFG_enable i, Reg.PERT_SLOT_STATUS_state i],
      Reg.HS_STATUS_lifecycle.key ≠ f.key ∧ Reg.MEM_CFG_capacity.key ≠ f.key := by decide +kernel
    exact (((((((Same.forN 16 _ d fun i hi e => (Same.wr _ _ _ (k i hi _ (by simp))).trans (Same.wr _ _ _ (k i hi _ (by simp)))).trans
      (Same.wr _ _ _ (by decide))).trans (Same.wr _ _ _ (by decide))).trans (Same.wr _ _ _ (by decide))).trans
      (Same.wr _ _ _ (by decide))).trans (Same.wr _ _ _ (by decide))).trans (Same.wr _ _ _ (by decide))).trans (Same.raise _ _ _)
theorem Same.wrId (d : Device) (bs : List Byte) : Same d (d.wrWords Reg.HS_ID_word bs) := by
  have k : ∀ i < 16, Reg.HS_STATUS_lifecycle.key ≠ (Reg.HS_ID_word i).key ∧ Reg.MEM_CFG_capacity.key ≠ (Reg.HS_ID_word i).key := by decide +kernel
  exact Same.forN 16 _ d fun i hi e => Same.wr _ _ _ (k i hi)
theorem Same.headstockUp (d : Device) (o : Otp) (slot : Nat) : Same d (d.headstockUp o slot) := by
  have clear : Same d d.clearMeasurements := Same.of _ _ rfl rfl rfl
  have nonce (e : Device) : Same e e.drawNonce :=
    ((Same.of _ _ rfl rfl rfl).trans (Same.wrPair _ _ _ _ (by decide) (by decide))).trans (Same.wrPair _ _ _ _ (by decide) (by decide))
  have locks (e : Device) : Same e e.setLocks :=
    ((((Same.wr _ _ _ (by decide)).trans (Same.wr _ _ _ (by decide))).trans (Same.wr _ _ _ (by decide))).trans (Same.wr _ _ _ (by decide))).trans
      ((Same.wr _ _ _ (by decide)).trans (Same.wr _ _ _ (by decide)))
  have keys (e : Device) : Same e (e.showKeys o) :=
    (((Same.wr _ _ _ (by decide)).trans (Same.wr _ _ _ (by decide))).trans (Same.wr _ _ _ (by decide))).trans (Same.wr _ _ _ (by decide))
  have ident (e : Device) : Same e (e.deriveIdentity o) := Same.wrId _ _
  have debug (e : Device) (b : Bool) : Same e (e.setDebug b) := (Same.wr _ _ _ (by decide)).trans (Same.of _ _ rfl rfl rfl)
  have main : Same d (((d.headstockUp o slot))) := by
    unfold Device.headstockUp
    simp only []
    have all := ((((((clear.trans (Same.wr _ Reg.HS_STATUS_boot_slot slot (by decide))).trans (Same.extend _ 0 (cDigest (d.slotGet slot 0 128)))).trans
      (locks _)).trans (nonce _)).trans (ident _)).trans (keys _))
    split
    · exact ((all.trans (debug _ _)).trans (Same.closePert _ 2)).trans (Same.openPert _ _ _ _ _)
    · exact (all.trans (debug _ _)).trans (Same.closePert _ 2)
  exact main
theorem slotA_ok (d : Device) (hf : d.boot.flash = bootFlash) (ha : d.boot.badA = false) (hl : d.life = 1)
    (hv : ∀ k m s, Config.slhVerify k m s = true) : d.slotVerdict vOtp 0 = 0 := by
  have hg : d.slotGet 0 0 128 = fwHead := by unfold Device.slotGet; rw [hf]; exact fw_head
  have hp : d.slotGet 0 128 64 = fwBytes := by unfold Device.slotGet; rw [hf]; exact fw_rest
  have h := container_ok vOtp 1 1 0 64 slotSize (fun _ => true) (d.slotGet 0) fwBytes fwHead rfl hg hp (by decide +kernel) hv
  have h4 : d.slotGet 0 0 4 ≠ [0xFF, 0xFF, 0xFF, 0xFF] := by unfold Device.slotGet; rw [hf]; decide +kernel
  unfold Device.slotVerdict slotHeadReason
  simp only [ha, hl, h4, if_true, if_false, Bool.false_eq_true, h]
theorem copy0_ok (d : Device) (hf : d.boot.flash = bootFlash) (hl : d.life = 1) (hc : d.fpContentOk (face 1) = true)
    (hv : ∀ k m s, Config.slhVerify k m s = true) : d.copyReason vOtp 0 = 0 := by
  have h4 : d.copyGet 0 0 4 = [0x4E, 0x4B, 0x53, 0x43] := by
    unfold Device.copyGet; rw [hf]; decide +kernel
  have hg : d.copyGet 0 0 128 = fpHead := by unfold Device.copyGet; rw [hf]; exact fp_head
  have hp : d.copyGet 0 128 544 = face 1 := by unfold Device.copyGet; rw [hf]; exact fp_rest
  have hn : cLength fpHead = 544 := by decide +kernel
  unfold Device.copyReason Device.faceplateReason
  simp only [h4, hl, hg, hn, hp, hc]
  rw [container_ok vOtp 1 5 1 544 copySize fpSeqOk (d.copyGet 0) (face 1) fpHead rfl hg hp (by decide +kernel) hv]
  decide

theorem slotB_erased (d : Device) (hf : d.boot.flash = bootFlash) (hb : d.boot.badB = false) : d.slotVerdict vOtp 1 = 0xF := by
  have h4 : d.slotGet 1 0 4 = [0xFF, 0xFF, 0xFF, 0xFF] := by unfold Device.slotGet; rw [hf]; decide +kernel
  unfold Device.slotVerdict
  simp [hb, h4]
theorem copy1_blank (d : Device) (hf : d.boot.flash = bootFlash) : d.copyReason vOtp 1 = 0xF := by
  have e : flashRead bootFlash (copyBase 1 + 0) 4 = [0xFF, 0xFF, 0xFF, 0xFF] := by decide +kernel
  unfold Device.copyReason Device.copyGet
  rw [hf, if_pos e]

theorem useFaceplate_flash (d : Device) (c : Nat) : (d.useFaceplate c).boot.flash = d.boot.flash := by
  have img (e : List Byte) (x : Device) (h : x.boot.flash = d.boot.flash) : (x.applyImage e).boot.flash = d.boot.flash := by
    unfold Device.applyImage
    simp only []
    split
    · exact h
    · refine forL_keeps (fun y : Device => y.boot.flash = d.boot.flash) _ (fun f y hy => ?_) _ x h
      split
      · exact hy
      · exact hy
  have ports (x : Device) (h : x.boot.flash = d.boot.flash) : x.startPorts.boot.flash = d.boot.flash := by
    unfold Device.startPorts
    exact forN_keeps (fun y : Device => y.boot.flash = d.boot.flash) _ (fun p y hy => hy) 8 x h
  have app (x : Device) (h : x.boot.flash = d.boot.flash) : x.applyPorts.boot.flash = d.boot.flash := by
    unfold Device.applyPorts
    exact forN_keeps (fun y : Device => y.boot.flash = d.boot.flash) _ (fun p y hy => hy) 3 _ h
  have w (x : Device) (f : Fld) (v : Nat) : (x.wr f v).boot = x.boot := rfl
  have sys (x : Device) : x.applySystem.boot = x.boot := by unfold Device.applySystem Device.wrPair; simp only [w]
  have ext (x : Device) (k : Nat) (q : List Byte) : (x.extend k q).boot.flash = x.boot.flash := rfl
  unfold Device.useFaceplate
  refine ports _ ?_
  rw [ext]
  refine forL_keeps (fun y : Device => y.boot.flash = d.boot.flash) _ (fun e y hy => img e y hy) _ _ ?_
  rw [w]
  refine app _ ?_
  rw [sys, w, w]

theorem chooseFaceplate_ok (d : Device) (hf : d.boot.flash = bootFlash) (hl : d.life = 1) (hc : d.rd Reg.MEM_CFG_capacity = 0)
    (hv : ∀ k m s, Config.slhVerify k m s = true) :
    ∃ y, d.chooseFaceplate vOtp = (some 0, y) ∧ y.boot.flash = bootFlash := by
  have e : (d.dramSize == 0) = true := by unfold Device.dramSize; rw [hc]; rfl
  have ok : d.fpContentOk (face 1) = true := by
    unfold Device.fpContentOk
    simp only [e, Bool.true_or, Bool.and_true]
    decide +kernel
  have r0 := copy0_ok d hf hl ok hv
  have r1 := copy1_blank d hf
  refine ⟨_, pair_eq ?_, ?_⟩
  · unfold Device.chooseFaceplate; simp [r0, r1]
  · unfold Device.chooseFaceplate; simp [r0, r1]; exact hf

theorem noComponents (d : Device) (hf : d.boot.flash = bootFlash) (life : Nat) : componentsReason vOtp life (d.slotGet 0) = 0 := by
  have h2 : fieldOf (flashRead bootFlash (slotBase 0 + 128) 2) 0 2 = 0 := by decide +kernel
  have h : slotEntries (fun a n => flashRead bootFlash (slotBase 0 + a) n) = [] := by decide +kernel
  unfold componentsReason Device.slotGet
  rw [hf]
  simp [h2, h]


theorem begun_boot : begun.boot = { flash := bootState.dev.boot.flash, slowFlash := !true } := by unfold begun; rfl
theorem begun_eq : begun = { bootState.dev.coldBegin bootState.otp with boot := begun.boot } := by unfold begun; rfl
theorem begun_flash : begun.boot.flash = bootFlash := by rw [begun_boot]; unfold bootState bootDev; rfl
theorem begun_select (hv : ∀ k m s, Config.slhVerify k m s = true) : begun.romSelect vOtp = (.inl 0, begun.recordSlots 0 0xF) := by
  unfold Device.romSelect
  simp [slotA_ok begun begun_flash (by rw [begun_boot]) begun_fields.1 hv, slotB_erased begun begun_flash (by rw [begun_boot])]
theorem begun_up : Same begun ((begun.recordSlots 0 0xF).headstockUp vOtp 0) := (Same.recordSlots _ _ _).trans (Same.headstockUp _ _ _)
theorem begun_face (hv : ∀ k m s, Config.slhVerify k m s = true) :
    ∃ y, ((begun.recordSlots 0 0xF).headstockUp vOtp 0).chooseFaceplate vOtp = (some 0, y) ∧ y.boot.flash = bootFlash :=
  chooseFaceplate_ok _ (begun_up.1.trans begun_flash) (begun_up.2.2.1.trans begun_fields.1) (begun_up.2.2.2.trans begun_fields.2) hv
theorem extendSecurity_flash (d : Device) : d.extendSecurity.boot.flash = d.boot.flash := by
  unfold Device.extendSecurity
  exact rfl
theorem face_components (y : Device) (fy : y.boot.flash = bootFlash) (life : Nat) :
    componentsReason vOtp life (((y.useFaceplate 0).extendSecurity).slotGet 0) = 0 :=
  noComponents _ ((extendSecurity_flash _).trans ((useFaceplate_flash y 0).trans fy)) _
theorem wit_ColdStart_released (hv : ∀ k m s, Config.slhVerify k m s = true) : ∃ (s : State) (d x y : Device) (slot c : Nat),
    s.mode = .coldStart ∧ s.dev.rd Reg.HS_STATUS_start_kind = 0 ∧ s.dev.pins.strapRecovery = false ∧
    d.boot = { flash := s.dev.boot.flash, slowFlash := !true } ∧ d = { s.dev.coldBegin s.otp with boot := d.boot } ∧
    d.romSelect s.otp = (.inl slot, x) ∧ (x.headstockUp s.otp slot).life ≠ 0 ∧ (x.headstockUp s.otp slot).chooseFaceplate s.otp = (some c, y) ∧
    componentsReason s.otp ((y.useFaceplate c).extendSecurity).life (((y.useFaceplate c).extendSecurity).slotGet slot) = 0 := by
  obtain ⟨y, hy, fy⟩ := begun_face hv
  have life : ((begun.recordSlots 0 0xF).headstockUp vOtp 0).life ≠ 0 := by rw [begun_up.2.2.1.trans begun_fields.1]; decide
  exact ⟨bootState, begun, begun.recordSlots 0 0xF, y, 0, 0, rfl, by decide +kernel, rfl, begun_boot, begun_eq, begun_select hv, life, hy,
    face_components y fy _⟩

/-- A part that starts again with the slot and the copy it uses. -/
def warmState : State := { mode := .warmStart, otp := vOtp, dev := { boot := { flash := bootFlash, retained := some (kept false) } } }
def warmBegun : Device :=
  let d := (warmState.dev.resetBlocks.wr Reg.HS_STATUS_lifecycle (lifecycleCode vOtp.lifecycle)).wr Reg.HS_STATUS_start_kind 2
  { d with pins := { d.pins with flashDriven := true } }
theorem copyReason_ok (d : Device) (hf : d.boot.flash = bootFlash) (hl : d.life = 1) (hc : d.rd Reg.MEM_CFG_capacity = 0)
    (hv : ∀ k m s, Config.slhVerify k m s = true) : d.copyReason vOtp 0 = 0 := by
  have e : (d.dramSize == 0) = true := by unfold Device.dramSize; rw [hc]; rfl
  have ok : d.fpContentOk (face 1) = true := by
    unfold Device.fpContentOk
    simp only [e, Bool.true_or, Bool.and_true]
    decide +kernel
  exact copy0_ok d hf hl ok hv
theorem wit_WarmStart_restores (hv : ∀ k m s, Config.slhVerify k m s = true) : ∃ (s : State) (r : Retained) (d : Device), s.mode = .warmStart ∧
    s.dev.rd Reg.HS_STATUS_start_kind = 0 ∧ (∀ p ∈ s.dev.memc.chans, p.2.retraining = false) ∧ s.dev.boot.retained = some r ∧
    r.crc = r.computed ∧ s.dev.warmRun s.otp 0 = (.warmStart, d) := by
  have hf : warmBegun.boot.flash = bootFlash := rfl
  have hl : warmBegun.life = 1 := by decide +kernel
  have hc : warmBegun.rd Reg.MEM_CFG_capacity = 0 := by decide +kernel
  have va := slotA_ok warmBegun hf rfl hl hv
  have vb := slotB_erased warmBegun hf rfl
  have slot : warmState.dev.rd Reg.HS_STATUS_boot_slot = 0 := by decide +kernel
  have copy : warmState.dev.rd Reg.HS_FACEPLATE_copy_used = 0 := by decide +kernel
  have tie : (warmBegun.recordSlots 0 0xF).noteTie 0 0xF = warmBegun.recordSlots 0 0xF := by unfold Device.noteTie; simp
  have up : Same warmBegun ((warmBegun.recordSlots 0 0xF).headstockUp vOtp 0) := (Same.recordSlots _ _ _).trans (Same.headstockUp _ _ _)
  have r := copyReason_ok _ (up.1.trans hf) (up.2.2.1.trans hl) (up.2.2.2.trans hc) hv
  have n := face_components ((warmBegun.recordSlots 0 0xF).headstockUp vOtp 0) (up.1.trans hf)
    (((warmBegun.recordSlots 0 0xF).headstockUp vOtp 0).useFaceplate 0).extendSecurity.life
  refine ⟨warmState, kept false, _, rfl, by decide +kernel, nofun, rfl, rfl, pair_eq ?_⟩
  unfold Device.warmRun
  simp only []
  rw [show (let d := (warmState.dev.resetBlocks.wr Reg.HS_STATUS_lifecycle (lifecycleCode warmState.otp.lifecycle)).wr Reg.HS_STATUS_start_kind 2
    ({ d with pins := { d.pins with flashDriven := true } } : Device)) = warmBegun from rfl]
  have ho : warmState.otp = vOtp := rfl
  simp only [ho, slot, copy, va, vb, tie, if_true, if_false, ne_eq, not_true_eq_false, r, n]

/-- A slot image in the recovery buffer of a part whose slot A is bad. -/
def recDev : Device :=
  regs [(Reg.HS_STATUS_lifecycle, 1), (Reg.HS_SLOT_STATUS_a_reason, 1)] { boot := { recoverySlot := cellsAt 0 fwHead ++ (cellsAt 128 fwBytes ++ []) } }

/-- A slot image in the recovery buffer that is valid, with slot A invalid. -/
theorem wit_Recovery_commit (hv : ∀ k m s, Config.slhVerify k m s = true) : ∃ (s : State) (n k : Nat) (bs : List Byte),
    s.takes { hdr 7 with path := .recovery true } = true ∧ s.mode = .recovery ∧ n ≤ slotSize ∧ bs = cellsRead s.dev.boot.recoverySlot 0 n ∧
    0 = (if n < cTotal bs then 1 else slotReason s.otp s.dev.life (sliceOf bs)) ∧ s.dev.recoveryTarget = some k := by
  have cells (o m : Nat) (h : o + m ≤ 30000) :
      sliceOf (cellsRead recDev.boot.recoverySlot 0 30000) o m = cellsRead recDev.boot.recoverySlot o m := by
    rw [slice_cells _ _ _ _ _ h, Nat.zero_add]
  have hg : sliceOf (cellsRead recDev.boot.recoverySlot 0 30000) 0 128 = fwHead :=
    (cells _ _ (by decide)).trans (cellsRead_at _ _ _ _ (head_length _ _ _ _))
  have hp : sliceOf (cellsRead recDev.boot.recoverySlot 0 30000) 128 64 = fwBytes :=
    (cells _ _ (by decide)).trans
      ((cellsRead_off _ _ _ _ _ (Or.inr (by rw [fwHead, head_length] <;> decide))).trans (cellsRead_at _ _ _ _ rfl))
  have life : recDev.life = 1 := by decide +kernel
  have hc : componentsReason vOtp 1 (sliceOf (cellsRead recDev.boot.recoverySlot 0 30000)) = 0 := by decide +kernel
  have h := container_ok vOtp 1 1 0 64 slotSize (fun _ => true) (sliceOf (cellsRead recDev.boot.recoverySlot 0 30000)) fwBytes fwHead rfl hg hp
    (by decide +kernel) hv
  have ht : ¬ 30000 < cTotal (cellsRead recDev.boot.recoverySlot 0 30000) := by
    have e : fieldOf (cellsRead recDev.boot.recoverySlot 0 30000) 16 8 = fieldOf fwHead 16 8 := by
      unfold fieldOf
      rw [cells _ _ (by decide), ← hg, cells _ _ (by decide), slice_cells _ _ _ _ _ (by decide), Nat.zero_add]
    unfold cTotal cSigAt cLength
    rw [e]; decide +kernel
  refine ⟨{ mode := .recovery, otp := vOtp, dev := recDev }, 30000, 0, _, by decide +kernel, rfl, by decide, rfl, ?_, by decide +kernel⟩
  rw [if_neg ht]
  simp only [life]
  unfold slotReason slotHeadReason
  rw [h, hc]; rfl

end Sys2Proof.Tests
end

section
/-! Proofs about the spindle's position (01 R25, R26) and the serial order of turn numbers (01 R29). -/

namespace Sys2Proof.Machine

-- Indices of a turn (01 R26).

theorem Spindle.period_pos (sp : Spindle) (h : 0 < sp.periodUs) : 0 < sp.period :=
  Nat.mul_pos h (by decide)

/-- The turn after the last index begins one period after index 0. -/
theorem Spindle.indexStart_4096 (sp : Spindle) : sp.indexStart 4096 = sp.period :=
  Nat.mul_div_cancel_left _ (by decide)

/-- `indexOf` inverts `indexStart`: the indices that have begun at an offset are those up to the index shown. -/
theorem Spindle.indexStart_le_iff (sp : Spindle) (hP : 0 < sp.period) (k off : Nat) :
    sp.indexStart k ≤ off ↔ k ≤ sp.indexOf off := by
  unfold indexStart indexOf
  rw [Nat.le_div_iff_mul_le hP]
  omega

theorem Spindle.lt_indexStart_iff (sp : Spindle) (hP : 0 < sp.period) (k off : Nat) :
    off < sp.indexStart k ↔ sp.indexOf off < k := by
  rw [← Nat.not_le, indexStart_le_iff sp hP, Nat.not_le]

-- Turns and offsets at a spindle time (01 R25).

theorem Spindle.turnAt_eq (sp : Spindle) (t : Nat) : (sp.turnAt t : Int) = sp.turnCount t % 2 ^ 32 :=
  Int.toNat_of_nonneg (Int.emod_nonneg _ (by decide))

theorem Spindle.offsetAt_eq (sp : Spindle) (hP : 0 < sp.period) (t : Nat) :
    (sp.offsetAt t : Int) = ((t : Int) - sp.phaseNs) % sp.period :=
  Int.toNat_of_nonneg (Int.emod_nonneg _ (by omega))

theorem Spindle.offsetAt_lt (sp : Spindle) (hP : 0 < sp.period) (t : Nat) : sp.offsetAt t < sp.period := by
  have h := Int.emod_lt_of_pos ((t : Int) - sp.phaseNs) (b := sp.period) (by omega)
  rw [← sp.offsetAt_eq hP] at h
  omega

/-- A spindle time is the phase, the whole turns before it and the offset within its turn. -/
theorem Spindle.time_eq (sp : Spindle) (hP : 0 < sp.period) (t : Nat) :
    (t : Int) = sp.phaseNs + sp.turnCount t * sp.period + sp.offsetAt t := by
  have h := Int.ediv_mul_add_emod ((t : Int) - sp.phaseNs) sp.period
  rw [← sp.offsetAt_eq hP] at h
  unfold turnCount
  omega

-- The serial order of turn numbers (01 R29).

theorem turnAhead_iff (t now : Nat) : turnAhead t now = true ↔ 1 ≤ turnDiff t now ∧ turnDiff t now ≤ 2 ^ 31 - 1 := by
  simp only [turnAhead, turnDiff, Bool.and_eq_true, decide_eq_true_eq]

theorem turnDiff_add {now k : Nat} (hk : k < 2 ^ 32) : turnDiff ((now + k) % 2 ^ 32) now = k := by
  unfold turnDiff
  omega

/-- The two differences of different turn numbers add up to the whole range. -/
theorem turnDiff_add_turnDiff {t u : Nat} (ht : t < 2 ^ 32) (hu : u < 2 ^ 32) (h : t ≠ u) :
    turnDiff t u + turnDiff u t = 2 ^ 32 := by
  unfold turnDiff
  omega

theorem turnDiff_eq_half {t u : Nat} (hu : u < 2 ^ 32) (h : turnDiff u t = 2 ^ 31) :
    (t + 2 ^ 31) % 2 ^ 32 = u := by
  unfold turnDiff at h
  omega

end Sys2Proof.Machine

open Sys2Proof.Machine

/-- Settles O9: turn and offset are quotient and remainder of t − φ by P, and the index shown is the largest whose start is at
or before the offset. -/
theorem positionFollowsPeriodAndPhase : Obligations.PositionFollowsPeriodAndPhase := by
  intro sp t hUs
  have hP := sp.period_pos hUs
  have period_cast : (sp.period : Int) = sp.periodUs * 1000 := Int.natCast_mul _ _
  have hoff : sp.offsetAt t < sp.indexStart 4096 := sp.indexStart_4096 ▸ sp.offsetAt_lt hP t
  rw [← period_cast]
  refine ⟨sp.turnAt_eq t, ⟨sp.turnCount t, sp.time_eq hP t⟩, sp.offsetAt_lt hP t, fun _ => rfl, ?_, ?_, ?_⟩
  · exact (sp.indexStart_le_iff hP _ _).mpr (Nat.le_refl _)
  · exact (sp.lt_indexStart_iff hP _ _).mpr (Nat.lt_succ_self _)
  · exact (sp.lt_indexStart_iff hP _ _).mp hoff

/-- Settles O10: of two different turn numbers the differences add up to 2³², so unless both are 2³¹ exactly one is below it. -/
theorem turnLiesAheadWithinHalfRange : Obligations.TurnLiesAheadWithinHalfRange := by
  refine ⟨?_, ?_⟩
  · rintro _ now k - - ⟨hk, rfl⟩
    rw [turnAhead_iff, turnDiff_add hk]
  · intro t now ht hn hne hhalf
    have hsum := turnDiff_add_turnDiff ht hn hne
    have hmid : turnDiff now t ≠ 2 ^ 31 := mt (turnDiff_eq_half hn) hhalf
    have ht32 : turnDiff t now < 2 ^ 32 := Nat.mod_lt _ (by decide)
    have hn32 : turnDiff now t < 2 ^ 32 := Nat.mod_lt _ (by decide)
    rw [Bool.eq_iff_iff, Bool.not_eq_true', ← Bool.not_eq_true, turnAhead_iff, turnAhead_iff]
    omega

end

section
/-! Proofs about OTP and the fuses (15 R493 to R496): the three commands that write them only add to what they hold, and every
other command leaves them alone. -/

namespace Sys2Proof.Machine

-- What the state's own operations do to OTP.

variable {s : State}

@[simp] theorem State.requestCold_otp (s : State) : s.requestCold.otp = s.otp := rfl

@[simp] theorem State.requestWarm_otp (s : State) : s.requestWarm.otp = s.otp := by
  unfold requestWarm
  (repeat' split) <;> rfl

@[simp] theorem State.hmExpires_otp (s : State) : s.hmExpires.otp = s.otp := by
  unfold hmExpires
  split <;> simp

@[simp] theorem State.componentFault_otp (s : State) (id a n : Nat) : (s.componentFault id a n).otp = s.otp := by
  unfold componentFault
  dsimp only
  split <;> simp

theorem State.startReplay_otp (s : State) (v : List Byte) : (s.startReplay v).2.2.otp = s.otp := by
  unfold startReplay
  dsimp only
  (repeat' split) <;> rfl

/-- Serving a request leaves OTP as it was or as the request's own effect makes it. -/
theorem State.serve_otp {motive : Otp → Prop} {h : ReqHdr} {type : Nat} {roles : List Nat} {allowed : Mode → Bool}
    {body : State → Nat × List Byte × State} (same : motive s.otp)
    (own : motive (body { s with dev := s.dev.takeReady h }).2.2.otp) : motive (s.serve h type roles allowed body).otp := by
  unfold serve
  dsimp only
  split
  case h_5 =>
    split
    · exact same
    · exact own
  all_goals exact same

/-- As serve_otp, for a provisioning message. -/
theorem State.provision_otp {motive : Otp → Prop} {h : ReqHdr} {type : Nat} {body : State → Nat × State} (same : motive s.otp)
    (own : motive (body { s with dev := s.dev.takeReady h }).2.otp) : motive (s.provision h type body).otp := by
  unfold provision
  dsimp only
  (repeat' split) <;> assumption

/-- As serve_otp, for a message of the recovery exchange. -/
theorem State.recover_otp {motive : Otp → Prop} {h : ReqHdr} {type : Nat}
    {body : State → Nat × List Byte × State} (same : motive s.otp)
    (own : motive (body { s with dev := s.dev.takeReady h }).2.2.otp) : motive (s.recover h type body).otp := by
  unfold recover
  dsimp only
  (repeat' split) <;> assumption

/-- A restart that a request asks for leaves OTP alone, as the restart itself does. -/
theorem State.restart_otp {go : State → State} (hgo : ∀ t, (go t).otp = t.otp) (h : ReqHdr) : (s.restart h go).otp = s.otp := by
  have ht : (s.serve h 0x13 roleM inRestart fun s => (St.OK, [], s)).otp = s.otp := serve_otp (motive := (· = s.otp)) rfl rfl
  unfold restart
  dsimp only
  split
  · rw [hgo, ht]
  · exact ht

end Sys2Proof.Machine

namespace Sys2Proof.Safety

open Sys2Proof.Machine

variable {s : State}

/-- The answer, if it is a next state, holds OTP and fuses as the state did. -/
def KeepsOtp (s : State) (r : Host.Outcome State Fault Refusal) : Prop := ∀ t, r = .next t → t.otp = s.otp

theorem keepsOtp_next {t : State} (h : t.otp = s.otp) : KeepsOtp s (.next t) := by
  rintro _ ⟨⟩
  exact h

theorem keepsOtp_ite {c : Prop} [Decidable c] {a b : Host.Outcome State Fault Refusal} (ha : KeepsOtp s a) (hb : KeepsOtp s b) :
    KeepsOtp s (if c then a else b) := by
  split
  · exact ha
  · exact hb

/-- A request leaves OTP alone where its own effect does. -/
theorem keepsOtp_serve {h : ReqHdr} {type : Nat} {roles : List Nat} {allowed : Mode → Bool}
    {body : State → Nat × List Byte × State} (own : (body { s with dev := s.dev.takeReady h }).2.2.otp = s.otp) :
    KeepsOtp s (.next (s.serve h type roles allowed body)) :=
  keepsOtp_next (State.serve_otp (motive := (· = s.otp)) rfl own)

theorem keepsOtp_recover {h : ReqHdr} {type : Nat} {body : State → Nat × List Byte × State}
    (own : (body { s with dev := s.dev.takeReady h }).2.2.otp = s.otp) : KeepsOtp s (.next (s.recover h type body)) :=
  keepsOtp_next (State.recover_otp (motive := (· = s.otp)) rfl own)

-- In the next two the function that reads memory is kept opaque, or the kernel evaluates it to see the tuple that it answers.

theorem execPassFeedComplete_keepsOtp (core : Fin 32) (array : Fin 4) : KeepsOtp s (execPassFeedComplete core array s) := by
  obtain ⟨read, hread⟩ : ∃ read, @Device.readPass = read := ⟨_, rfl⟩
  unfold execPassFeedComplete
  rw [hread]
  dsimp only
  split <;> exact keepsOtp_next rfl

theorem execEnterReady_keepsOtp (startMs : Nat) : KeepsOtp s (execEnterReady startMs s) := by
  obtain ⟨read, hread⟩ : ∃ read, @Device.readPlan = read := ⟨_, rfl⟩
  unfold execEnterReady
  rw [hread]
  dsimp only
  (repeat' split) <;> exact keepsOtp_next rfl

theorem execSteadyTick_keepsOtp (rails : List RailReading) (other : List OtherReading) :
    KeepsOtp s (execSteadyTick rails other s) := by
  unfold execSteadyTick
  dsimp only
  split <;> exact keepsOtp_next rfl

theorem execPhysAccess_keepsOtp (agent : Agent) (address bytes : Nat) (store : Option (List Byte)) (errors : AccessErrors) :
    KeepsOtp s (execPhysAccess agent address bytes store errors s) := by
  unfold execPhysAccess
  refine keepsOtp_ite (keepsOtp_next rfl) ?_
  split
  case h_3 => exact keepsOtp_next rfl
  all_goals
    exact keepsOtp_ite (keepsOtp_next rfl)
      (keepsOtp_ite (keepsOtp_next (State.componentFault_otp _ _ _ _)) (keepsOtp_next rfl))

theorem execWatchdogExpiry_keepsOtp (component : Fin 8) : KeepsOtp s (execWatchdogExpiry component s) :=
  keepsOtp_ite (keepsOtp_next rfl) (keepsOtp_ite (keepsOtp_next s.hmExpires_otp) (keepsOtp_next rfl))

theorem execStart_keepsOtp (hdr : ReqHdr) (startTurn : Word) (useStartTurn : Bool) :
    KeepsOtp s (execStart hdr startTurn useStartTurn s) := by
  unfold execStart
  split
  · exact keepsOtp_next rfl
  · exact keepsOtp_ite (keepsOtp_next rfl) (keepsOtp_serve rfl)
  · exact keepsOtp_serve rfl

theorem execCloseSession_keepsOtp (hdr : ReqHdr) : KeepsOtp s (execCloseSession hdr s) := by
  have ht : (s.serve hdr 2 roleAll anyState fun s => (St.OK, [], s)).otp = s.otp := State.serve_otp (motive := (· = s.otp)) rfl rfl
  unfold execCloseSession
  dsimp only
  split <;> exact keepsOtp_next ht

theorem execRecoveryCommit_keepsOtp (hdr : ReqHdr) (target total : Nat) : KeepsOtp s (execRecoveryCommit hdr target total s) := by
  refine keepsOtp_next ?_
  split <;> exact State.recover_otp (motive := (· = s.otp)) rfl rfl

/-- Of all commands only the three that write keys, revocations and lifecycle can change OTP or fuses: the branches of every
other answer the state with another device part or mode. -/
theorem exec_keepsOtp (c : Instr) (hreq : ∀ h r, c ≠ .securityRequest h r) (hkey : ∀ h k b, c ≠ .provisionKey h k b)
    (hlife : ∀ h, c ≠ .provisionLifecycle h) : KeepsOtp s (exec c s) := by
  cases c with
  | securityRequest h r => exact absurd rfl (hreq h r)
  | provisionKey h k b => exact absurd rfl (hkey h k b)
  | provisionLifecycle h => exact absurd rfl (hlife h)
  -- The effect is one update of the device part.
  | gptpSync | sourceTimeout | stepRequest | spPeriodWrite | spPhaseWrite | spSlewWrite | fsyncOffsetWrite | holdReleaseNow |
    holdReleaseAtTurn | ppsSecondsArm | spTimeLoRead | nePlanActiveLoRead | dmaBadAddrLoRead | memUeAddrLoRead |
    memProtAddrLoRead | csiTsLoRead | hsSlotSeqLoRead | hsNonceLoRead | pertNonceLoRead | neQstatSelWrite | neQthrWrite |
    neCtrSelWrite | fxWindowWrite | hsMeasSelWrite | hsExtExtend | pertClose | pertSlotEnable | lineAccepted |
    scmEntryComplete | scmTimeout | laneLockLoss | writeReceived | signalReceived | mirrorReceived | takeoverReceived |
    ballastHoldExpiry | safetyChallenge | safetyStopRequest | safetyAliveTick | appMailboxRequest | appMailboxCfgWrite |
    appMailboxRspFreed | asCapableChange | qbvGateChange =>
    exact keepsOtp_next rfl
  -- One guard, or two, stand before the update.
  | porstFall | brownOut | coldStart | warmStart | holdoverExpired | indexBoundary | fsyncAssert | fsyncDeassert |
    ppsOutAssert | ppsOutDeassert | pertSlotEnd | registerWrite | dramScrubStep | shmScrubStep | dramRefreshPoll |
    dramChannelFault | dramRetrainDone | laneSotError | camStreamLost | camIbi | portRetrainDone | e2eTimeout |
    limiterWindow | ballastWindow | railLoss | macsecPeerTimeout | safetyReadFrame | maintDataRead | maintDataWrite |
    maintDoorbell | componentRestartDone | dramIntervalMaintenance =>
    exact keepsOtp_ite (keepsOtp_next rfl) (keepsOtp_next rfl)
  | porstRise | brownOutEnd | fxTrainingComplete | flitReceived | registerClearingRead =>
    exact keepsOtp_ite (keepsOtp_next rfl) (keepsOtp_ite (keepsOtp_next rfl) (keepsOtp_next rfl))
  -- Requests whose own effect leaves OTP alone.
  | keepalive | status | stop | nonce | updateDiscard | updateStatus | replayStop => exact keepsOtp_serve rfl
  | eventRead | eventSubscribe | quote | updateBegin | updateData | updateEnd =>
    exact keepsOtp_serve (by dsimp only; (repeat' split) <;> rfl)
  | pertAuthorise | updateAccept => exact keepsOtp_serve (by dsimp only)
  | replayStart => exact keepsOtp_next (State.serve_otp (motive := (· = s.otp)) rfl (State.startReplay_otp _ _))
  | unknownType => exact keepsOtp_ite (keepsOtp_next rfl) (keepsOtp_serve rfl)
  | recoveryStatus => exact keepsOtp_recover rfl
  | recoveryWrite => exact keepsOtp_recover (by dsimp only; (repeat' split) <;> rfl)
  | restartWarm => exact keepsOtp_next (State.restart_otp State.requestWarm_otp _)
  | restartCold => exact keepsOtp_next (State.restart_otp State.requestCold_otp _)
  -- Commands with a lemma above.
  | steadyTick => exact execSteadyTick_keepsOtp _ _
  | passFeedComplete => exact execPassFeedComplete_keepsOtp _ _
  | enterReady startMs => exact execEnterReady_keepsOtp startMs
  | physAccess agent address bytes store errors => exact execPhysAccess_keepsOtp agent address bytes store errors
  | watchdogExpiry => exact execWatchdogExpiry_keepsOtp _
  | hmWatchdogExpiry => exact keepsOtp_next s.hmExpires_otp
  | start => exact execStart_keepsOtp _ _ _
  | closeSession => exact execCloseSession_keepsOtp _
  | recoveryCommit => exact execRecoveryCommit_keepsOtp _ _ _
  -- What the device holds decides between several updates of it.
  | memTrainingComplete | ppsEdge | passDecisionPoint | descriptorComplete | vectorOpComplete | constantsWritten |
    dmaLoadComplete | dmaReadData | dmaWriteAck | dmaAccessTimeout | mirrorAckTimeout | emitQueueTimeout | dmaDescBad |
    frameStart | frameEnd | ignoredShortPacket | longPacket | frameTimeout | frameCompletion | warpBandStart |
    warpBandComplete | encodeComplete | logData | decodeComplete | replayFrameStart | replayLineDelivery | transitReceived |
    ackReceived | heartbeatReceived | alignReceived | logRecordMove | turnHealthRecord | groupReportWrite | voltageReached |
    thermalSample | ethFrameReceived | reassemblyTimeout | sessionIdleTimeout | openSession | modelReadResponse |
    modelReadTimeout | fetchRetry | csiLaneSync | ethFrameTransmitted =>
    dsimp only [exec, execMemTrainingComplete, execPpsEdge, execPassDecisionPoint, execDescriptorComplete, execVectorOpComplete,
      execConstantsWritten, execDmaLoadComplete, execDmaReadData, execDmaWriteAck, execDmaAccessTimeout,
      execMirrorAckTimeout, execEmitQueueTimeout, execDmaDescBad, execFrameStart, execFrameEnd, execIgnoredShortPacket,
      execLongPacket, execFrameTimeout, execFrameCompletion, execWarpBandStart, execWarpBandComplete,
      execEncodeComplete, execLogData, execDecodeComplete, execReplayFrameStart, execReplayLineDelivery,
      execTransitReceived, execAckReceived, execHeartbeatReceived, execAlignReceived, execLogRecordMove,
      execTurnHealthRecord, execGroupReportWrite, execVoltageReached, execThermalSample, execEthFrameReceived,
      execReassemblyTimeout, execSessionIdleTimeout, execOpenSession, execModelReadResponse, execModelReadTimeout,
      execFetchRetry, execCsiLaneSync, execEthFrameTransmitted]
    (repeat' split) <;> exact keepsOtp_next rfl

-- What the three commands that write OTP can make of it.

/-- The change of OTP that one command can make (15 R493, R494). -/
structure OtpGains (o p : Otp) : Prop where
  vendor : ∀ k, slotHeld o.vendor k → p.vendor[k]? = o.vendor[k]?
  owner : ∀ k, slotHeld o.owner k → p.owner[k]? = o.owner[k]?
  vendorRevoked : o.vendorRevoked &&& p.vendorRevoked = o.vendorRevoked
  ownerRevoked : o.ownerRevoked &&& p.ownerRevoked = o.ownerRevoked
  seed : p.seed = o.seed
  macs : p.macs = o.macs
  lifecycle : lifecycleEdge o.lifecycle p.lifecycle

variable {o p q : Otp}

theorem OtpGains.refl (o : Otp) : OtpGains o o where
  vendor _ _ := rfl
  owner _ _ := rfl
  vendorRevoked := BitVec.and_self
  ownerRevoked := BitVec.and_self
  seed := rfl
  macs := rfl
  lifecycle := .inl rfl

theorem bitVec_and_or_self {w : Nat} (a b : BitVec w) : a &&& (a ||| b) = a := by
  ext i hi
  simpa using Or.inl

/-- A revocation sets one bit of one class (15 R493). -/
theorem OtpGains.revoke (o : Otp) (cls slot : Nat) : OtpGains o (o.revoke cls slot) := by
  unfold Otp.revoke
  dsimp only
  split
  · exact { OtpGains.refl o with vendorRevoked := bitVec_and_or_self _ _ }
  · exact { OtpGains.refl o with ownerRevoked := bitVec_and_or_self _ _ }

theorem OtpGains.setLifecycle {l : Lifecycle} (h : lifecycleEdge o.lifecycle l) : OtpGains o { o with lifecycle := l } :=
  { OtpGains.refl o with lifecycle := h }

/-- An absent owner slot holds no key. -/
theorem not_slotHeld_of_absent {k : Nat} (h : o.present 1 k = false) : ¬ slotHeld o.owner k := by
  rintro ⟨v, hv, hz⟩
  have hkey : o.key 1 k = v := by simp [Otp.key, hv]
  have hzero : allZero v = true := by simpa [Otp.present, hkey, allZero] using h
  rw [hzero] at hz
  cases hz

/-- A key goes into an absent owner slot alone (15 R493, R495). -/
theorem OtpGains.setOwner {slot : Nat} (h : o.present 1 slot = false) (key : List Byte) :
    OtpGains o { o with owner := lset o.owner slot key } :=
  { OtpGains.refl o with
    owner := fun k hk =>
      have hne : slot ≠ k := fun e => not_slotHeld_of_absent h (e ▸ hk)
      List.getElem?_set_ne hne }

/-- A lifecycle change by request follows an edge of 15 R494. -/
theorem lifecycleEdge_of_lifeChange {now l : Lifecycle} {target : Nat} (h : lifeChange now target = some l) :
    lifecycleEdge now l := by
  unfold lifeChange at h
  split at h <;> simp_all [lifecycleEdge]

/-- An accepted request revokes a key, moves the lifecycle, or leaves OTP alone. -/
theorem OtpGains.applyRequest (s : State) (r : List Byte) : OtpGains s.otp (s.applyRequest r).otp := by
  unfold State.applyRequest
  split
  · exact .revoke _ _ _
  · split
    · next hl => exact .setLifecycle (lifecycleEdge_of_lifeChange hl)
    · exact .refl _
  · exact .refl _

theorem OtpGains.securityCheck (s : State) (r : List Byte) : OtpGains s.otp (s.securityCheck r).2.otp := by
  unfold State.securityCheck
  dsimp only
  split
  · exact .applyRequest s r
  · exact .refl _

theorem execSecurityRequest_gains {t : State} (h : ReqHdr) (r : List Byte) (e : execSecurityRequest h r s = .next t) :
    OtpGains s.otp t.otp := by
  cases e
  exact State.serve_otp (.refl _) (OtpGains.securityCheck { s with dev := s.dev.takeReady h } r)

theorem execProvisionKey_gains {t : State} (h : ReqHdr) (slot : Nat) (key : List Byte)
    (e : execProvisionKey h slot key s = .next t) : OtpGains s.otp t.otp := by
  cases e
  refine State.provision_otp (.refl _) ?_
  dsimp only
  split
  · exact .refl _
  · split
    · exact .refl _
    · next habsent => exact .setOwner (Bool.of_not_eq_true habsent) key

theorem execProvisionLifecycle_gains {t : State} (h : ReqHdr) (e : execProvisionLifecycle h s = .next t) :
    OtpGains s.otp t.otp := by
  cases e
  refine State.provision_otp (.refl _) ?_
  dsimp only
  split
  · exact .refl _
  · next hok =>
    have hblank : s.otp.lifecycle = .blank := Decidable.byContradiction fun hl => hok (.inl hl)
    exact .setLifecycle (.inr (.inl ⟨hblank, rfl⟩))

/-- Whatever the command, OTP only gains. -/
theorem exec_gains {c : Instr} {t : State} (e : exec c s = .next t) : OtpGains s.otp t.otp := by
  by_cases hreq : ∃ h r, c = .securityRequest h r
  · obtain ⟨h, r, rfl⟩ := hreq
    exact execSecurityRequest_gains h r e
  by_cases hkey : ∃ h k b, c = .provisionKey h k b
  · obtain ⟨h, k, b, rfl⟩ := hkey
    exact execProvisionKey_gains h k b e
  by_cases hlife : ∃ h, c = .provisionLifecycle h
  · obtain ⟨h, rfl⟩ := hlife
    exact execProvisionLifecycle_gains h e
  have hsame : t.otp = s.otp := exec_keepsOtp c (fun h r hc => hreq ⟨h, r, hc⟩) (fun h k b hc => hkey ⟨h, k, b, hc⟩)
    (fun h hc => hlife ⟨h, hc⟩) t e
  rw [hsame]
  exact .refl _

-- What was once in OTP stays.

/-- The lifecycle's edges lead to no earlier state. -/
theorem lifecycleEdge.code_le {a b : Lifecycle} (h : lifecycleEdge a b) : lifecycleCode a ≤ lifecycleCode b := by
  rcases h with rfl | ⟨rfl, rfl⟩ | ⟨rfl, rfl⟩ | ⟨rfl, rfl⟩ | ⟨rfl, rfl⟩
  · exact Nat.le_refl _
  all_goals decide

/-- A slot held at first and kept since keeps its key once more. -/
theorem slot_kept_trans {x y z : List (List Byte)} (hxy : ∀ k, slotHeld x k → y[k]? = x[k]?)
    (hyz : ∀ k, slotHeld y k → z[k]? = y[k]?) (k : Nat) (hk : slotHeld x k) : z[k]? = x[k]? := by
  have hy : slotHeld y k := by
    obtain ⟨v, hv, hz⟩ := hk
    exact ⟨v, (hxy k ⟨v, hv, hz⟩).trans hv, hz⟩
  exact (hyz k hy).trans (hxy k hk)

/-- Bits set at first and kept since are kept once more. -/
theorem bits_kept_trans {w : Nat} {x y z : BitVec w} (hxy : x &&& y = x) (hyz : y &&& z = y) : x &&& z = x := by
  calc x &&& z = x &&& y &&& z := by rw [hxy]
    _ = x &&& (y &&& z) := BitVec.and_assoc ..
    _ = x := by rw [hyz, hxy]

theorem OtpGains.keeps (h : OtpGains p q) (kept : otpKept o p) : otpKept o q := by
  obtain ⟨hv, ho, hvr, hor, hseed, hmacs, hlife⟩ := kept
  exact ⟨slot_kept_trans hv h.vendor, slot_kept_trans ho h.owner, bits_kept_trans hvr h.vendorRevoked,
    bits_kept_trans hor h.ownerRevoked, h.seed.trans hseed, h.macs.trans hmacs, Nat.le_trans hlife h.lifecycle.code_le⟩

/-- A step is idle or a command's. -/
theorem step_gains {t : State} (e : step s = .next t) : OtpGains s.otp t.otp := by
  unfold step at e
  split at e
  · cases e
    exact .refl _
  · have hgains := exec_gains e
    exact hgains

end Sys2Proof.Safety

open Sys2Proof.Machine Sys2Proof.Safety

/-- Settles O5: every command leaves OTP alone, fills an absent key slot, sets a revocation bit or moves the lifecycle along an
edge, and so keeps whatever OTP has kept. -/
theorem otpOnlyGainsKeysAndRevocations : Obligations.OtpOnlyGainsKeysAndRevocations := by
  refine ⟨fun c s t e => ?_, fun o s t kept e => (step_gains e).keeps kept⟩
  obtain ⟨hv, ho, hvr, hor, hseed, hmacs, hlife⟩ := exec_gains e
  exact ⟨hv, ho, hvr, hor, hseed, hmacs, hlife⟩

end
